-- ==== Sys2Proof/Word.lean ====
section
/-! DEFINITION. The word types of the HJ740: bytes, 32-bit counts, and the numbers that name ports, lanes and records
(00_scope.md, "Identifiers and capacities"). -/

namespace Sys2Proof

/-- A byte on a port or in a page. -/
abbrev Byte := BitVec 8

/-- A 32-bit unsigned field: stream positions, compare values, notice values (R25, R190). -/
abbrev Word32 := BitVec 32

/-- One of the four station ports P0..P3 (R184). -/
abbrev Port := Fin 4

/-- One of the two render lanes L0, L1 (R96). -/
abbrev Lane := Fin 2

/-- A title number, 0..7 (R2). -/
abbrev TitleNo := Fin 8

/-- A take id, 0..127 (R7). -/
abbrev TakeId := Fin 128

/-- A chapter id, 0..63 (R10). -/
abbrev ChapterId := Fin 64

/-- A profile number, 0..3 (R149). -/
abbrev ProfileNo := Fin 4

/-- A rate code, 0..3 (R2). -/
abbrev RateCode := Fin 4

/-- A sample's value. A sample is in −8,388,608..8,388,607; the arithmetic on samples is done at full precision
(00_scope.md, "Numbers"), so intermediate values are plain integers. -/
abbrev Sample := Int

end Sys2Proof
end

