-- ==== Sys2Proof/Config.lean ====
section
/-! DEFINITION. What the manual leaves open: two orders inside one event, as constants with no body. Nothing can
evaluate them, so what is proved holds for either order. The capacities the manual fixes stand here too. -/

namespace Sys2Proof

/-- DESIGN CHOICE, a free value (log 9). A blended sample may lack the pages of both its steps at once; R98 does not say which of
the two page reads the lane posts first. -/
opaque Config.blendReadsPreviousFirst : Bool

/-- DESIGN CHOICE, a free value (log 10). One erase start can both lower the free count to 64 (R82) and take the last DIRTY block of
the sweep (R81); the manual does not order the two notices. -/
opaque Config.storeLowBeforeSwept : Bool

/-- Places in a capture FIFO (R26). -/
def Config.fifoPlaces : Nat := 4096

/-- Samples in a page (R63). -/
def Config.pageSamples : Nat := 1024

/-- Bytes in a page (R63). -/
def Config.pageBytes : Nat := 3072

/-- Pages in a block (R63). -/
def Config.blockPages : Nat := 64

/-- Blocks of the array (R63). -/
def Config.storeBlocks : Nat := 16384

/-- The largest take length (R36). -/
def Config.takeLimit : Nat := 2 ^ 28

/-- Records in a notice queue (R190). -/
def Config.noticePlaces : Nat := 16

/-- Marks in a take's list (R34). -/
def Config.markPlaces : Nat := 64

/-- Entries of the render queue (R87). -/
def Config.queuePlaces : Nat := 16

/-- Blocks kept from render allocations (R74). -/
def Config.renderReserve : Nat := 16

/-- The low-store threshold on the free count (R82). -/
def Config.lowStore : Nat := 64

end Sys2Proof
end

