-- ==== Sys2Proof/Syntax.lean ====
section
/-! DEFINITION. The commands of the HJ740: one constructor per row of spec/opcode_table.json, and the kinds of request.
 A request row is the event in which the owning block takes the request (R185); its operands are the port and the
 parameter bytes. The other rows carry what their rule reads from the port's pins. -/

namespace Sys2Proof

/-- The request kinds of the manual (R1, R25, R47, R83, R84, R89, R150, R154, R173, R175, R193, R198). -/
inductive ReqKind where
  | titleDefine
  | titleDrop
  | titleProfile
  | titleInfo
  | chapterCreate
  | chapterOpen
  | chapterClose
  | chapterDiscard
  | chapterMove
  | chapterInfo
  | takeStart
  | gateSet
  | takeStop
  | takeRetire
  | takeInfo
  | levels
  | scriptPoint
  | scriptWrite
  | scriptRead
  | storeInfo
  | purge
  | render
  | renderSet
  | renderCancel
  | queueInfo
  | publish
  | collect
  | profileSet
  | profileGet
  | streamOpen
  | streamClose
  | subscribe
  | deviceInfo
deriving DecidableEq, Repr

/-- The moment of a transaction that a row stands for (R184). -/
inductive Moment (α : Type) where
  /-- The transaction byte has been received. -/
  | opens
  /-- The moment at which the row's kind acts: the count byte of a CAPTURE, for the other kinds the rise of chip-select.
  `x` is what was received or clocked out by then. -/
  | acts (x : α)
deriving DecidableEq, Repr

/-- The rise of chip-select of a CAPTURE (R28): its port, and how many bytes were received in full after the last complete
sample. -/
structure CaptureRise where
  port : Port
  trailing : Nat
deriving DecidableEq, Repr

/-- The commands: the rows of spec/opcode_table.json. -/
inductive Instr where
  /-- TITLE_DEFINE (R3): Request 0x10 defines an undefined title with its rate code, profile and auto flag. -/
  | titleDefine (p : Port) (params : List Byte)
  /-- TITLE_DROP (R4): Request 0x11 undefines a title that has no takes and no chapters. -/
  | titleDrop (p : Port) (params : List Byte)
  /-- TITLE_PROFILE (R5): Request 0x12 changes a defined title's profile number, its auto flag, or both. -/
  | titleProfile (p : Port) (params : List Byte)
  /-- TITLE_INFO (R23): Request 0x13 reports a title's settings, its chapter list and its rendered duration. -/
  | titleInfo (p : Port) (params : List Byte)
  /-- CHAPTER_CREATE (R14): Request 0x30 creates an ASSEMBLING chapter at a clamped position, with the requester as editor. -/
  | chapterCreate (p : Port) (params : List Byte)
  /-- CHAPTER_OPEN (R16): Request 0x31 claims an assembling chapter, or returns a finished chapter to ASSEMBLING and drops its render state, output and references. -/
  | chapterOpen (p : Port) (params : List Byte)
  /-- CHAPTER_CLOSE (R17): Request 0x32 validates the editor's script and on success makes the chapter READY or auto-queues it. -/
  | chapterClose (p : Port) (params : List Byte)
  /-- CHAPTER_DISCARD (R19): Request 0x33 lets go of a non-published chapter's render state and output and frees its record. -/
  | chapterDiscard (p : Port) (params : List Byte)
  /-- CHAPTER_MOVE (R20): Request 0x34 moves a chapter to a clamped new position in its title. -/
  | chapterMove (p : Port) (params : List Byte)
  /-- CHAPTER_INFO (R24): Request 0x35 reports a chapter record, its title offset and its result group. -/
  | chapterInfo (p : Port) (params : List Byte)
  /-- TAKE_START (R27): Request 0x20 creates a take and opens the port's capture stream with the given gate and compare values. -/
  | takeStart (p : Port) (params : List Byte)
  /-- GATE_SET (R31): Request 0x21 replaces A, B and INC of the port's stream and may write the gate directly. -/
  | gateSet (p : Port) (params : List Byte)
  /-- TAKE_STOP (R37): Request 0x22 stops the port's capture with reason REQUESTED. -/
  | takeStop (p : Port) (params : List Byte)
  /-- TAKE_RETIRE (R42): Request 0x23 frees a CLOSED, unreferenced take and releases its blocks. -/
  | takeRetire (p : Port) (params : List Byte)
  /-- TAKE_INFO (R41): Request 0x24 reports a take's summary together with a page of its marks or with its measures. -/
  | takeInfo (p : Port) (params : List Byte)
  /-- LEVELS (R40): Request 0x25 reports the four live level entries. -/
  | levels (p : Port) (params : List Byte)
  /-- SCRIPT_POINT (R48): Request 0x38 sets the script cursor, clamping values above 31. -/
  | scriptPoint (p : Port) (params : List Byte)
  /-- SCRIPT_WRITE (R49): Request 0x39 stores a step, with its fields treated and clamped, in the slot at the cursor and advances the cursor. -/
  | scriptWrite (p : Port) (params : List Byte)
  /-- SCRIPT_READ (R51): Request 0x3A returns the step at the cursor and advances the cursor. -/
  | scriptRead (p : Port) (params : List Byte)
  /-- STORE_INFO (R83): Request 0x60 reports the pools, the erase in progress and the block accounts. -/
  | storeInfo (p : Port) (params : List Byte)
  /-- PURGE (R84): Request 0x61 frees all takes, streams, jobs and unpublished chapters and clears the scripts of published chapters. -/
  | purge (p : Port) (params : List Byte)
  /-- RENDER (R90): Request 0x40 queues a chapter, releasing any output it owns, or restarts its running job. -/
  | render (p : Port) (params : List Byte)
  /-- RENDER_SET (R91): Request 0x41 queues 1 to 4 chapters as one unit, all or none. -/
  | renderSet (p : Port) (params : List Byte)
  /-- RENDER_CANCEL (R92): Request 0x42 removes a queued chapter or aborts its job and leaves it READY. -/
  | renderCancel (p : Port) (params : List Byte)
  /-- QUEUE_INFO (R93): Request 0x43 reports the queue entries and the state of both lanes. -/
  | queueInfo (p : Port) (params : List Byte)
  /-- PUBLISH (R94): Request 0x44 locks a RENDERED chapter as PUBLISHED. -/
  | publish (p : Port) (params : List Byte)
  /-- COLLECT (R95): Request 0x45 releases a published chapter's output and makes it READY, or frees it if its script was cleared. -/
  | collect (p : Port) (params : List Byte)
  /-- PROFILE_SET (R150): Request 0x50 writes a whole profile record, with its fields clamped. -/
  | profileSet (p : Port) (params : List Byte)
  /-- PROFILE_GET (R154): Request 0x51 reads a profile record. -/
  | profileGet (p : Port) (params : List Byte)
  /-- STREAM_OPEN (R173): Request 0x62 places the port's stream on a chapter output or a closed take at an offset. -/
  | streamOpen (p : Port) (params : List Byte)
  /-- STREAM_CLOSE (R175): Request 0x63 returns the port's stream to IDLE and reports its previous status. -/
  | streamClose (p : Port) (params : List Byte)
  /-- SUBSCRIBE (R193): Request 0x70 replaces the port's broadcast subscription set. -/
  | subscribe (p : Port) (params : List Byte)
  /-- DEVICE_INFO (R198): Request 0x71 reports the family code, the revision and the requesting port number. -/
  | deviceInfo (p : Port) (params : List Byte)
  /-- REQUEST (R185): At chip-select rise of a REQUEST transaction the port drops the request, answers it itself, or passes it on to its owning block. At the rise, the bytes received in full after the transaction byte. -/
  | request (p : Port) (m : Moment (List Byte))
  /-- FETCH (R187): A FETCH transaction sends out the response slot and empties it at chip-select rise if the whole response was clocked out. At the rise, the number of bytes clocked out in full after the transaction byte. -/
  | fetch (p : Port) (m : Moment Nat)
  /-- NOTICES (R191): A NOTICES transaction begins sending the head notice record, or an EMPTY record. -/
  | notices (p : Port)
  /-- NOTICE_RECORD_SENT (R191): When the eighth byte of a record has been clocked out, the head notice is removed and the next record begins. -/
  | noticeRecordSent (p : Port)
  /-- CAPTURE (R28): A CAPTURE transaction receives its count byte while the port sends out the free FIFO space. The count byte is 0 for 256. -/
  | capture (p : Port) (m : Moment Byte)
  /-- CAPTURE_SAMPLE (R29): A complete sample arrives at the capture stream and passes the compare unit, the gate and the keep-or-drop decision. `x`: its three bytes in the order clocked in, the third just now. -/
  | captureSample (p : Port) (x : Byte × Byte × Byte)
  /-- CAPTURE_END (R28): At chip-select rise of a CAPTURE transaction that found the stream NONE or CLOSING, a CAPTURE_IGNORED notice is posted. -/
  | captureEnd (rise : CaptureRise)
  /-- TAKE_FULL (R36): The take length reaching 2^28 stops the stream with reason TAKE_FULL and posts TAKE_STOPPED. -/
  | takeFull (p : Port)
  /-- POSITION_LIMIT (R36): A sample at stream position 2^32 − 1 stops the stream with reason POSITION_LIMIT and posts TAKE_STOPPED. -/
  | positionLimit (p : Port)
  /-- TAKE_CLOSED (R38): Once a CLOSING take has drained, it becomes CLOSED, the slot becomes NONE and a TAKE_CLOSED notice is posted. -/
  | takeClosed (p : Port)
  /-- LIVE_BLOCK (R39): The live meter's block count reaching N stores the block's loudness code in the live level entry. -/
  | liveBlock (p : Port)
  /-- STREAM_DATA (R178): A STREAM_DATA transaction fixes the status and the ready count and sends them out. -/
  | streamData (p : Port)
  /-- DATA_BYTE_DELIVERED (R179): A data byte delivered advances the cursor, wrapping at the source end, and may retire a segment and post a fetch. -/
  | dataByteDelivered (p : Port)
  /-- STREAM_DATA_END (R181): At chip-select rise of a STREAM_DATA transaction, counted bytes not delivered stay in the read-ahead, or are discarded if the stream changed. -/
  | streamDataEnd (p : Port)
  /-- ATTENTION_READ (R196): ATTENTION operation 0 returns the pending bits, raw conditions, mask and mode. The transaction byte, which the four operations share, or the rise with the number of bytes clocked in full after it. -/
  | attentionRead (p : Port) (m : Moment Nat)
  /-- ATTENTION_CLEAR (R196): ATTENTION operation 1 clears edge-mode pending bits, and for bit 2 also the LOST flag. At the rise of chip-select: the value byte, and the number `n` of bytes clocked in full after the transaction byte. -/
  | attentionClear (p : Port) (value : Byte) (n : Nat)
  /-- ATTENTION_MASK (R196): ATTENTION operation 2 writes the source mask. At the rise of chip-select: the value byte, and the number `n` of bytes clocked in full after the transaction byte. -/
  | attentionMask (p : Port) (value : Byte) (n : Nat)
  /-- ATTENTION_MODE (R196): ATTENTION operation 3 writes the edge or level mode of each source. At the rise of chip-select: the value byte, and the number `n` of bytes clocked in full after the transaction byte. -/
  | attentionMode (p : Port) (value : Byte) (n : Nat)
  /-- PORT_RESET (R199): A single-byte PORT_RESET transaction resets the port's slot, queue, attention, stream, capture and claims. `extra`: the clock edges beyond the first eight. -/
  | portReset (p : Port) (extra : Nat)
  /-- IGNORED_TRANSACTION (R184): A transaction with an unknown transaction byte is ignored to chip-select rise. `tb`: the unknown transaction byte; `n`: the bytes clocked after it. -/
  | ignoredTransaction (p : Port) (tb : Byte) (n : Nat)
  /-- DEVICE_RESET (R200): RSTN or power-on returns every block to its initial state and starts the sweep. -/
  | deviceReset
  /-- PAGE_READ_COMPLETE (R80): A page read completes and its bytes go to the lane or the port read-ahead, or are discarded. -/
  | pageReadComplete
  /-- CAPTURE_PAGE_PROGRAMMED (R77): A capture page program completes, freeing its buffer so the stream may offer its next page. -/
  | capturePageProgrammed
  /-- OUTPUT_PAGE_PROGRAMMED (R78): A render output page program completes, freeing its buffer so the lane may offer its next page or its header page. -/
  | outputPageProgrammed
  /-- BACKGROUND_ERASE_COMPLETE (R71): A background erase completes, the block joins the ERASED pool and the next request is posted. -/
  | backgroundEraseComplete
  /-- BUILT_IN_ERASE_COMPLETE (R72): A built-in erase completes into its allocation's chain, or into ERASED if the allocation has gone. -/
  | builtInEraseComplete
  /-- PAGE_LOAD (R75): A waiting offered page is loaded into a FREE program buffer, capture pages first. -/
  | pageLoad
  /-- WAITING_ALLOCATION_SERVED (R73): A block joining the ERASED pool goes to the first waiting capture allocation, then to a waiting render allocation judged against the reserve. -/
  | waitingAllocationServed
  /-- MEASURE_SAMPLE (R99): The lane produces the next sample of x once its take page is held and feeds it to the input meter. -/
  | measureSample (l : Lane)
  /-- METER_BLOCK (R114): A meter's block count reaching N computes the block's loudness code and adds it to the histogram, floor, head and tail. -/
  | meterBlock (l : Lane)
  /-- MEASURE_END (R99): After the last sample of MEASURE the input meter is gated and the job ends SILENT or computes its gain and enters ENCODE. -/
  | measureEnd (l : Lane)
  /-- ENCODE_FRAME (R146): Once a frame's samples are in hand, the lane applies gain, limiter and coder, meters r and places the frame's bytes. -/
  | encodeFrame (l : Lane)
  /-- ENCODE_END (R101): After the last frame the output meter is completed, the digest fixed and the verify fixes the outcome. -/
  | encodeEnd (l : Lane)
deriving DecidableEq, Repr

end Sys2Proof
end

