-- ==== Sys2Proof/Machine/State.lean ====
section
/-! DEFINITION. The state of the HJ740 as plain data, block by block, and its value right after device reset.
Each fact is held once: the block map of R64 is a view of the pools, the array and the owners' chains; the attention
conditions of R194 and the attention line of R197 are views of the ports. -/

namespace Sys2Proof.Machine

/-- No command of the HJ740 faults: requests are answered by result codes (R189), and what cannot be kept is dropped
and reported (R32, R190). -/
inductive Fault where
deriving DecidableEq, Repr

/-- Why a command has no meaning. -/
inductive Refusal where
  /-- Raised only by an arm of exec for a command the model has not reached yet; safe. No arm raises it. -/
  | notModelled (mnemonic : String)
deriving DecidableEq, Repr

/-! ### Catalogue records (R2, R7, R10) -/

/-- A defined title (R2). -/
structure Title where
  rate : RateCode
  profile : ProfileNo
  auto : Bool
  /-- The chapter ids in position order (R6). -/
  chapters : List ChapterId
  takeCount : Nat
deriving DecidableEq, Repr

/-- Take states (R7). -/
inductive TakeState where
  | capturing
  | closing
  | closed
deriving DecidableEq, Repr

/-- Stop reasons of a take record (R7); PURGED (code 4) is carried by notices only (R25). -/
inductive StopReason where
  | requested
  | portReset
  | takeFull
  | positionLimit
deriving DecidableEq, Repr

/-- Mark kinds (R25). -/
inductive MarkKind where
  | cutIn
  | cutOut
  | dropout
deriving DecidableEq, Repr

/-- A cut mark (R34). -/
structure Mark where
  kind : MarkKind
  index : Nat
  value : Nat
deriving DecidableEq, Repr

/-- A take record in use (R7). The first block, last block and block count are those of `chain`. -/
structure Take where
  title : TitleNo
  state : TakeState
  port : Option Port
  length : Nat
  peak : Int
  dropout : Bool
  marksLost : Bool
  stopReason : Option StopReason
  dropoutTotal : Nat
  marks : List Mark
  chain : List Nat
  refs : Nat
deriving DecidableEq, Repr

/-- Step kinds (R46): END, SPLICE, TONE. -/
inductive StepKind where
  | finish
  | splice
  | tone
deriving DecidableEq, Repr

/-- A script slot (R46). -/
structure Step where
  kind : StepKind
  take : TakeId
  start : Nat
  len : Nat
  fill : Nat
  xf : Nat
  trim : Int
deriving DecidableEq, Repr

/-- An END slot with every other field 0 (R45). -/
def Step.blank : Step := ⟨.finish, 0, 0, 0, 0, 0, 0⟩

/-- Chapter states (R11). -/
inductive ChapterState where
  | assembling
  | ready
  | queued
  | rendering
  | rendered
  | rejected
  | published
deriving DecidableEq, Repr

/-- The ten reasons of a reason set, in bit order (R161). -/
inductive Reason where
  | loudLow
  | loudHigh
  | clips
  | floor
  | headShort
  | headLong
  | tailShort
  | tailLong
  | silent
  | tooLong
deriving DecidableEq, Repr

/-- A chapter's output as its result group records it (R10). -/
structure Output where
  bytes : Nat
  frames : Nat
  digest : Word32
  chain : List Nat
deriving DecidableEq, Repr

/-- The render result group (R10, R102 to R104). A member that a job left absent is none. The reason set is a list
without repeats in bit order. -/
structure ResultGroup where
  profileNo : ProfileNo
  origin : Port
  li : Option Int
  inPeak : Option Int
  gain : Option Int
  lo : Option Int
  outPeak : Option Int
  clips : Option Nat
  largest : Option Nat
  floor : Option Int
  head : Option Nat
  tail : Option Nat
  reasons : List Reason
  output : Option Output
deriving DecidableEq, Repr

/-- A chapter record in use (R10). -/
structure Chapter where
  title : TitleNo
  position : Nat
  state : ChapterState
  editor : Option Port
  slots : Vector Step 32
  cursor : Nat
  assembled : Option Nat
  scriptCleared : Bool
  result : Option ResultGroup
deriving DecidableEq, Repr

/-! ### Capture unit (R26) -/

/-- The punch gate. -/
inductive Gate where
  | shut
  | opened
deriving DecidableEq, Repr

/-- A capture stream that is present (R26); `closing` tells CLOSING from CAPTURING. -/
structure Stream where
  take : TakeId
  closing : Bool
  /-- The stream position p. -/
  pos : Word32
  /-- The model's own bit: the sample at position 2^32 − 1 has passed (R36). False between events. -/
  atLimit : Bool
  gate : Gate
  a : Word32
  b : Word32
  inc : Word32
  /-- Kept samples not yet loaded, oldest first. -/
  fifo : List Sample
  /-- The dropout run's count. -/
  run : Option Nat
  /-- Live meter (R39): previous kept sample, block energy, samples in the block, largest magnitude. -/
  prev : Sample
  energy : Nat
  count : Nat
  largest : Nat
deriving DecidableEq, Repr

/-- A live level entry (R26, R39). -/
structure LevelEntry where
  present : Bool
  take : Option TakeId
  gate : Gate
  lastBlock : Int
  peak : Int
  position : Word32
deriving DecidableEq, Repr

/-! ### Sample store (R63 to R80) -/

/-- What a page or an erase is for: a capture stream or a lane. -/
inductive Source where
  | stream (p : Port)
  | lane (l : Lane)
deriving DecidableEq, Repr

/-- Who reads pages (R80). -/
inductive Reader where
  | lane (l : Lane)
  | port (p : Port)
deriving DecidableEq, Repr

/-- What a LOADED page waits for: nothing but the arbiter (its target block is in the chain), a block with no erase
request posted, a block with its erase request posted, or its own built-in erase in progress (R72 to R74). -/
inductive Target where
  | placed
  | unposted
  | posted
  | erasing
deriving DecidableEq, Repr

/-- A program buffer (R75). `page` counts along the owner's chain, `slot` is the page's place in the array. -/
inductive Buffer where
  | free
  | loaded (src : Source) (page : Nat) (bytes : List Byte) (target : Target)
  | programming (src : Source) (gone : Bool) (page slot : Nat) (bytes : List Byte)
deriving DecidableEq, Repr

/-- The purpose of an erase (R64). -/
inductive Purpose where
  | background
  | builtIn (src : Source)
deriving DecidableEq, Repr

/-- The array (R68). `gone` records that the requester has gone meanwhile. `slot` is block · 64 + page. -/
inductive ArrayOp where
  | idle
  | reading (who : Reader) (gone : Bool) (slot : Nat)
  | programming (buf : Fin 2)
  | erasing (block : Nat) (purpose : Purpose) (gone : Bool)
deriving DecidableEq, Repr

/-- The sample store. `mem` lists the bytes that are not 0x00, addresses strictly rising. -/
structure Store where
  erased : List Nat
  dirty : List Nat
  array : ArrayOp
  buffers : Vector Buffer 2
  /-- Last served of tier 1 (streams), tier 3 (0, 1 for L0, L1, then 2..5 for P0..P3) and tier 4 (lanes), R69. -/
  last1 : Port
  last3 : Fin 6
  last4 : Lane
  /-- The stream and the lane last loaded (R75). -/
  loadedStream : Port
  loadedLane : Lane
  sweep : Bool
  mem : List Host.Cell
deriving DecidableEq, Repr

/-! ### Profiles, meters and jobs (R149, R112, R96) -/

/-- A profile record (R149). -/
structure Profile where
  target : Int
  tolerance : Nat
  ceiling : Int
  lb : Nat
  rel : Nat
  clips : Nat
  floorMax : Int
  qs : Int
  hmin : Nat
  hmax : Nat
  tmin : Nat
  tmax : Nat
  ga : Int
  roff : Nat
  m : Nat
  keep : Bool
  maxLen : Nat
deriving DecidableEq, Repr

/-- A histogram bin: how many blocks have its code, and the sum of their mean squares (R115). -/
structure Bin where
  count : Nat
  sum : Nat
deriving DecidableEq, Repr

/-- A meter (R112). The input meter leaves `floor`, `head`, `headClosed` and `tail` cleared. -/
structure Meter where
  prev : Sample
  energy : Nat
  count : Nat
  blocks : Nat
  hist : Vector Bin 961
  peak : Nat
  floor : Option Int
  head : Nat
  headClosed : Bool
  tail : Nat
deriving DecidableEq, Repr

/-- The cleared meter (R112). -/
def Meter.clear : Meter := ⟨0, 0, 0, 0, Vector.replicate 961 ⟨0, 0⟩, 0, none, 0, false, 0⟩

/-- The state of the limiter, the coder and the digest (R131). -/
structure Chain where
  rPrev : Nat
  clips : Nat
  largest : Nat
  lastLimited : Sample
  lastDecoded : Sample
  framesDone : Nat
  byteTotal : Nat
  crc : Word32
deriving DecidableEq, Repr

/-- The chapter-start values of R131. -/
def Chain.start : Chain := ⟨0, 0, 0, 0, 0, 0, 0, 0xFFFFFFFF⟩

/-- A take page held by a lane for one step (R98). -/
structure HeldPage where
  step : Nat
  page : Nat
  bytes : List Byte
deriving DecidableEq, Repr

/-- A lane's page read, waiting or in progress (R80, R98). -/
structure LaneRead where
  step : Nat
  page : Nat
  slot : Nat
  inProgress : Bool
deriving DecidableEq, Repr

/-- Phases of a lane that is not IDLE (R96). -/
inductive Phase where
  | measure
  | encode
deriving DecidableEq, Repr

/-- What the end of ENCODE fixes while the output is being finished (R101, R147). -/
structure Finish where
  reasons : List Reason
  digest : Word32
  lo : Int
  outPeak : Int
  floor : Option Int
  head : Nat
  tail : Nat
deriving DecidableEq, Repr

/-- A job record (R96). The members from `li` to `chain` and from `header` to `inHand` are placeholders until the
end of MEASURE sets them (log 32). -/
structure Job where
  chapter : ChapterId
  origin : Port
  profileNo : ProfileNo
  profile : Profile
  title : TitleNo
  rate : RateCode
  position : Nat
  total : Nat
  phase : Phase
  done : Nat
  input : Meter
  li : Int
  inPeak : Int
  gain : Int
  chain : Chain
  output : Meter
  /-- The frame bytes of the header page (after its 32 header bytes), the assembly page and its page number. -/
  header : List Byte
  assembly : List Byte
  pageIndex : Nat
  /-- Frame bytes not yet placed (R146). -/
  waiting : List Byte
  /-- Samples of x produced for the next frame. -/
  inHand : List Sample
  finishing : Option Finish
  /-- The partial output chain. -/
  blocks : List Nat
  pages : List HeldPage
  read : Option LaneRead
deriving DecidableEq, Repr

/-- Origin kinds of queue entries (R87). -/
inductive OriginKind where
  | render
  | set
  | auto
deriving DecidableEq, Repr

/-- A render queue entry (R87). -/
structure Entry where
  chapter : ChapterId
  origin : Port
  kind : OriginKind
deriving DecidableEq, Repr

/-! ### Station ports (R172, R178, R186, R190) -/

/-- Result codes (R189). -/
inductive Result where
  | accepted
  | clamped
  | restarted
  | badKind
  | badParam
  | noTitle
  | noRecord
  | existing
  | hasContent
  | titleFull
  | capturing
  | notCapturing
  | busy
  | inUse
  | held
  | notEditor
  | wrongState
  | locked
  | scriptFull
  | scriptBad
  | queueFull
  | alreadyQueued
deriving DecidableEq, Repr

/-- A response: the echo of the kind code, the result and the payload (R187). -/
structure Response where
  echo : Byte
  result : Result
  payload : List Byte
deriving DecidableEq, Repr

/-- Execution states (R186). `discard`: a port reset has come meanwhile, and the response will be discarded (R199). -/
inductive Exec where
  | idle
  | executing (kind : ReqKind) (params : List Byte) (discard : Bool)
  | answered (r : Response)
deriving DecidableEq, Repr

/-- Notice kinds (R192). -/
inductive NoticeKind where
  | requestDropped
  | captureIgnored
  | dropout
  | takeClosed
  | takeStopped
  | chapterState
  | storeLow
  | storeSwept
deriving DecidableEq, Repr

/-- A notice record (R190). -/
structure Notice where
  kind : NoticeKind
  subject : Byte
  detail : BitVec 16
  value : Word32
deriving DecidableEq, Repr

/-- A stream's source (R172). -/
inductive StreamSource where
  | output (c : ChapterId)
  | take (t : TakeId)
deriving DecidableEq, Repr

/-- A read-ahead segment: its page, the stream offset of its first undelivered byte, and the undelivered bytes
(R172, R176). -/
structure Segment where
  page : Nat
  first : Nat
  bytes : List Byte
deriving DecidableEq, Repr

/-- A port's page read, waiting or in progress (R177). -/
structure Fetch where
  page : Nat
  slot : Nat
  inProgress : Bool
deriving DecidableEq, Repr

/-- What an ACTIVE stream holds (R172). -/
structure Active where
  source : StreamSource
  length : Nat
  cursor : Nat
  segments : List Segment
  fetch : Option Fetch
deriving DecidableEq, Repr

/-- A port's stream record (R172). -/
inductive PortStream where
  | idle
  | active (a : Active)
  | detached
deriving DecidableEq, Repr

/-- The transaction in progress on a port, as far as a later event of it reads it (R184).
FETCH (R187): the response slot as the transaction byte found it. ATTENTION (R196): the four values that stood at the
transaction byte. CAPTURE (R28): the free space that stood at the transaction byte; from the count byte on, the
announced and the arrived counts too, the finding at the count byte (subject and detail of the notice to come), and
the complete samples discarded. NOTICES (R191): the record being sent, none for EMPTY. STREAM_DATA (R178, R181): the
counted bytes not yet delivered, and whether they still are the stream's own. `abandoned`: a device reset has come, and
the rest of the period, which the transaction byte `kind` opened, is ignored (R184). -/
inductive Transfer where
  | none
  | request
  | fetch (copy : Option Response)
  | attention (values : List Byte)
  | captureOpened (free : Nat)
  | capture (free announced arrived : Nat) (ignored : Option (Byte × BitVec 16)) (discarded : Nat)
  | notices (copy : Option Notice)
  | streamData (held : List Byte) (linked : Bool)
  | abandoned (kind : Byte)
deriving DecidableEq, Repr

/-- A station port (R186, R190, R193, R194, R172). -/
structure PortState where
  exec : Exec
  notices : List Notice
  lost : Bool
  subs : BitVec 3
  mask : BitVec 4
  mode : BitVec 4
  /-- The pending bits of the attention sources (R194). -/
  latched : BitVec 4
  stream : PortStream
  xfer : Transfer
  /-- The bytes sent since the transaction byte of the last transaction (log 19). -/
  sent : List Byte
deriving DecidableEq, Repr

/-! ### The whole part -/

/-- The state of the HJ740, and the queue of the commands that wait. -/
structure State where
  titles : Vector (Option Title) 8
  takes : Vector (Option Take) 128
  chapters : Vector (Option Chapter) 64
  captures : Vector (Option Stream) 4
  levels : Vector LevelEntry 4
  store : Store
  queue : List Entry
  lanes : Vector (Option Job) 2
  profiles : Vector Profile 4
  ports : Vector PortState 4
  pending : List Instr
deriving DecidableEq, Repr

/-- The profile record after device reset (R149). -/
def Profile.default : Profile :=
  { target := -200, tolerance := 20, ceiling := -30, lb := 30, rel := 3, clips := 0, floorMax := -600, qs := -500,
    hmin := 5, hmax := 10, tmin := 10, tmax := 50, ga := -700, roff := 100, m := 4, keep := false, maxLen := 36000 }

/-- A live level entry after device reset (R26). -/
def LevelEntry.clear : LevelEntry := ⟨false, none, .shut, -900, -900, 0⟩

/-- A port after device reset (R200). The fields `xfer` and `sent` hold no transaction. -/
def PortState.reset : PortState :=
  { exec := .idle, notices := [], lost := false, subs := 7, mask := 7, mode := 0, latched := 0, stream := .idle,
    xfer := .none, sent := [] }

/-- The store after device reset (R64, R69, R75, R81): every block DIRTY in ascending order, the array IDLE. -/
def Store.reset : Store :=
  { erased := [], dirty := List.range Config.storeBlocks, array := .idle, buffers := Vector.replicate 2 .free,
    last1 := 3, last3 := 5, last4 := 1, loadedStream := 3, loadedLane := 1, sweep := true, mem := [] }

/-- The part right after device reset, with no command waiting. -/
def State.reset : State :=
  { titles := Vector.replicate 8 none, takes := Vector.replicate 128 none, chapters := Vector.replicate 64 none,
    captures := Vector.replicate 4 none, levels := Vector.replicate 4 LevelEntry.clear, store := Store.reset,
    queue := [], lanes := Vector.replicate 2 none, profiles := Vector.replicate 4 Profile.default,
    ports := Vector.replicate 4 PortState.reset, pending := [] }

end Sys2Proof.Machine
end

