-- ==== Sys2Proof/Machine/Levels.lean ====
section
/-! DEFINITION. Level codes and the gain tables (00_scope.md "Level codes"; R110, R111, R127), each by its formula in
exact integer arithmetic: an inequality between 2^30·10^(c/100) and an integer is raised to the 100th power, one with
10^(c/200) to the 200th. -/

namespace Sys2Proof.Machine

/-- The greatest r below `acc + 2^bits` that is at least `acc` and has r^k · d ≤ n, when `acc` has it: one bit at a
time from the top. -/
def floorRoot (k d n : Nat) : Nat → Nat → Nat
  | 0, acc => acc
  | bits + 1, acc =>
    if (acc + 2 ^ bits) ^ k * d ≤ n then floorRoot k d n bits (acc + 2 ^ bits) else floorRoot k d n bits acc

/-- 2^3000 · 10^i against ms^100 · 10^900: the loudness table's entry at i − 900 does not exceed ms, because
2^30 · 10^((i − 900)/100) does not (R110). -/
abbrev loudnessReached (ms i : Nat) : Prop := (2 ^ 30) ^ 100 * 10 ^ i ≤ ms ^ 100 * 10 ^ 900

/-- The loudness code of a mean square value: the largest c in −900..+60 whose entry does not exceed it, and −900
below the first entry (R110). -/
def loudnessCode (ms : Nat) : Int := (Nat.findGreatest (loudnessReached ms) 960 : Nat) - 900

/-- The loudness table T: ceil(2^30 · 10^(c/100)), for c = i − 900 (R110). -/
def loudnessEntry (i : Nat) : Nat := floorRoot 100 (10 ^ 900) ((2 ^ 30) ^ 100 * 10 ^ i - 1) 33 0 + 1

/-- The amplitude table's entry at i − 900 does not exceed p (R111). -/
abbrev amplitudeReached (p i : Nat) : Prop := (2 ^ 23) ^ 200 * 10 ^ i ≤ p ^ 200 * 10 ^ 900

/-- The amplitude code of a magnitude: the largest c in −900..0 whose entry does not exceed it, and −900 below the
first entry (R111). -/
def amplitudeCode (p : Nat) : Int := (Nat.findGreatest (amplitudeReached p) 900 : Nat) - 900

/-- The amplitude table A at the code c: ceil(2^23 · 10^(c/200)) (R111). -/
def amplitudeEntry (c : Int) : Nat :=
  floorRoot 200 (10 ^ 900) ((2 ^ 23) ^ 200 * 10 ^ (c + 900).toNat - 1) 24 0 + 1

/-- The gain table Gm at g: floor(2^14 · 10^(g/200) + 1/2), read as half of one more than floor(2^15 · 10^(g/200))
(R127). -/
def gainEntry (g : Int) : Nat :=
  (floorRoot 200 (10 ^ 240) ((2 ^ 15) ^ 200 * 10 ^ (g + 240).toNat) 20 0 + 1) / 2

/-- The reduction table Gr at r: the gain table's entry at −r (R127). -/
def reductionEntry (r : Nat) : Nat := gainEntry (-(r : Int))

/-- Samples in a second, by rate code (00_scope.md, "Identifiers and capacities"). -/
def sampleRate (r : RateCode) : Nat :=
  match r with
  | 0 => 22050
  | 1 => 24000
  | 2 => 44100
  | 3 => 48000

/-- The meter block length N: a tenth of the rate. -/
def blockLength (r : RateCode) : Nat := sampleRate r / 10

/-- The coder frame length F: a fiftieth of the rate. -/
def frameLength (r : RateCode) : Nat := sampleRate r / 50

/-- Division by 2^k rounded toward minus infinity: the manual's right shift. -/
def shiftRight (v : Int) (k : Nat) : Int := v / (2 ^ k : Nat)

/-- A value set to the nearer end of lo..hi when it lies outside. -/
def clampInt (lo hi v : Int) : Int := if v < lo then lo else if v > hi then hi else v

/-- The least sample value. -/
def sampleMin : Int := -8388608

/-- The greatest sample value. -/
def sampleMax : Int := 8388607

/-- A value multiplied by a multiplier in units of 2^−14, with one half added before the floor (R59, R132, R136). -/
def scaled (v : Int) (mult : Int) : Int := shiftRight (v * mult + 8192) 14

end Sys2Proof.Machine
end

