-- ==== Sys2Proof/Machine/Operands.lean ====
section
/-! DEFINITION. The bytes of the ports: little-endian fields, the codes of kinds, states, results and notices, the
record layouts (10_station_ports.md "Layouts"), and how a request's parameter bytes are read. -/

namespace Sys2Proof.Machine

/-! ### Fields -/

/-- A one-byte field. -/
def u8 (n : Nat) : List Byte := [BitVec.ofNat 8 n]

/-- A two-byte little-endian field. -/
def u16 (n : Nat) : List Byte := [BitVec.ofNat 8 n, BitVec.ofNat 8 (n / 256)]

/-- A four-byte little-endian field. -/
def u32 (n : Nat) : List Byte := u16 n ++ u16 (n / 65536)

/-- A two-byte signed little-endian field. -/
def s16 (v : Int) : List Byte := u16 (BitVec.ofInt 16 v).toNat

/-- A one-byte signed field. -/
def s8 (v : Int) : List Byte := [BitVec.ofInt 8 v]

/-- A flag as a number. -/
def flag (b : Bool) : Nat := if b then 1 else 0

/-- The unsigned value of the `n` bytes at byte `i` of a byte list, least significant first. -/
def fieldAt (bs : List Byte) (i : Nat) : Nat → Nat
  | 0 => 0
  | n + 1 => (bs.getD i 0).toNat + 256 * fieldAt bs (i + 1) n

/-- The signed value of the two bytes at byte `i`. -/
def signed16At (bs : List Byte) (i : Nat) : Int := (BitVec.ofNat 16 (fieldAt bs i 2)).toInt

/-- The signed value of the byte at `i`. -/
def signed8At (bs : List Byte) (i : Nat) : Int := (bs.getD i 0).toInt

/-- A sample as its 3 bytes, least significant first (R63). -/
def sampleBytes (x : Sample) : List Byte :=
  let w := (BitVec.ofInt 24 x).toNat
  [BitVec.ofNat 8 w, BitVec.ofNat 8 (w / 256), BitVec.ofNat 8 (w / 65536)]

/-- The sample at slot `i` of a page's bytes (R63). -/
def sampleAt (bytes : List Byte) (i : Nat) : Sample := (BitVec.ofNat 24 (fieldAt (bytes.drop (3 * i)) 0 3)).toInt

/-- Bytes followed by 0x00 up to `n` in all. -/
def padTo (n : Nat) (bs : List Byte) : List Byte := bs ++ List.replicate (n - bs.length) 0

/-! ### Codes -/

/-- The kind code of a request. -/
def kindCode (k : ReqKind) : Byte :=
  match k with
  | .titleDefine => 0x10 | .titleDrop => 0x11 | .titleProfile => 0x12 | .titleInfo => 0x13
  | .takeStart => 0x20 | .gateSet => 0x21 | .takeStop => 0x22 | .takeRetire => 0x23 | .takeInfo => 0x24
  | .levels => 0x25
  | .chapterCreate => 0x30 | .chapterOpen => 0x31 | .chapterClose => 0x32 | .chapterDiscard => 0x33
  | .chapterMove => 0x34 | .chapterInfo => 0x35
  | .scriptPoint => 0x38 | .scriptWrite => 0x39 | .scriptRead => 0x3A
  | .render => 0x40 | .renderSet => 0x41 | .renderCancel => 0x42 | .queueInfo => 0x43 | .publish => 0x44
  | .collect => 0x45
  | .profileSet => 0x50 | .profileGet => 0x51
  | .storeInfo => 0x60 | .purge => 0x61 | .streamOpen => 0x62 | .streamClose => 0x63
  | .subscribe => 0x70 | .deviceInfo => 0x71

/-- Every request kind of the manual. -/
def allKinds : List ReqKind :=
  [.titleDefine, .titleDrop, .titleProfile, .titleInfo, .takeStart, .gateSet, .takeStop, .takeRetire, .takeInfo,
    .levels, .chapterCreate, .chapterOpen, .chapterClose, .chapterDiscard, .chapterMove, .chapterInfo, .scriptPoint,
    .scriptWrite, .scriptRead, .render, .renderSet, .renderCancel, .queueInfo, .publish, .collect, .profileSet,
    .profileGet, .storeInfo, .purge, .streamOpen, .streamClose, .subscribe, .deviceInfo]

/-- The request kind a kind byte names, if any (R185 case 4). -/
def kindOf (b : Byte) : Option ReqKind := allKinds.find? fun k => kindCode k == b

/-- The requests the port itself owns (R185). -/
def portOwned (k : ReqKind) : Bool :=
  match k with
  | .subscribe | .deviceInfo | .streamOpen | .streamClose => true
  | _ => false

/-- Result codes (R189). -/
def resultCode (r : Result) : Byte :=
  match r with
  | .accepted => 0x00 | .clamped => 0x01 | .restarted => 0x02
  | .badKind => 0x10 | .badParam => 0x11 | .noTitle => 0x12 | .noRecord => 0x13 | .existing => 0x14
  | .hasContent => 0x15 | .titleFull => 0x16 | .capturing => 0x17 | .notCapturing => 0x18
  | .busy => 0x19 | .inUse => 0x1A | .held => 0x1B | .notEditor => 0x1C | .wrongState => 0x1D | .locked => 0x1E
  | .scriptFull => 0x1F | .scriptBad => 0x20 | .queueFull => 0x21 | .alreadyQueued => 0x22

/-- Chapter state codes (R11). FREE is 0. -/
def chapterCode (st : ChapterState) : Nat :=
  match st with
  | .assembling => 1 | .ready => 2 | .queued => 3 | .rendering => 4 | .rendered => 5 | .rejected => 6
  | .published => 7

/-- Take state codes (R25). -/
def takeCode (st : TakeState) : Nat :=
  match st with
  | .capturing => 1 | .closing => 2 | .closed => 3

/-- Stop reason codes (R25). -/
def stopCode (r : StopReason) : Nat :=
  match r with
  | .requested => 0 | .portReset => 1 | .takeFull => 2 | .positionLimit => 3

/-- The stop reason code of a notice about a purged take (R25). -/
def purgedCode : Nat := 4

/-- Mark kind codes (R25). -/
def markCode (k : MarkKind) : Nat :=
  match k with
  | .cutIn => 1 | .cutOut => 2 | .dropout => 3

/-- Gate codes (R25). -/
def gateCode (g : Gate) : Nat :=
  match g with
  | .shut => 0 | .opened => 1

/-- The gate a code names. -/
def gateOf (n : Nat) : Gate := if n = 0 then .shut else .opened

/-- Step kind codes (R46). -/
def stepCode (k : StepKind) : Nat :=
  match k with
  | .finish => 0 | .splice => 1 | .tone => 2

/-- Origin kind codes (R87). -/
def originCode (k : OriginKind) : Nat :=
  match k with
  | .render => 0 | .set => 1 | .auto => 2

/-- Stream status codes (R172). -/
def statusCode (st : PortStream) : Nat :=
  match st with
  | .idle => 0 | .active _ => 1 | .detached => 2

/-- Notice kind codes (10_station_ports.md, notice record). EMPTY is 0. -/
def noticeCode (k : NoticeKind) : Nat :=
  match k with
  | .requestDropped => 1 | .captureIgnored => 2 | .dropout => 3 | .takeClosed => 4 | .takeStopped => 5
  | .chapterState => 8 | .storeLow => 9 | .storeSwept => 10

/-- The bit of a broadcast kind in a subscription set (R193); none for the port-bound kinds. -/
def subscriptionBit (k : NoticeKind) : Option (Fin 3) :=
  match k with
  | .chapterState => some 0
  | .storeLow => some 1
  | .storeSwept => some 2
  | _ => none

/-- Reasons of CHAPTER_STATE notices (R12). -/
inductive Cause where
  | created | opened | closed | autoQueued | autoSkipped | queued | started | passed | failed | tooLong | silent
  | cancelled | storeFull | published | collected | discarded | purged
deriving DecidableEq, Repr

/-- Reason codes of CHAPTER_STATE notices (R12). -/
def causeCode (c : Cause) : Nat :=
  match c with
  | .created => 0 | .opened => 1 | .closed => 2 | .autoQueued => 3 | .autoSkipped => 4 | .queued => 5 | .started => 6
  | .passed => 7 | .failed => 8 | .tooLong => 9 | .silent => 10 | .cancelled => 11 | .storeFull => 12
  | .published => 13 | .collected => 14 | .discarded => 15 | .purged => 16

/-- The bit position of a reason (R161). -/
def reasonBit (r : Reason) : Nat :=
  match r with
  | .loudLow => 0 | .loudHigh => 1 | .clips => 2 | .floor => 3 | .headShort => 4 | .headLong => 5 | .tailShort => 6
  | .tailLong => 7 | .silent => 8 | .tooLong => 9

/-- Every reason, in bit order (R161). -/
def allReasons : List Reason :=
  [.loudLow, .loudHigh, .clips, .floor, .headShort, .headLong, .tailShort, .tailLong, .silent, .tooLong]

/-- A reason set as its two-byte value: each reason at its bit position (R161). -/
def reasonMask (rs : List Reason) : Nat :=
  ((allReasons.filter fun r => rs.contains r).map fun r => 2 ^ reasonBit r).sum

/-! ### Records -/

/-- A notice record's 8 bytes; none is the EMPTY record (R191). -/
def noticeBytes (n : Option Notice) : List Byte :=
  match n with
  | none => List.replicate 8 0
  | some n => u8 (noticeCode n.kind) ++ [n.subject] ++ u16 n.detail.toNat ++ u32 n.value.toNat

/-- A script step's 17 bytes. -/
def stepBytes (st : Step) : List Byte :=
  u8 (stepCode st.kind) ++ u8 st.take.val ++ u32 st.start ++ u32 st.len ++ u32 st.fill ++ u16 st.xf ++ s8 st.trim

/-- A profile's record in the 25-byte form of R150, the profile number first. -/
def profileBytes (n : ProfileNo) (pr : Profile) : List Byte :=
  u8 n.val ++ s16 pr.target ++ u8 pr.tolerance ++ s16 pr.ceiling ++ u8 pr.lb ++ u8 pr.rel ++ u16 pr.clips ++
    s16 pr.floorMax ++ s16 pr.qs ++ u8 pr.hmin ++ u8 pr.hmax ++ u8 pr.tmin ++ u8 pr.tmax ++ s16 pr.ga ++
    u8 pr.roff ++ u8 pr.m ++ u8 (flag pr.keep) ++ u16 pr.maxLen

/-- The profile record as sent, before the clamps (R150). The keep-rejected byte is read by `keepSent`. -/
def profileSent (bs : List Byte) : Profile :=
  { target := signed16At bs 1, tolerance := fieldAt bs 3 1, ceiling := signed16At bs 4, lb := fieldAt bs 6 1,
    rel := fieldAt bs 7 1, clips := fieldAt bs 8 2, floorMax := signed16At bs 10, qs := signed16At bs 12,
    hmin := fieldAt bs 14 1, hmax := fieldAt bs 15 1, tmin := fieldAt bs 16 1, tmax := fieldAt bs 17 1,
    ga := signed16At bs 18, roff := fieldAt bs 20 1, m := fieldAt bs 21 1, keep := fieldAt bs 22 1 != 0,
    maxLen := fieldAt bs 23 2 }

/-- The keep-rejected byte as sent (R151). -/
def keepSent (bs : List Byte) : Nat := fieldAt bs 22 1

/-! ### Parameters -/

/-- The byte at `i` as a number. -/
def paramAt (bs : List Byte) (i : Nat) : Nat := fieldAt bs i 1

/-- A number as a member of a table with `n` entries, if it is one. -/
def inTable (n v : Nat) : Option (Fin n) := if h : v < n then some ⟨v, h⟩ else none

/-- The title number at byte `i`; none above 7 (R1). -/
def titleAt (bs : List Byte) (i : Nat) : Option TitleNo := inTable 8 (paramAt bs i)

/-- The chapter id at byte `i`; none above 63 (R1). -/
def chapterAt (bs : List Byte) (i : Nat) : Option ChapterId := inTable 64 (paramAt bs i)

/-- The take id at byte `i`; none above 127 (R25). -/
def takeAt (bs : List Byte) (i : Nat) : Option TakeId := inTable 128 (paramAt bs i)

/-- A setting of R5: a value of the coding, or 0xFF for no change; none for any other value. -/
def settingAt (n : Nat) (bs : List Byte) (i : Nat) : Option (Option (Fin n)) :=
  if paramAt bs i = 255 then some none else (inTable n (paramAt bs i)).map some

/-- The step record at byte 1 of a SCRIPT_WRITE, treated as R50 says, and whether a clamp changed it; none where R47
refuses it with BAD_PARAM. -/
def stepSent (bs : List Byte) : Option (Step × Bool) :=
  let t := signed8At bs 17
  let xf := fieldAt bs 15 2
  let clamped := decide (t < -120 ∨ 120 < t ∨ 9600 < xf)
  let joined (k : StepKind) (take : TakeId) (fill : Nat) : Step :=
    ⟨k, take, fieldAt bs 3 4, fieldAt bs 7 4, fill, min xf 9600, clampInt (-120) 120 t⟩
  match paramAt bs 1 with
  | 0 => some (Step.blank, false)
  | 1 => (takeAt bs 2).map fun take => (joined .splice take 0, clamped)
  | 2 => (takeAt bs 2).map fun take => (joined .tone take (fieldAt bs 11 4), clamped)
  | _ => none

end Sys2Proof.Machine
end

