-- ==== Sys2Proof/Machine/Memory.lean ====
section
/-! DEFINITION. The contents of the flash array (R63): a list of (address, byte) cells, addresses strictly rising and no
cell of value 0x00, because a byte that has not been programmed since its block was last erased reads as 0x00. The
address of byte i of a page is slot · 3,072 + i, and a page's slot is block · 64 + page. -/

namespace Sys2Proof.Machine

/-- What an unlisted byte reads as (R63). -/
def unlisted : Byte := 0

/-- The canonical form: addresses strictly rising, and no cell that reads as an unlisted one. -/
def Memory.wf : List Host.Cell → Bool
  | [] => true
  | [c] => c.2 != unlisted
  | c :: d :: rest => c.2 != unlisted && decide (c.1 < d.1) && Memory.wf (d :: rest)

/-- The byte at an address. -/
def readByte (mem : List Host.Cell) (a : Nat) : Byte :=
  match mem with
  | [] => unlisted
  | c :: rest => if c.1 = a then c.2 else readByte rest a

/-- The first address of the page at a slot. -/
def pageBase (slot : Nat) : Nat := slot * Config.pageBytes

/-- The bytes of the page at a slot (R68). -/
def readPage (mem : List Host.Cell) (slot : Nat) : List Byte :=
  let cells := mem.filter fun c => decide (pageBase slot ≤ c.1 ∧ c.1 < pageBase (slot + 1))
  (List.range Config.pageBytes).map fun i => readByte cells (pageBase slot + i)

/-- The cells that hold a run of bytes from an address on. -/
def cellsFrom (a : Nat) : List Byte → List Host.Cell
  | [] => []
  | b :: rest => if b = unlisted then cellsFrom (a + 1) rest else (a, b) :: cellsFrom (a + 1) rest

/-- The array after the page at a slot has been programmed with a buffer's bytes (R68). -/
def programPage (mem : List Host.Cell) (slot : Nat) (bytes : List Byte) : List Host.Cell :=
  (mem.filter fun c => decide (c.1 < pageBase slot)) ++ cellsFrom (pageBase slot) (bytes.take Config.pageBytes) ++
    mem.filter fun c => decide (pageBase (slot + 1) ≤ c.1)

/-- The slot of a page of a block. -/
def slotOf (block page : Nat) : Nat := block * Config.blockPages + page

/-- The array after a block has been erased: every byte of it reads as 0x00 (R63, R68). -/
def eraseBlock (mem : List Host.Cell) (block : Nat) : List Host.Cell :=
  mem.filter fun c => decide (c.1 < pageBase (slotOf block 0) ∨ pageBase (slotOf (block + 1) 0) ≤ c.1)

/-- The slot of page `j` of an owner whose chain is given: block j ÷ 64 along the chain, page j mod 64 (R63). -/
def chainSlot (chain : List Nat) (j : Nat) : Nat :=
  slotOf (chain.getD (j / Config.blockPages) 0) (j % Config.blockPages)

end Sys2Proof.Machine
end

