-- ==== Sys2Proof/Machine/Ops.lean ====
section
/-! DEFINITION. The named operations on the state that the commands share: access to records, notices (R190, R192),
references (R9), positions (R6), the free count and the low-store notice (R66, R82), releases (R67) and the detaching
of streams (R180). -/

namespace Sys2Proof.Machine

/-- The four ports, P0 first. -/
def allPorts : List Port := [0, 1, 2, 3]

/-- The two lanes, L0 first. -/
def allLanes : List Lane := [0, 1]

/-- The two program buffers, X first. -/
def allBuffers : List (Fin 2) := [0, 1]

/-! ### Access to records -/

/-- A change of one port. -/
def modPort (p : Port) (f : PortState → PortState) (s : State) : State :=
  { s with ports := s.ports.set p.val (f s.ports[p]) p.isLt }

/-- A change of one title record, where it is defined. -/
def modTitle (t : TitleNo) (f : Title → Title) (s : State) : State :=
  { s with titles := s.titles.set t.val (s.titles[t].map f) t.isLt }

/-- A title record defined or made undefined. -/
def setTitle (t : TitleNo) (r : Option Title) (s : State) : State :=
  { s with titles := s.titles.set t.val r t.isLt }

/-- A change of one take record, where it is in use. -/
def modTake (t : TakeId) (f : Take → Take) (s : State) : State :=
  { s with takes := s.takes.set t.val (s.takes[t].map f) t.isLt }

/-- A take record given or freed. -/
def setTake (t : TakeId) (r : Option Take) (s : State) : State :=
  { s with takes := s.takes.set t.val r t.isLt }

/-- A change of one chapter record, where it is in use. -/
def modChapter (c : ChapterId) (f : Chapter → Chapter) (s : State) : State :=
  { s with chapters := s.chapters.set c.val (s.chapters[c].map f) c.isLt }

/-- A chapter record given or freed. -/
def setChapter (c : ChapterId) (r : Option Chapter) (s : State) : State :=
  { s with chapters := s.chapters.set c.val r c.isLt }

/-- A change of a port's capture stream, where it is present. -/
def modStream (p : Port) (f : Stream → Stream) (s : State) : State :=
  { s with captures := s.captures.set p.val (s.captures[p].map f) p.isLt }

/-- A capture slot opened or made NONE. -/
def setStream (p : Port) (r : Option Stream) (s : State) : State :=
  { s with captures := s.captures.set p.val r p.isLt }

/-- A change of a port's live level entry. -/
def modLevel (p : Port) (f : LevelEntry → LevelEntry) (s : State) : State :=
  { s with levels := s.levels.set p.val (f s.levels[p]) p.isLt }

/-- A change of the store. -/
def modStore (f : Store → Store) (s : State) : State := { s with store := f s.store }

/-- A change of a lane's job, where it holds one. -/
def modJob (l : Lane) (f : Job → Job) (s : State) : State :=
  { s with lanes := s.lanes.set l.val (s.lanes[l].map f) l.isLt }

/-- A lane given a job or made IDLE. -/
def setLane (l : Lane) (j : Option Job) (s : State) : State := { s with lanes := s.lanes.set l.val j l.isLt }

/-- The render queue replaced. -/
def setQueue (q : List Entry) (s : State) : State := { s with queue := q }

/-- A profile record replaced. -/
def setProfile (n : ProfileNo) (pr : Profile) (s : State) : State :=
  { s with profiles := s.profiles.set n.val pr n.isLt }

/-- A change of one program buffer. -/
def modBuffer (i : Fin 2) (f : Buffer → Buffer) (st : Store) : Store :=
  { st with buffers := st.buffers.set i.val (f st.buffers[i]) i.isLt }

/-- The lowest-numbered free record of a table (R8, R14). -/
def firstFree {α : Type} {n : Nat} (v : Vector (Option α) n) : Option (Fin n) :=
  (List.finRange n).find? fun i => v[i].isNone

/-- The rate code of a title. A take or a chapter exists only under a defined title (R4), so the fallback to code 0
is not met on a run. -/
def titleRate (s : State) (t : TitleNo) : RateCode :=
  match s.titles[t] with
  | some r => r.rate
  | none => 0

/-! ### Notices (R190, R192) -/

/-- A notice posted to one port: it joins the tail of the queue, or is lost and sets LOST when 16 records wait. -/
def pushNotice (n : Notice) (ps : PortState) : PortState :=
  if ps.notices.length < Config.noticePlaces then { ps with notices := ps.notices ++ [n] }
  else { ps with lost := true }

/-- A port-bound notice. -/
def notify (p : Port) (n : Notice) (s : State) : State := modPort p (pushNotice n) s

/-- The port's subscription set holds the kind. -/
def subscribed (k : NoticeKind) (ps : PortState) : Bool :=
  match subscriptionBit k with
  | none => false
  | some b => ps.subs.getLsbD b.val

/-- A broadcast notice, to every port that subscribes to its kind. -/
def broadcast (n : Notice) (s : State) : State :=
  allPorts.foldl (fun s p => modPort p (fun ps => if subscribed n.kind ps then pushNotice n ps else ps) s) s

/-- A notice record from numbers. -/
def notice (k : NoticeKind) (subject detail value : Nat) : Notice :=
  ⟨k, BitVec.ofNat 8 subject, BitVec.ofNat 16 detail, BitVec.ofNat 32 value⟩

/-- The CHAPTER_STATE notice of a change: the new state's code (0 for a freed record) and the reason (R12). -/
def chapterNotice (c : ChapterId) (code : Nat) (cause : Cause) (s : State) : State :=
  broadcast (notice .chapterState c.val code (causeCode cause)) s

/-- A chapter's change of state with its notice. -/
def enterState (c : ChapterId) (st : ChapterState) (cause : Cause) (s : State) : State :=
  chapterNotice c (chapterCode st) cause (modChapter c (fun r => { r with state := st }) s)

/-! ### Scripts and references (R9, R46) -/

/-- The steps of a script: the slots before its first END (R46). -/
def scriptSteps (slots : Vector Step 32) : List Step := slots.toList.takeWhile fun st => st.kind != .finish

/-- The distinct takes a script names before its end (R9). -/
def namedTakes (slots : Vector Step 32) : List TakeId := ((scriptSteps slots).map (·.take)).eraseDups

/-- Each take of a list gains one reference. -/
def takeReferences (ts : List TakeId) (s : State) : State :=
  ts.foldl (fun s t => modTake t (fun r => { r with refs := r.refs + 1 }) s) s

/-- Each take of a list loses one reference. -/
def dropReferences (ts : List TakeId) (s : State) : State :=
  ts.foldl (fun s t => modTake t (fun r => { r with refs := r.refs - 1 }) s) s

/-- The chapter's references released (R9): an ASSEMBLING chapter holds none, and a cleared script names no take. -/
def releaseReferences (c : ChapterId) (s : State) : State :=
  match s.chapters[c] with
  | some r => if r.state = .assembling then s else dropReferences (namedTakes r.slots) s
  | none => s

/-! ### Positions (R6) -/

/-- Each chapter of a title's list keeps its position: its place in the list, counted from `k`. -/
def renumberFrom (k : Nat) : List ChapterId → State → State
  | [], s => s
  | c :: rest, s => renumberFrom (k + 1) rest (modChapter c (fun r => { r with position := k }) s)

/-- A title's chapter list replaced, and the positions of its chapters with it. -/
def reorder (t : TitleNo) (cs : List ChapterId) (s : State) : State :=
  renumberFrom 1 cs (modTitle t (fun r => { r with chapters := cs }) s)

/-- The chapter list of a title. -/
def chapterList (s : State) (t : TitleNo) : List ChapterId :=
  match s.titles[t] with
  | some r => r.chapters
  | none => []

/-- A chapter record freed: it leaves its title's list, and those after it move down by one (R6). -/
def freeChapter (c : ChapterId) (s : State) : State :=
  match s.chapters[c] with
  | some r => setChapter c none (reorder r.title ((chapterList s r.title).erase c) s)
  | none => s

/-! ### Pools (R66, R67, R82) -/

/-- A background erase is in progress. -/
def backgroundErasing (st : Store) : Bool :=
  match st.array with
  | .erasing _ .background _ => true
  | _ => false

/-- The free count: ERASED, DIRTY, and one for a background erase in progress (R66). -/
def freeCount (st : Store) : Nat := st.erased.length + st.dirty.length + flag (backgroundErasing st)

/-- A page that waits for a block with no request posted posts its built-in erase (R73, R74 step 6). -/
def repost (b : Buffer) : Buffer :=
  match b with
  | .loaded src page bytes .unposted => .loaded src page bytes .posted
  | b => b

/-- A release: the chain joins the tail of the DIRTY pool in chain order (R67). When DIRTY was empty, the allocations
that wait with no request posted post their built-in erases (R73, R74). -/
def release (chain : List Nat) (s : State) : State :=
  modStore (fun st =>
    let st' := { st with dirty := st.dirty ++ chain }
    if st.dirty.isEmpty && !chain.isEmpty then allBuffers.foldl (fun st i => modBuffer i repost st) st' else st') s

/-- STORE_LOW, posted when the free count has fallen from 65 or above to 64 or below (R82). `before` is the free
count before the allocation, `detail` 0 for capture and 1 for render. -/
def lowCheck (before detail : Nat) (s : State) : State :=
  if Config.lowStore < before ∧ freeCount s.store ≤ Config.lowStore then
    broadcast (notice .storeLow 255 detail (freeCount s.store)) s
  else s

/-- STORE_SWEPT, posted once when an erase start has left the DIRTY pool empty (R81). -/
def sweptCheck (s : State) : State :=
  if s.store.sweep && s.store.dirty.isEmpty then
    broadcast (notice .storeSwept 255 0 s.store.erased.length) (modStore (fun st => { st with sweep := false }) s)
  else s

/-! ### Streams on sources (R172 to R183) -/

/-- The page read in progress for a reader belongs to no reader from now on (R80). -/
def orphanRead (who : Reader) (st : Store) : Store :=
  match st.array with
  | .reading w false slot => if w = who then { st with array := .reading w true slot } else st
  | _ => st

/-- The transaction in progress keeps its counted bytes, which are the stream's own no more (R181). -/
def unlink (x : Transfer) : Transfer :=
  match x with
  | .streamData held _ => .streamData held false
  | x => x

/-- A port's stream ended with the given status: its segments and its fetch are gone, a read in progress delivers
nothing (R174, R175, R180, R183). -/
def dropStream (p : Port) (status : PortStream) (s : State) : State :=
  modStore (orphanRead (.port p)) (modPort p (fun ps => { ps with stream := status, xfer := unlink ps.xfer }) s)

/-- The source of a port's stream while it is ACTIVE. -/
def activeSource (ps : PortState) : Option StreamSource :=
  match ps.stream with
  | .active a => some a.source
  | _ => none

/-- Every stream that reads a released source becomes DETACHED (R180). -/
def detach (src : StreamSource) (s : State) : State :=
  allPorts.foldl (fun s p => if activeSource s.ports[p] = some src then dropStream p .detached s else s) s

/-- The output a chapter owns (R10). -/
def ownedOutput (r : Chapter) : Option Output := r.result.bind (·.output)

/-- A chapter's output released, if it owns one (R10). -/
def releaseOutput (c : ChapterId) (s : State) : State :=
  match s.chapters[c].bind ownedOutput with
  | some o =>
    detach (.output c) (release o.chain
      (modChapter c (fun r => { r with result := r.result.map fun g => { g with output := none } }) s))
  | none => s

/-- A take record freed: its title's count falls, its blocks are released, streams on it are detached (R8). -/
def freeTake (t : TakeId) (s : State) : State :=
  match s.takes[t] with
  | some r =>
    setTake t none (detach (.take t) (release r.chain
      (modTitle r.title (fun ti => { ti with takeCount := ti.takeCount - 1 }) s)))
  | none => s

/-! ### The block map (R64) -/

/-- Who owns a block (R64). -/
inductive Owner where
  | take (t : TakeId)
  | chapter (c : ChapterId)
deriving DecidableEq, Repr

/-- An entry of the block map (R64). The successor link is none at the chain's last block. -/
inductive BlockEntry where
  | erased
  | dirty
  | erasing (purpose : Purpose)
  | owned (o : Owner) (next : Option Nat)
deriving DecidableEq, Repr

/-- The successor of a block in a chain. -/
def successor (b : Nat) : List Nat → Option Nat
  | [] => none
  | x :: rest => if x = b then rest.head? else successor b rest

/-- The chain a chapter's output has, whole or partial in a lane (R65). -/
def outputChain (s : State) (c : ChapterId) : List Nat :=
  match s.chapters[c].bind ownedOutput with
  | some o => o.chain
  | none => (allLanes.filterMap fun l => s.lanes[l].bind fun j => if j.chapter = c then some j.blocks else none).flatten

/-- The chain of a take. -/
def takeChain (s : State) (t : TakeId) : List Nat :=
  match s.takes[t] with
  | some r => r.chain
  | none => []

/-- Every owner with its chain. -/
def owners (s : State) : List (Owner × List Nat) :=
  (List.finRange 128).map (fun t => (.take t, takeChain s t)) ++
    (List.finRange 64).map fun c => (.chapter c, outputChain s c)

/-- The block map's entry of a block; none for a block the law of blocks has no place for. -/
def blockEntry (s : State) (b : Nat) : Option BlockEntry :=
  if s.store.erased.contains b then some .erased
  else if s.store.dirty.contains b then some .dirty
  else match s.store.array with
    | .erasing x purpose _ => if x = b then some (.erasing purpose) else ownedEntry
    | _ => ownedEntry
where
  ownedEntry : Option BlockEntry :=
    ((owners s).find? fun o => o.2.contains b).map fun o => .owned o.1 (successor b o.2)

end Sys2Proof.Machine
end

