-- ==== Sys2Proof/Machine/Flags.lean ====
section
/-! DEFINITION. The attention state of a port: the four conditions (R194, R182), the pending bits (R195) and the
attention line (R197). -/

namespace Sys2Proof.Machine

/-- The undelivered bytes in a stream's segments (R176). -/
def readyCount (a : Active) : Nat := (a.segments.map fun g => g.bytes.length).sum

/-- The DATA condition (R182). -/
def dataCondition (st : PortStream) : Bool :=
  match st with
  | .active a => decide (Config.pageBytes ≤ readyCount a) || decide (2 ≤ a.segments.length)
  | _ => false

/-- The response slot holds a response (R186). -/
def isAnswered (e : Exec) : Bool :=
  match e with
  | .answered _ => true
  | _ => false

/-- The four raw conditions, RESULT at bit 0, then NOTICE, LOST, DATA (R194). -/
def conditions (ps : PortState) : BitVec 4 :=
  BitVec.ofNat 4 (flag (isAnswered ps.exec) + 2 * flag (!ps.notices.isEmpty) + 4 * flag ps.lost +
    8 * flag (dataCondition ps.stream))

/-- The pending bits after an event (R195): a level source's bit is its condition; an edge source's bit is set when
its condition has gone from false to true. -/
def latch (mode latched before after : BitVec 4) : BitVec 4 :=
  (mode &&& after) ||| (~~~mode &&& (latched ||| (after &&& ~~~before)))

/-- One port's attention after an event, from the port as it was before it. -/
def attendPort (before after : PortState) : PortState :=
  { after with latched := latch after.mode after.latched (conditions before) (conditions after) }

/-- The attention of all ports after an event that led from `before` to `after`. -/
def attend (before after : State) : State :=
  allPorts.foldl (fun s p => modPort p (attendPort before.ports[p]) s) after

/-- The attention line is driven low: some source is pending and enabled (R197). -/
def attentionLow (ps : PortState) : Bool := ps.latched &&& ps.mask != 0

end Sys2Proof.Machine
end

