-- ==== Sys2Proof/Machine/Meter.lean ====
section
/-! DEFINITION. The loudness meter of 06_loudness_metering.md: emphasis, block energy, histogram, peak, floor, head and
tail, and the two gates. -/

namespace Sys2Proof.Machine

/-- The emphasis filter: e = s − ((15 · h) >> 4) for the history h (R113). -/
def emphasis (h s : Sample) : Int := s - shiftRight (15 * h) 4

/-- What an emphasised value adds to the energy sum: (e >> 8)² (R114). -/
def energyOf (e : Int) : Nat := (shiftRight e 8).natAbs ^ 2

/-- One sample fed: emphasis, energy, sample count and peak (R113, R114, R117). -/
def meterFeed (s : Sample) (m : Meter) : Meter :=
  { m with prev := s, energy := m.energy + energyOf (emphasis m.prev s), count := m.count + 1,
           peak := max m.peak s.natAbs }

/-- A block of mean square `ms` added to the histogram (R115). -/
def histAdd (hist : Vector Bin 961) (ms : Nat) : Vector Bin 961 :=
  let i := (loudnessCode ms + 900).toNat
  let bin := hist[i]?.getD ⟨0, 0⟩
  hist.setIfInBounds i ⟨bin.count + 1, bin.sum + ms⟩

/-- The floor, head and tail after a completed block of code `c`, for the silence threshold `qs` (R118, R119). -/
def meterEdges (qs c : Int) (m : Meter) : Meter :=
  let quiet := decide (c < qs)
  { m with
    floor := some (match m.floor with | none => c | some f => min f c)
    head := if !m.headClosed && quiet then m.head + 1 else m.head
    headClosed := m.headClosed || !quiet
    tail := if quiet then m.tail + 1 else 0 }

/-- A completed block (R114): histogram, in the output meter (whose `qs` is given) floor, head and tail, then the
block count, and the accumulator cleared. `n` is the meter block length. -/
def meterBlock (n : Nat) (qs : Option Int) (m : Meter) : Meter :=
  let ms := m.energy / n
  let m := { m with hist := histAdd m.hist ms }
  let m := match qs with
    | none => m
    | some q => meterEdges q (loudnessCode ms) m
  { m with blocks := m.blocks + 1, energy := 0, count := 0 }

/-- The block is complete: the sample count has reached N (R114). -/
def meterFull (n : Nat) (m : Meter) : Bool := decide (n ≤ m.count)

/-- METER_BLOCK at one meter: the block is completed if its sample count has reached N, and nothing changes if not. -/
def meterBlockDue (n : Nat) (qs : Option Int) (m : Meter) : Meter := if meterFull n m then meterBlock n qs m else m

/-- A sample fed and, within the same event, the block it completes (R114). -/
def meterStep (n : Nat) (qs : Option Int) (m : Meter) (s : Sample) : Meter := meterBlockDue n qs (meterFeed s m)

/-- A meter at the end of its pass: the partial block's energy is discarded (R116, R120 step 1). The rules do not say
what becomes of the block's sample count, and R112 has the input meter keep its values into ENCODE: the model clears
the count with the energy (DESIGN CHOICE, unsafe, log 31). -/
def meterCompleted (m : Meter) : Meter := { m with energy := 0, count := 0 }

/-- The totals of the bins whose code is `c` or above (R121 to R123). -/
def totalsFrom (hist : Vector Bin 961) (c : Int) : Bin :=
  let passing := hist.toList.zipIdx.filter fun b => decide (c ≤ (b.2 : Int) - 900)
  ⟨(passing.map fun b => b.1.count).sum, (passing.map fun b => b.1.sum).sum⟩

/-- The loudness code of a set of blocks' mean: the floor of the total sum over the total count (R122, R123). -/
def meanCode (t : Bin) : Int := loudnessCode (t.sum / t.count)

/-- The two gates: none for SILENT, or the integrated loudness (R121 to R123). -/
def gated (ga : Int) (roff : Nat) (hist : Vector Bin 961) : Option Int :=
  let t := totalsFrom hist ga
  if t.count = 0 then none
  else some (meanCode (totalsFrom hist (max ga (meanCode t - roff))))

end Sys2Proof.Machine
end

