-- ==== Sys2Proof/Machine/Capture.lean ====
section
/-! DEFINITION. The capture stream (02_capture_streams_and_the_punch_gate.md): the compare unit, marks, keeping and
dropping, the live meter, stops and closing. These are the parts of the events; the commands are in
CaptureCommands.lean. -/

namespace Sys2Proof.Machine

/-- A source has a page in the store: LOADED, or PROGRAMMING and not abandoned (R76). -/
def inStore (src : Source) (st : Store) : Bool :=
  allBuffers.any fun i =>
    match st.buffers[i] with
    | .free => false
    | .loaded w _ _ _ => w == src
    | .programming w gone _ _ _ => w == src && !gone

/-! ### Marks and the gate -/

/-- A mark appended, or MARKS_LOST when the list is full (R34). -/
def appendMark (m : Mark) (t : Take) : Take :=
  if t.marks.length < Config.markPlaces then { t with marks := t.marks ++ [m] } else { t with marksLost := true }

/-- The other gate value. -/
def toggled (g : Gate) : Gate :=
  match g with
  | .shut => .opened
  | .opened => .shut

/-- The compare unit at the arriving sample: gate, A and B afterwards (R29 steps 1 and 2). -/
def compared (st : Stream) : Gate × Word32 × Word32 :=
  let hitA := st.pos == st.a
  let g := if hitA then toggled st.gate else st.gate
  let b := if hitA && st.inc != 0 then st.b + st.inc else st.b
  let hitB := st.pos == b
  (if hitB then toggled g else g, if hitB && st.inc != 0 then st.a + st.inc else st.a, b)

/-- The mark of a gate change, at the take's present length and the given stream position (R30). -/
def gateMark (now : Gate) (pos : Word32) (t : Take) : Take :=
  appendMark ⟨if now = .opened then .cutIn else .cutOut, t.length, pos.toNat⟩ t

/-- The gate of a stream set to a value: a mark when it changes, and the live entry's gate with it (R30, R39). -/
def setGate (p : Port) (now : Gate) (s : State) : State :=
  match s.captures[p] with
  | none => s
  | some st =>
    let s := modLevel p (fun e => { e with gate := now }) (modStream p (fun st => { st with gate := now }) s)
    if st.gate = now then s else modTake st.take (gateMark now st.pos) s

/-! ### Dropout runs -/

/-- A dropout run ends, if one is active: its mark and its notice, with `detail` 0 for a kept sample and 1 for a stop
(R33). -/
def endRun (p : Port) (detail : Nat) (s : State) : State :=
  match s.captures[p] with
  | none => s
  | some st =>
    match st.run with
    | none => s
    | some n =>
      notify p (notice .dropout st.take.val detail n)
        (modTake st.take (fun t => appendMark ⟨.dropout, t.length, n⟩ t)
          (modStream p (fun st => { st with run := none }) s))

/-- A gated-in sample dropped (R33). -/
def dropSample (p : Port) (s : State) : State :=
  match s.captures[p] with
  | none => s
  | some st =>
    modTake st.take (fun t => { t with dropout := true, dropoutTotal := min (2 ^ 32 - 1) (t.dropoutTotal + 1) })
      (modStream p (fun st => { st with run := some (st.run.getD 0 + 1) }) s)

/-! ### Keeping a sample -/

/-- The live meter fed with a kept sample (R39). -/
def liveFeed (x : Sample) (st : Stream) : Stream :=
  { st with prev := x, energy := st.energy + energyOf (emphasis st.prev x), count := st.count + 1,
            largest := max st.largest x.natAbs }

/-- A gated-in sample kept (R32): it ends a dropout run, joins the FIFO and the take, and feeds the live meter, whose
running peak is the entry's and the take's. -/
def keepSample (p : Port) (x : Sample) (s : State) : State :=
  let s := endRun p 0 s
  match s.captures[p] with
  | none => s
  | some st =>
    let peak := amplitudeCode (max st.largest x.natAbs)
    modLevel p (fun e => { e with peak := peak })
      (modTake st.take (fun t => { t with length := t.length + 1, peak := peak })
        (modStream p (fun st => liveFeed x { st with fifo := st.fifo ++ [x] }) s))

/-- The stream position after a sample: it rises by one, but at 2^32 − 1 it stays and the limit is noted (R29 step 4,
R36); the live entry's position follows (R39). -/
def advancePosition (p : Port) (s : State) : State :=
  match s.captures[p] with
  | none => s
  | some st =>
    let last := st.pos == BitVec.allOnes 32
    let pos := if last then st.pos else st.pos + 1
    modLevel p (fun e => { e with position := pos }) (modStream p (fun st => { st with pos := pos, atLimit := last }) s)

/-- A sample that arrives to a CAPTURING stream passes the compare unit, the gate, and the keep-or-drop decision, and
the position advances (R29, R30, R32). -/
def passSample (p : Port) (x : Sample) (s : State) : State :=
  match s.captures[p] with
  | none => s
  | some st =>
    let c := compared st
    let s := setGate p c.1 (modStream p (fun st => { st with a := c.2.1, b := c.2.2 }) s)
    let s := if c.1 = .shut then s
      else if st.fifo.length < Config.fifoPlaces then keepSample p x s
      else dropSample p s
    advancePosition p s

/-! ### Consequences of a sample -/

/-- LIVE_BLOCK: when the live meter's block count has reached N, the block's loudness code goes into the live level
entry and the block is cleared (R39). Nothing changes when no block is complete. -/
def liveBlockDue (p : Port) (s : State) : State :=
  match s.captures[p] with
  | none => s
  | some st =>
    match s.takes[st.take] with
    | none => s
    | some t =>
      let n := blockLength (titleRate s t.title)
      if n ≤ st.count ∧ !st.closing then
        modLevel p (fun e => { e with lastBlock := loudnessCode (st.energy / n) })
          (modStream p (fun st => { st with energy := 0, count := 0 }) s)
      else s

/-- A take has drained: CLOSING, its FIFO empty, no page of it in the store (R38). -/
def drained (p : Port) (s : State) : Bool :=
  match s.captures[p] with
  | some st => st.closing && st.fifo.isEmpty && !inStore (.stream p) s.store
  | none => false

/-- TAKE_CLOSED: a drained take becomes CLOSED, its slot NONE, its live entry not present, and the notice is posted
(R38). Nothing changes when the take has not drained. -/
def takeClosedDue (p : Port) (s : State) : State :=
  match s.captures[p] with
  | none => s
  | some st =>
    if drained p s then
      let reason := ((s.takes[st.take].bind (·.stopReason)).map stopCode).getD 0
      let length := ((s.takes[st.take]).map (·.length)).getD 0
      notify p (notice .takeClosed st.take.val reason length)
        (modLevel p (fun e => { e with present := false })
          (setStream p none (modTake st.take (fun t => { t with state := .closed, port := none }) s)))
    else s

/-- A stop of a CAPTURING stream (R38): the gate is forced SHUT without a mark, a dropout run ends, the reason is set,
take and stream become CLOSING, and a take with nothing to drain is CLOSED at once. -/
def stopStream (p : Port) (reason : StopReason) (s : State) : State :=
  match s.captures[p] with
  | none => s
  | some st =>
    let s := modLevel p (fun e => { e with gate := .shut }) (modStream p (fun st => { st with gate := .shut }) s)
    let s := endRun p 1 s
    takeClosedDue p
      (modStream p (fun st => { st with closing := true })
        (modTake st.take (fun t => { t with state := .closing, stopReason := some reason }) s))

/-- A stop at a limit, and its TAKE_STOPPED notice (R36). -/
def limitStop (p : Port) (reason : StopReason) (s : State) : State :=
  match s.captures[p] with
  | none => s
  | some st =>
    let length := ((s.takes[st.take]).map (·.length)).getD 0
    notify p (notice .takeStopped st.take.val (stopCode reason) length) (stopStream p reason s)

/-- TAKE_FULL: a CAPTURING take of 2^28 samples or more is stopped (R36). -/
def takeFullDue (p : Port) (s : State) : State :=
  match s.captures[p] with
  | none => s
  | some st =>
    if !st.closing ∧ Config.takeLimit ≤ ((s.takes[st.take]).map (·.length)).getD 0 then limitStop p .takeFull s else s

/-- POSITION_LIMIT: a CAPTURING stream whose sample at position 2^32 − 1 has passed is stopped (R36). -/
def positionLimitDue (p : Port) (s : State) : State :=
  match s.captures[p] with
  | none => s
  | some st => if !st.closing ∧ st.atLimit then limitStop p .positionLimit s else s

/-- A sample arriving at a port's capture stream: processed while CAPTURING (R29 to R36, R39), discarded without any
effect otherwise (R28). TAKE_FULL is judged before POSITION_LIMIT, so it is the reason when one sample meets both. -/
def sampleArrives (p : Port) (x : Sample) (s : State) : State :=
  match s.captures[p] with
  | none => s
  | some st =>
    if st.closing then s else positionLimitDue p (takeFullDue p (liveBlockDue p (passSample p x s)))

/-! ### Pages from the FIFO (R35, R77) -/

/-- A stream offers a page: it has no page in the store, and a complete page or, CLOSING, a final partial one (R35,
R76, R77). -/
def streamOffers (s : State) (p : Port) : Bool :=
  match s.captures[p] with
  | none => false
  | some st =>
    !inStore (.stream p) s.store &&
      (decide (Config.pageSamples ≤ st.fifo.length) || (st.closing && !st.fifo.isEmpty))

/-- The page a stream offers: its number along the take, and its bytes, the slots after the take's end zero (R35,
R77). -/
def streamPage (s : State) (p : Port) : Nat × List Byte :=
  match s.captures[p] with
  | none => (0, padTo Config.pageBytes [])
  | some st =>
    let length := ((s.takes[st.take]).map (·.length)).getD 0
    ((length - st.fifo.length) / Config.pageSamples,
      padTo Config.pageBytes ((st.fifo.take Config.pageSamples).flatMap sampleBytes))

end Sys2Proof.Machine
end

