-- ==== Sys2Proof/Machine/Coder.lean ====
section
/-! DEFINITION. The render gain, the limiter, the frame coder and the digest of 07_gain_limiter_and_frame_coder.md, and
the chapter output's header of R168. -/

namespace Sys2Proof.Machine

/-- The render gain g: the smaller of the target gain and the peak cap, within −200..+240 (R129). -/
def renderGain (pr : Profile) (li inPeak : Int) : Int :=
  clampInt (-200) 240 (min (pr.target - li) (pr.ceiling - inPeak + pr.lb))

/-- C, the sample value of the ceiling (R133). -/
def ceilingValue (pr : Profile) : Nat := amplitudeEntry pr.ceiling

/-- The largest magnitude of a frame (R133). -/
def framePeak (ys : List Int) : Nat := ys.foldl (fun p y => max p y.natAbs) 0

/-- The reduction a frame needs (R133): 0 when its peak is within C, else the smallest r from 1 up to LB that brings
the peak within C, and LB when none does. -/
def reductionNeeded (c lb pk : Nat) : Nat :=
  if pk ≤ c then 0
  else ((List.range lb).map (· + 1) |>.find? fun r => decide (scaled pk (reductionEntry r) ≤ c)).getD lb

/-- The frame's reduction: the larger of what it needs and what the release leaves (R134). -/
def reductionNow (need rPrev rel : Nat) : Nat := max need (rPrev - rel)

/-- The limiter's output before the clamp, sample by sample from place `n` of a frame of `len` samples: the multiplier
moves from `m0` to `m1` across the frame (R135, R136). -/
def ramped (m0 m1 : Int) (len : Nat) : Nat → List Int → List Int
  | _, [] => []
  | n, y :: rest => scaled y (m0 + Int.tdiv ((m1 - m0) * (n + 1)) len) :: ramped m0 m1 len (n + 1) rest

/-- The samples that the clamp to ±C changes (R136). -/
def clipped (c : Nat) (ys : List Int) : Nat := (ys.filter fun y => decide (y < -(c : Int) ∨ (c : Int) < y)).length

/-- The greatest residual, 2^(m−1) − 1 (R138). -/
def residualMax (m : Nat) : Nat := 2 ^ (m - 1) - 1

/-- The largest step between neighbouring limited samples, the first against `last` (R139). -/
def largestStep : Sample → List Sample → Nat
  | _, [] => 0
  | last, y :: rest => max (y - last).natAbs (largestStep y rest)

/-- The step exponent: the smallest k in 0..23 for which D does not exceed Qmax · 2^k (R139). -/
def stepExponent (m d : Nat) : Nat := ((List.range 24).find? fun k => decide (d ≤ residualMax m * 2 ^ k)).getD 23

/-- The residual of one sample (R140). -/
def residual (m k : Nat) (d : Int) : Int :=
  let q := if k = 0 then d else shiftRight (d + 2 ^ (k - 1)) k
  clampInt (-(residualMax m)) (residualMax m) q

/-- The residuals and the decoded samples of a frame, from the last decoded sample on (R140, R141). -/
def coded (m k c : Nat) : Sample → List Sample → List (Int × Sample)
  | _, [] => []
  | r, y :: rest =>
    let q := residual m k (y - r)
    let r' := clampInt (-c) c (r + q * 2 ^ k)
    (q, r') :: coded m k c r' rest

/-- A residual as its m bits, most significant first (R169). -/
def residualBits (m : Nat) (q : Int) : List Bool := (List.range m).map fun i => (BitVec.ofInt m q).getMsbD i

/-- Eight bits, most significant first, as a byte; missing bits are 0. -/
def byteOfBits (bits : List Bool) : Byte :=
  BitVec.ofNat 8 (((bits ++ List.replicate 8 false).take 8).foldl (fun v b => 2 * v + b.toNat) 0)

/-- `n` bytes packed from a bit string, most significant bit first, padded with zero bits (R169). -/
def packBits : Nat → List Bool → List Byte
  | 0, _ => []
  | n + 1, bits => byteOfBits (bits.take 8) :: packBits n (bits.drop 8)

/-- A frame's bytes: k and the flags, then the packed residuals (R143, R169). -/
def frameBytes (m k : Nat) (lim first last : Bool) (qs : List Int) : List Byte :=
  BitVec.ofNat 8 (k + 32 * flag lim + 64 * flag first + 128 * flag last) ::
    packBits ((qs.length * m + 7) / 8) (qs.flatMap (residualBits m))

/-- The frame count of an output of T samples (R100). -/
def frameCount (total len : Nat) : Nat := (total + len - 1) / len

/-- The length of frame i (R100). -/
def frameSize (total len i : Nat) : Nat := min len (total - i * len)

/-- One shift of the CRC register (R144 step 2). -/
def crcShift (w : Word32) : Word32 := if w.getLsbD 0 then (w >>> 1) ^^^ 0xEDB88320 else w >>> 1

/-- The shift repeated. -/
def crcShifts : Nat → Word32 → Word32
  | 0, w => w
  | n + 1, w => crcShifts n (crcShift w)

/-- A frame byte taken into the register (R144). -/
def crcByte (w : Word32) (b : Byte) : Word32 := crcShifts 8 (w ^^^ b.setWidth 32)

/-- A run of frame bytes taken into the register. -/
def crcBytes (w : Word32) (bs : List Byte) : Word32 := bs.foldl crcByte w

/-- The digest: the register's complement (R144). -/
def digestOf (w : Word32) : Word32 := ~~~w

/-- What one frame of x leaves: the chain's next state (its CRC untouched, R144 takes bytes as they are placed), the
decoded samples and the frame's bytes (R132 to R143). `len` is F, `total` is T. -/
def codeFrame (pr : Profile) (gain : Int) (total len : Nat) (ch : Chain) (xs : List Sample) :
    Chain × List Sample × List Byte :=
  let c := ceilingValue pr
  let g := gainEntry gain
  let y1 := xs.map fun x => scaled x g
  let rCur := reductionNow (reductionNeeded c pr.lb (framePeak y1)) ch.rPrev pr.rel
  let raw := ramped (reductionEntry ch.rPrev) (reductionEntry rCur) xs.length 0 y1
  let y2 := raw.map (clampInt (-c) c)
  let k := stepExponent pr.m (largestStep ch.lastLimited y2)
  let codes := coded pr.m k c ch.lastDecoded y2
  let r := codes.map (·.2)
  let bytes := frameBytes pr.m k (decide (0 < rCur)) (ch.framesDone == 0)
    (ch.framesDone + 1 == frameCount total len) (codes.map (·.1))
  ({ ch with
     rPrev := rCur, clips := min 65535 (ch.clips + clipped c raw), largest := max ch.largest rCur,
     lastLimited := y2.getLastD ch.lastLimited, lastDecoded := r.getLastD ch.lastDecoded,
     framesDone := ch.framesDone + 1, byteTotal := ch.byteTotal + bytes.length },
   r, bytes)

/-- The 32 header bytes of a finished output (R168 and its layout). -/
def headerBytes (j : Job) (f : Finish) : List Byte :=
  u8 1 ++ u8 j.rate.val ++ u8 j.profile.m ++ u8 j.title.val ++ u8 j.position ++ u8 j.profileNo.val ++
    u16 (frameLength j.rate) ++ u32 j.total ++ u32 (frameCount j.total (frameLength j.rate)) ++
    u32 (ceilingValue j.profile) ++ s16 f.lo ++ s16 j.gain ++ u16 j.chain.clips ++ u16 j.chain.largest ++
    u32 f.digest.toNat

end Sys2Proof.Machine
end

