-- ==== Sys2Proof/Machine/Script.lean ====
section
/-! DEFINITION. Assembly scripts (03_assembly_scripts.md): validation at close, and the assembled sequence x. -/

namespace Sys2Proof.Machine

/-- The greatest usable start, length or fill (R55). -/
def usableMax : Nat := 2 ^ 28 - 1

/-- A step's length: the number of material samples it produces (R46). -/
def stepLength (st : Step) : Nat := if st.kind = .tone then st.fill else st.len

/-- A step's net contribution (R46). -/
def netContribution (st : Step) : Nat := stepLength st - st.xf

/-! ### Validation (R53 to R57) -/

/-- The failing step index, the reason code and the value of a SCRIPT_BAD (R53). -/
structure ScriptFault where
  step : Nat
  reason : Nat
  value : Nat
deriving DecidableEq, Repr

/-- The range checks (R55) for a take of length `lt`. -/
def rangeBad (st : Step) (lt : Nat) : Bool :=
  decide (usableMax < st.start ∨ usableMax < st.len ∨ st.len = 0 ∨ lt < st.start + st.len) ||
    (st.kind == .tone && decide (usableMax < st.fill ∨ st.fill = 0))

/-- The crossfade checks (R56); `before` is the previous step's net contribution, none for the first step. The answer
is the value reported. -/
def crossfadeBad (before : Option Nat) (st : Step) : Option Nat :=
  if before = none ∧ 0 < st.xf then some 0
  else if stepLength st < st.xf then some (stepLength st)
  else match before with
    | some n => if n < st.xf then some n else none
    | none => none

/-- The take, range and crossfade checks of one step: the reason and the value of the first that fails (R54 to R56). -/
def stepBad (s : State) (title : TitleNo) (before : Option Nat) (st : Step) : Option (Nat × Nat) :=
  match s.takes[st.take] with
  | none => some (1, st.take.val)
  | some t =>
    if t.title ≠ title then some (2, t.title.val)
    else if t.state ≠ .closed then some (3, t.length)
    else if rangeBad st t.length then some (4, t.length)
    else (crossfadeBad before st).map fun v => (5, v)

/-- The steps checked in slot order from slot `k` on, with the running sum of net contributions; the answer is the
sum, or the first failure (R53). -/
def checkSteps (s : State) (title : TitleNo) : Nat → Option Nat → Nat → List Step → Except ScriptFault Nat
  | _, _, sum, [] => .ok sum
  | k, before, sum, st :: rest =>
    match stepBad s title before st with
    | some (reason, value) => .error ⟨k, reason, value⟩
    | none => checkSteps s title (k + 1) (some (netContribution st)) (sum + netContribution st) rest

/-- Validation of a script at close: the assembled length, or the first failure (R53 to R57, R61). -/
def validate (s : State) (title : TitleNo) (slots : Vector Step 32) : Except ScriptFault Nat :=
  let steps := scriptSteps slots
  match checkSteps s title 0 none 0 steps with
  | .error e => .error e
  | .ok sum =>
    if steps = [] then .error ⟨0, 6, 0⟩
    else if sum < blockLength (titleRate s title) then .error ⟨steps.length, 7, sum⟩
    else if Config.takeLimit < sum then .error ⟨steps.length, 8, min sum 0xFFFFFFFF⟩
    else .ok sum

/-! ### The assembled sequence (R58 to R62) -/

/-- The take sample that is the material sample `j` of a step (R58). -/
def takeSample (st : Step) (j : Nat) : Nat := st.start + if st.kind = .tone then j % st.len else j

/-- The steps that index `n` of x draws on, each with its material sample: the step that appended the index, and the
next step where it is blended (R60, R62). `base` is T of step `k`. -/
def drawsFrom (k base : Nat) : List Step → Nat → List (Nat × Nat)
  | [], _ => []
  | st :: rest, n =>
    let next := base + netContribution st
    if n < next then
      (k, st.xf + (n - base)) ::
        match rest with
        | [] => []
        | nx :: _ => if next ≤ n + nx.xf then [(k + 1, n + nx.xf - next)] else []
    else drawsFrom (k + 1) next rest n

/-- The steps and material samples that index `n` of x draws on. -/
def draws (steps : List Step) (n : Nat) : List (Nat × Nat) := drawsFrom 0 0 steps n

/-- A material sample trimmed (R59). -/
def trimmed (t : Int) (x : Sample) : Sample := clampInt sampleMin sampleMax (scaled x (gainEntry t))

/-- A blended sample (R60): the outgoing sample `prev` and the incoming one `v` at place `i` of a crossfade `xf`. -/
def blended (xf i : Nat) (prev v : Sample) : Sample := (prev * ((xf : Int) - i) + v * (i + 1)) / (xf + 1)

/-- The sample of x at index `n`, from raw material samples: `raw k i` is take sample `i` of step `k`'s take. None past
the end of x, or where a raw sample is not at hand. -/
def assembledSample (raw : Nat → Nat → Option Sample) (steps : List Step) (n : Nat) : Option Sample :=
  let value (d : Nat × Nat) : Option Sample := do
    let st ← steps[d.1]?
    let x ← raw d.1 (takeSample st d.2)
    return trimmed st.trim x
  match draws steps n with
  | [] => none
  | [d] => value d
  | d :: e :: _ => do
    let prev ← value d
    let v ← value e
    let st ← steps[e.1]?
    return blended st.xf e.2 prev v

/-- Take sample `i` of a take, read from the array (R63). -/
def storedSample (s : State) (t : TakeId) (i : Nat) : Sample :=
  sampleAt (readPage s.store.mem (chainSlot (takeChain s t) (i / Config.pageSamples))) (i % Config.pageSamples)

/-- x at index `n` as R58 to R60 define it over the takes in the array. -/
def sequenceSample (s : State) (steps : List Step) (n : Nat) : Option Sample :=
  assembledSample (fun k i => steps[k]?.map fun st => storedSample s st.take i) steps n

end Sys2Proof.Machine
end

