-- ==== Sys2Proof/Machine/Render.lean ====
section
/-! DEFINITION. Lanes and jobs (05_render_queue_and_lanes.md): taking entries, starting, restarting, aborting and ending
jobs, producing x, the ends of both passes, and the verify (08_delivery_profiles_and_conformance.md). These are the
parts of the events; the commands are in RenderCommands.lean and LaneCommands.lean. -/

namespace Sys2Proof.Machine

/-! ### Leaving the lane (R79, R103, R105) -/

/-- A page of a source that has gone: a LOADED one is dropped, a PROGRAMMING one belongs to no source (R79). -/
def abandonPage (src : Source) (b : Buffer) : Buffer :=
  match b with
  | .free => .free
  | .loaded w page bytes target => if w = src then .free else .loaded w page bytes target
  | .programming w gone page slot bytes => .programming w (gone || w == src) page slot bytes

/-- The store's side of a source that has gone: its pages are abandoned, and its built-in erase will complete into
the ERASED pool (R72, R79). Its waiting requests stood in its pages and go with them (R70). -/
def abandonSource (src : Source) (st : Store) : Store :=
  let st := allBuffers.foldl (fun st i => modBuffer i (abandonPage src) st) st
  match st.array with
  | .erasing b (.builtIn w) gone => { st with array := .erasing b (.builtIn w) (gone || w == src) }
  | _ => st

/-- A lane's job goes: requests withdrawn, pages abandoned, a read in progress orphaned, the job record cleared and
the partial chain released (R103, R105). -/
def clearLane (l : Lane) (s : State) : State :=
  match s.lanes[l] with
  | none => s
  | some j =>
    release j.blocks (setLane l none (modStore (fun st => orphanRead (.lane l) (abandonSource (.lane l) st)) s))

/-- The lane that holds a chapter (R87). -/
def laneOf (s : State) (c : ChapterId) : Option Lane :=
  allLanes.find? fun l =>
    match s.lanes[l] with
    | some j => j.chapter == c
    | none => false

/-! ### Starting a job (R88, R97, R104, R107) -/

/-- A partial result group: profile number, origin port and reasons, every other member absent (R104). -/
def partialResult (j : Job) (reasons : List Reason) : ResultGroup :=
  { profileNo := j.profileNo, origin := j.origin, li := none, inPeak := none, gain := none, lo := none,
    outPeak := none, clips := none, largest := none, floor := none, head := none, tail := none,
    reasons := reasons, output := none }

/-- A chapter's result group written. -/
def writeResult (c : ChapterId) (g : ResultGroup) (s : State) : State :=
  modChapter c (fun r => { r with result := some g }) s

/-- The job record at a job's start, for a chapter's record and its title's (R97). Members that the spec sets at the
end of MEASURE or in ENCODE only (R96, R130) stand in the model's record from here on: LI, the input peak code and g
as 0, the chain, which does not yet exist (R131, R148), as the placeholder `Chain.start`, and the pages of the output
as empty with page number 1 (DESIGN CHOICE, unsafe, log 32). Nothing depends on them before `enterEncode` sets
them. -/
def freshJob (s : State) (c : ChapterId) (r : Chapter) (profileNo : ProfileNo) (origin : Port) : Job :=
  { chapter := c, origin := origin, profileNo := profileNo, profile := s.profiles[profileNo], title := r.title,
    rate := titleRate s r.title, position := r.position, total := r.assembled.getD 0, phase := .measure, done := 0,
    input := Meter.clear, li := 0, inPeak := 0, gain := 0, chain := Chain.start, output := Meter.clear,
    header := [], assembly := [], pageIndex := 1, waiting := [], inHand := [], finishing := none, blocks := [],
    pages := [], read := none }

/-- The profile number of a title (R155). -/
def titleProfileNo (s : State) (t : TitleNo) : ProfileNo :=
  match s.titles[t] with
  | some r => r.profile
  | none => 0

/-- The job's assembled length exceeds its snapshot's maximum (R97 step 4). -/
def tooLong (j : Job) : Bool := decide (j.profile.maxLen * blockLength j.rate < j.total)

/-- A job starts in a lane, for a chapter that is RENDERING: it enters MEASURE, or ends at once with TOO_LONG (R97,
R104). -/
def beginJob (l : Lane) (c : ChapterId) (origin : Port) (s : State) : State :=
  match s.chapters[c] with
  | none => s
  | some r =>
    let j := freshJob s c r (titleProfileNo s r.title) origin
    if tooLong j then enterState c .rejected .tooLong (writeResult c (partialResult j [.tooLong]) (setLane l none s))
    else setLane l (some j) s

/-- The lowest-numbered IDLE lane (R88). -/
def idleLane (s : State) : Option Lane := allLanes.find? fun l => s.lanes[l].isNone

/-- Idle lanes take the head entries, at most `n` of them (R88). -/
def takeEntries : Nat → State → State
  | 0, s => s
  | n + 1, s =>
    match idleLane s, s.queue with
    | some l, e :: rest =>
      takeEntries n (beginJob l e.chapter e.origin (enterState e.chapter .rendering .started (setQueue rest s)))
    | _, _ => s

/-- Lanes take work as long as a lane is IDLE and the queue holds an entry (R88). -/
def lanesTake (s : State) : State := takeEntries s.queue.length s

/-- An abort of the job that holds a chapter, if one does (R105). The lane takes its next entry later in the event,
after the chapter's notice (R106). -/
def abortJobOf (c : ChapterId) (s : State) : State :=
  match laneOf s c with
  | some l => clearLane l s
  | none => s

/-- A render allocation has failed: the lane's job is aborted with STORE_FULL, its chapter is READY, and lanes take
the next entries (R108). -/
def storeFull (l : Lane) (s : State) : State :=
  match s.lanes[l] with
  | none => s
  | some j => lanesTake (enterState j.chapter .ready .storeFull (clearLane l s))

/-! ### Producing x (R98, R99, R100) -/

/-- The steps of the chapter a job renders. -/
def jobSteps (s : State) (j : Job) : List Step :=
  match s.chapters[j.chapter] with
  | some r => scriptSteps r.slots
  | none => []

/-- The index of the next sample of x to produce. -/
def nextIndex (j : Job) : Nat :=
  match j.phase with
  | .measure => j.done
  | .encode => j.done + j.inHand.length

/-- Raw sample `i` of step `k`'s take, if the lane holds that step's page with it (R98). -/
def heldSample (pages : List HeldPage) (k i : Nat) : Option Sample :=
  (pages.find? fun h => h.step == k && h.page == i / Config.pageSamples).map fun h =>
    sampleAt h.bytes (i % Config.pageSamples)

/-- The next sample of x, if its pages are held. -/
def nextSample (s : State) (j : Job) : Option Sample :=
  assembledSample (heldSample j.pages) (jobSteps s j) (nextIndex j)

/-- The pages after the sample at index `n` has been produced: a step's page is discarded when the step's last
material sample has been used (R98). -/
def pagesAfter (steps : List Step) (n : Nat) (pages : List HeldPage) : List HeldPage :=
  let spent := (draws steps n).filterMap fun d =>
    (steps[d.1]?).bind fun st => if d.2 + 1 = stepLength st then some d.1 else none
  pages.filter fun h => !spent.contains h.step

/-- The step pages that the next sample needs and the lane does not hold: step and page (R98). -/
def missingPages (s : State) (j : Job) : List (Nat × Nat) :=
  let steps := jobSteps s j
  (draws steps (nextIndex j)).filterMap fun d =>
    (steps[d.1]?).bind fun st =>
      let i := takeSample st d.2
      if (heldSample j.pages d.1 i).isSome then none else some (d.1, i / Config.pageSamples)

/-- The lane goes on producing samples: in MEASURE up to T, in ENCODE up to the end of the next frame, unless the pass
has ended or its bytes wait for the store (R99, R100, R146). -/
def producing (j : Job) : Bool :=
  match j.phase with
  | .measure => decide (j.done < j.total)
  | .encode =>
    j.finishing.isNone && j.waiting.isEmpty && decide (j.assembly.length < Config.pageBytes) &&
      decide (j.inHand.length < frameSize j.total (frameLength j.rate) j.chain.framesDone)

/-- The page read that a lane posts: for one missing page, the first or, when two are missing, the one the manual
leaves open (R98, log 9). The step's held page is discarded. -/
def postRead (s : State) (j : Job) : Job :=
  if j.read.isSome || !producing j then j
  else
    let missing := missingPages s j
    match (if Config.blendReadsPreviousFirst then missing.head? else missing.getLast?) with
    | none => j
    | some (k, page) =>
      match (jobSteps s j)[k]? with
      | none => j
      | some st =>
        { j with pages := j.pages.filter fun h => h.step != k
                 read := some ⟨k, page, chainSlot (takeChain s st.take) page, false⟩ }

/-- Samples of the next frame produced as far as the held pages go (R100). -/
def gather (s : State) : Nat → Job → Job
  | 0, j => j
  | n + 1, j =>
    if j.phase = .encode ∧ producing j then
      match nextSample s j with
      | some x =>
        gather s n { j with inHand := j.inHand ++ [x], pages := pagesAfter (jobSteps s j) (nextIndex j) j.pages }
      | none => j
    else j

/-- A lane goes as far as it can without an event of its own: in ENCODE it produces the frame's samples from the pages
it holds, and in both passes it posts the page read that the next sample needs (R98). -/
def advanceJob (s : State) (j : Job) : Job :=
  postRead s (gather s (frameLength j.rate) j)

/-- Both lanes advanced (R98). -/
def lanesAdvance (s : State) : State := allLanes.foldl (fun s l => modJob l (advanceJob s) s) s

/-! ### The end of MEASURE (R99, R124, R129) -/

/-- The MEASURE pass has consumed all of x. -/
def measureOver (j : Job) : Bool := j.phase == .measure && decide (j.total ≤ j.done)

/-- The job record as it enters ENCODE with the gain of R129 (R99, R131). -/
def enterEncode (li inPeak : Int) (j : Job) : Job :=
  { j with phase := .encode, done := 0, li := li, inPeak := inPeak, gain := renderGain j.profile li inPeak,
           input := meterCompleted j.input, chain := Chain.start, output := Meter.clear, header := [], assembly := [],
           pageIndex := 1, waiting := [], inHand := [], pages := [] }

/-- MEASURE_END: when the pass is over, the input meter is completed, and the job ends SILENT or enters ENCODE (R99,
R104, R120, R124). Nothing changes when the pass is not over. -/
def measureEndDue (l : Lane) (s : State) : State :=
  match s.lanes[l] with
  | none => s
  | some j =>
    if measureOver j then
      let inPeak := amplitudeCode j.input.peak
      match gated j.profile.ga j.profile.roff j.input.hist with
      | none =>
        lanesTake (enterState j.chapter .rejected .silent
          (writeResult j.chapter { partialResult j [.silent] with inPeak := some inPeak } (clearLane l s)))
      | some li => modJob l (enterEncode li inPeak) s
    else s

/-! ### Placing bytes (R100, R144, R146) -/

/-- The room for frame bytes in the header page (R100). -/
def headerRoom : Nat := Config.pageBytes - 32

/-- Frame bytes placed in order: in the header page while it has room, then in the assembly page; the rest wait with
the frame. Each byte passes through the CRC register as it is placed (R100, R146). -/
def placeBytes (bytes : List Byte) (j : Job) : Job :=
  let a := headerRoom - j.header.length
  let b := Config.pageBytes - j.assembly.length
  { j with header := j.header ++ bytes.take a
           assembly := j.assembly ++ (bytes.drop a).take b
           waiting := (bytes.drop a).drop b
           chain := { j.chain with crc := crcBytes j.chain.crc (bytes.take (a + b)) } }

/-! ### The verify and the end of ENCODE (R101 to R103, R157 to R162) -/

/-- The frame count of a job's output. -/
def jobFrames (j : Job) : Nat := frameCount j.total (frameLength j.rate)

/-- The last frame's bytes have been appended. -/
def encodeOver (j : Job) : Bool :=
  j.phase == .encode && j.finishing.isNone && j.waiting.isEmpty && decide (jobFrames j ≤ j.chain.framesDone)

/-- The verify: the reasons that hold, in bit order (R157 to R161). `lo` is none when the output is SILENT. -/
def verify (pr : Profile) (lo : Option Int) (clips : Nat) (floor : Option Int) (head tail : Nat) : List Reason :=
  allReasons.filter fun r =>
    match r with
    | .loudLow => lo.any fun v => decide (v < pr.target - pr.tolerance)
    | .loudHigh => lo.any fun v => decide (pr.target + pr.tolerance < v)
    | .clips => decide (pr.clips < clips)
    | .floor => floor.any fun v => decide (pr.floorMax < v)
    | .headShort => decide (head < pr.hmin)
    | .headLong => decide (pr.hmax < head)
    | .tailShort => decide (tail < pr.tmin)
    | .tailLong => decide (pr.tmax < tail)
    | .silent => lo.isNone
    | .tooLong => false

/-- What the end of ENCODE fixes (R101, R125, R145, R147). -/
def outcomeOf (j : Job) : Finish :=
  let lo := gated j.profile.ga j.profile.roff j.output.hist
  { reasons := verify j.profile lo j.chain.clips j.output.floor j.output.head j.output.tail
    digest := digestOf j.chain.crc, lo := lo.getD (-900), outPeak := amplitudeCode j.output.peak
    floor := j.output.floor, head := j.output.head, tail := j.output.tail }

/-- The output length in bytes (R143). -/
def outputLength (j : Job) : Nat := 32 + j.chain.byteTotal

/-- The result group of a job that has been through ENCODE; `output` is none when the output is not kept (R102,
R103). -/
def fullResult (j : Job) (f : Finish) (output : Option Output) : ResultGroup :=
  { profileNo := j.profileNo, origin := j.origin, li := some j.li, inPeak := some j.inPeak, gain := some j.gain,
    lo := some f.lo, outPeak := some f.outPeak, clips := some j.chain.clips, largest := some j.chain.largest,
    floor := f.floor, head := some f.head, tail := some f.tail, reasons := f.reasons, output := output }

/-- ENCODE_END: when the last frame's bytes are appended, the outcome is fixed; a REJECTED outcome that is not kept
ends the job, any other is finished (R101, R103, R162). Nothing changes when the pass is not over. R120 completes the
output meter within the event that fed the last sample, R100 and R101 at the end of the pass, when the last frame's
bytes have been appended; where some of these wait (R146) these are two events, and the model completes the meter at
the later one (DEDUCED, unsafe, log 30). -/
def encodeEndDue (l : Lane) (s : State) : State :=
  match s.lanes[l] with
  | none => s
  | some j =>
    if encodeOver j then
      let f := outcomeOf j
      if f.reasons = [] ∨ j.profile.keep then
        modJob l (fun j => { j with finishing := some f, output := meterCompleted j.output }) s
      else
        lanesTake (enterState j.chapter .rejected .failed (writeResult j.chapter (fullResult j f none) (clearLane l s)))
    else s

/-- JOB_END: the header page's program has completed. The result group is written with the output, the chapter becomes
RENDERED or REJECTED, and the lane is IDLE and takes the next entry (R102). -/
def jobEnd (l : Lane) (s : State) : State :=
  match s.lanes[l] with
  | none => s
  | some j =>
    match j.finishing with
    | none => s
    | some f =>
      let out : Output := ⟨outputLength j, jobFrames j, f.digest, j.blocks⟩
      let s := writeResult j.chapter (fullResult j f (some out)) (setLane l none s)
      lanesTake (if f.reasons = [] then enterState j.chapter .rendered .passed s
        else enterState j.chapter .rejected .failed s)

/-! ### Output pages (R78, R100, R101) -/

/-- The page a lane offers to the store: its full assembly page; at the end of the pass its final partial page, then
the header page as page 0 (R76, R78, R101). -/
def lanePage (j : Job) : Option (Nat × List Byte) :=
  if Config.pageBytes ≤ j.assembly.length then some (j.pageIndex, j.assembly)
  else match j.finishing with
    | none => none
    | some f =>
      if j.assembly ≠ [] then some (j.pageIndex, padTo Config.pageBytes j.assembly)
      else some (0, padTo Config.pageBytes (headerBytes j f ++ j.header))

/-- A lane offers a page: it has none in the store, and one to offer (R76). -/
def laneOffers (s : State) (l : Lane) : Bool :=
  match s.lanes[l] with
  | none => false
  | some j => !inStore (.lane l) s.store && (lanePage j).isSome

end Sys2Proof.Machine
end

