-- ==== Sys2Proof/Machine/Arbiter.lean ====
section
/-! DEFINITION. The sample store at work (04_the_sample_store.md): allocations, page loads, the arbiter's choice, the
posting of reads, and `settle`, which carries an event's consequences in the store through to their end. -/

namespace Sys2Proof.Machine

/-! ### Round robin and requests (R69) -/

/-- The members of a cycle in the order after the one last served (R69). -/
def cycleAfter {n : Nat} (last : Fin (n + 1)) : List (Fin (n + 1)) :=
  (List.range (n + 1)).map fun i => last + 1 + Fin.ofNat (n + 1) i

/-- The reader at a place of tier 3's cycle: L0, L1, P0, P1, P2, P3 (R69). -/
def readerAt (i : Fin 6) : Reader :=
  match i with
  | 0 => .lane 0 | 1 => .lane 1 | 2 => .port 0 | 3 => .port 1 | 4 => .port 2 | 5 => .port 3

/-- The LOADED buffer of a source, and what its page waits for (R75, R76). -/
def loadedBuffer (src : Source) (st : Store) : Option (Fin 2 × Target) :=
  allBuffers.findSome? fun i =>
    match st.buffers[i] with
    | .loaded w _ _ target => if w = src then some (i, target) else none
    | _ => none

/-- A source has a program or a built-in erase request waiting at the arbiter (R69, R70). -/
def hasRequest (src : Source) (st : Store) : Bool :=
  match loadedBuffer src st with
  | some (_, .placed) => true
  | some (_, .posted) => true
  | _ => false

/-- A source's allocation waits for a block (R73, R74). -/
def waitsForBlock (src : Source) (st : Store) : Bool :=
  match loadedBuffer src st with
  | some (_, .unposted) => true
  | some (_, .posted) => true
  | _ => false

/-- A source's allocation is not yet satisfied, its erase in progress included (R73, R74). -/
def allocating (src : Source) (st : Store) : Bool :=
  match loadedBuffer src st with
  | some (_, .placed) => false
  | some _ => true
  | none => false

/-- The slot of a reader's waiting page read (R80). -/
def readWaiting (s : State) (who : Reader) : Option Nat :=
  match who with
  | .lane l => s.lanes[l].bind fun j => j.read.bind fun r => if r.inProgress then none else some r.slot
  | .port p =>
    match s.ports[p].stream with
    | .active a => a.fetch.bind fun f => if f.inProgress then none else some f.slot
    | _ => none

/-- What a source's page waits for, changed. -/
def setTarget (src : Source) (target : Target) (st : Store) : Store :=
  allBuffers.foldl (fun st i => modBuffer i (fun b =>
    match b with
    | .loaded w page bytes old => if w = src then .loaded w page bytes target else .loaded w page bytes old
    | b => b) st) st

/-- The chain of a source's owner: the stream's take, or the lane's partial output (R65). -/
def sourceChain (s : State) (src : Source) : List Nat :=
  match src with
  | .stream p =>
    match s.captures[p] with
    | some st => takeChain s st.take
    | none => []
  | .lane l =>
    match s.lanes[l] with
    | some j => j.blocks
    | none => []

/-- A block appended to a source's chain; its page's target is known from now on (R65). -/
def appendBlock (src : Source) (b : Nat) (s : State) : State :=
  let s := modStore (setTarget src .placed) s
  match src with
  | .stream p =>
    match s.captures[p] with
    | some st => modTake st.take (fun t => { t with chain := t.chain ++ [b] }) s
    | none => s
  | .lane l => modJob l (fun j => { j with blocks := j.blocks ++ [b] }) s

/-- The detail of a STORE_LOW notice (R82). -/
def lowDetail (src : Source) : Nat :=
  match src with
  | .stream _ => 0
  | .lane _ => 1

/-- An allocation takes the oldest ERASED block (R73, R74). -/
def takeErased (src : Source) (s : State) : State :=
  match s.store.erased with
  | [] => s
  | b :: rest =>
    lowCheck (freeCount s.store) (lowDetail src) (appendBlock src b (modStore (fun st => { st with erased := rest }) s))

/-! ### Erases (R71, R72) -/

/-- The notices of an erase start: STORE_LOW for a built-in erase that lowers the free count, and STORE_SWEPT for the
last DIRTY block of the sweep; their order is the manual's open point (R81, R82, log 10). -/
def eraseNotices (before detail : Nat) (s : State) : State :=
  if Config.storeLowBeforeSwept then sweptCheck (lowCheck before detail s) else lowCheck before detail (sweptCheck s)

/-- The background erase starts on the oldest DIRTY block (R71). The free count does not change, so no STORE_LOW. -/
def startBackground (s : State) : State :=
  match s.store.dirty with
  | [] => s
  | b :: rest => sweptCheck (modStore (fun st => { st with dirty := rest, array := .erasing b .background false }) s)

/-- A built-in erase starts on the oldest DIRTY block (R72). -/
def startBuiltIn (src : Source) (s : State) : State :=
  match s.store.dirty with
  | [] => s
  | b :: rest =>
    eraseNotices (freeCount s.store) (lowDetail src)
      (modStore (fun st => setTarget src .erasing { st with dirty := rest, array := .erasing b (.builtIn src) false }) s)

/-! ### Allocation (R73, R74) -/

/-- The allocation of a capture page that starts a block (R73 steps 1 to 3). -/
def captureAllocation (p : Port) (s : State) : State :=
  let others := allPorts.any fun q => q != p && allocating (.stream q) s.store
  if !s.store.erased.isEmpty && !others then takeErased (.stream p) s
  else if s.store.erased.isEmpty && !s.store.dirty.isEmpty then modStore (setTarget (.stream p) .posted) s
  else modStore (setTarget (.stream p) .unposted) s

/-- The allocation of an output page that needs a block (R74 steps 1 to 3). -/
def renderAllocation (l : Lane) (s : State) : State :=
  let others := (allPorts.any fun q => allocating (.stream q) s.store) ||
    allLanes.any fun k => k != l && allocating (.lane k) s.store
  if freeCount s.store ≤ Config.renderReserve then storeFull l s
  else if !s.store.erased.isEmpty && !others then takeErased (.lane l) s
  else modStore (setTarget (.lane l) .posted) s

/-- WAITING_ALLOCATION_SERVED: a block in the ERASED pool goes to the first waiting capture allocation, else to the
first waiting render allocation, which is judged against the reserve (R73, R74 step 5). None when nothing waits or
the pool is empty. When both lanes wait and the first fails with STORE_FULL, R74 does not say whether the same block
then reaches the second: it does, in the next round of `loadAll`, and the second is judged by the free count after the
abort's release (DESIGN CHOICE, unsafe, log 29). -/
def waitingDue (s : State) : Option State :=
  if s.store.erased.isEmpty then none
  else match (cycleAfter s.store.last1).find? fun p => waitsForBlock (.stream p) s.store with
    | some p => some (takeErased (.stream p) s)
    | none =>
      match (cycleAfter s.store.last4).find? fun l => waitsForBlock (.lane l) s.store with
      | some l =>
        some (if freeCount s.store ≤ Config.renderReserve then storeFull l s else takeErased (.lane l) s)
      | none => none

/-! ### Page loads (R75 to R78) -/

/-- A FREE program buffer, X before Y (R75). -/
def freeBuffer (st : Store) : Option (Fin 2) := allBuffers.find? fun i => st.buffers[i] == .free

/-- A capture page loaded into a buffer (R77): its samples leave the FIFO, and a page that starts a block makes its
allocation. -/
def loadStream (p : Port) (i : Fin 2) (s : State) : State :=
  let pg := streamPage s p
  let starts := pg.1 % Config.blockPages == 0
  let s := modStore (fun st =>
      { modBuffer i (fun _ => .loaded (.stream p) pg.1 pg.2 (if starts then .unposted else .placed)) st with
        loadedStream := p })
    (modStream p (fun st => { st with fifo := st.fifo.drop Config.pageSamples }) s)
  if starts then captureAllocation p s else s

/-- An output page needs a new block: page 1, each page j > 0 with j mod 64 = 0, and the header page of a one-page
output (R74). -/
def needsBlock (j : Job) (page : Nat) : Bool :=
  page == 1 || (page != 0 && page % Config.blockPages == 0) || (page == 0 && j.blocks.isEmpty)

/-- An output page loaded into a buffer (R78): the assembly page is empty again, an allocation is made where the page
needs a block, the bytes that waited with their frame are placed, and the pass may end (R100, R101, R146). -/
def loadLane (l : Lane) (i : Fin 2) (s : State) : State :=
  match s.lanes[l] with
  | none => s
  | some j =>
    match lanePage j with
    | none => s
    | some pg =>
      let needs := needsBlock j pg.1
      let s := modStore (fun st =>
          { modBuffer i (fun _ => .loaded (.lane l) pg.1 pg.2 (if needs then .unposted else .placed)) st with
            loadedLane := l }) s
      let s := if pg.1 = 0 then s
        else modJob l (fun j => { j with assembly := [], pageIndex := j.pageIndex + 1 }) s
      let s := if needs then renderAllocation l s else s
      encodeEndDue l (modJob l (fun j => placeBytes j.waiting j) s)

/-- PAGE_LOAD: a FREE buffer takes an offered capture page before an offered output page, each by its load order
(R75). None when no buffer is FREE or no page is offered. -/
def loadDue (s : State) : Option State :=
  match freeBuffer s.store with
  | none => none
  | some i =>
    match (cycleAfter s.store.loadedStream).find? (streamOffers s) with
    | some p => some (loadStream p i s)
    | none =>
      match (cycleAfter s.store.loadedLane).find? (laneOffers s) with
      | some l => some (loadLane l i s)
      | none => none

/-- Waiting allocations served and offered pages loaded, until neither is due. Every round satisfies an allocation or
fills a buffer, so the bound of 16 rounds is not met on a run. -/
def loadAll : Nat → State → State
  | 0, s => s
  | n + 1, s =>
    match (waitingDue s).or (loadDue s) with
    | some t => loadAll n t
    | none => s

/-! ### Read-ahead fetches (R177) -/

/-- The chain of a stream's source. -/
def streamChain (s : State) (src : StreamSource) : List Nat :=
  match src with
  | .output c => outputChain s c
  | .take t => takeChain s t

/-- The page a port fetches next: the cursor's page when the read-ahead is empty, else the page after the last
segment's, with page 0 after the source's last page (R177). -/
def nextFetchPage (a : Active) : Nat :=
  match a.segments.getLast? with
  | none => a.cursor / Config.pageBytes
  | some g => if a.length ≤ (g.page + 1) * Config.pageBytes then 0 else g.page + 1

/-- A port posts its next fetch while its stream is ACTIVE with fewer than two segments and no fetch (R177). -/
def postFetch (s : State) (ps : PortState) : PortState :=
  match ps.stream with
  | .active a =>
    if a.segments.length < 2 ∧ a.fetch = none then
      let page := nextFetchPage a
      { ps with stream := .active { a with
          fetch := some ⟨page, chainSlot (streamChain s a.source) page, false⟩ } }
    else ps
  | _ => ps

/-- Every reader goes as far as it can: the lanes produce and post their page reads, the ports post their fetches. -/
def readersAdvance (s : State) : State :=
  let s := lanesAdvance s
  allPorts.foldl (fun s p => modPort p (postFetch s) s) s

/-! ### The arbiter's choice (R69) -/

/-- A loaded page's program starts (R68, R75). -/
def startProgram (i : Fin 2) (s : State) : State :=
  match s.store.buffers[i] with
  | .loaded src page bytes _ =>
    let slot := chainSlot (sourceChain s src) page
    modStore (fun st =>
      { modBuffer i (fun _ => .programming src false page slot bytes) st with array := .programming i }) s
  | _ => s

/-- A page read starts (R68). -/
def startRead (who : Reader) (slot : Nat) (s : State) : State :=
  let s := modStore (fun st => { st with array := .reading who false slot }) s
  match who with
  | .lane l => modJob l (fun j => { j with read := j.read.map fun r => { r with inProgress := true } }) s
  | .port p =>
    modPort p (fun ps =>
      match ps.stream with
      | .active a =>
        { ps with stream := .active { a with fetch := a.fetch.map fun f => { f with inProgress := true } } }
      | _ => ps) s

/-- The request of a chosen stream: its program, or its built-in erase, which is withdrawn when DIRTY is empty (R69
tier 1, R72). -/
def serveStream (p : Port) (s : State) : State :=
  match loadedBuffer (.stream p) s.store with
  | some (i, .placed) => modStore (fun st => { st with last1 := p }) (startProgram i s)
  | some (_, .posted) =>
    if s.store.dirty.isEmpty then modStore (setTarget (.stream p) .unposted) s
    else modStore (fun st => { st with last1 := p }) (startBuiltIn (.stream p) s)
  | _ => s

/-- The request of a chosen lane: its program, or its built-in erase, which is withdrawn when DIRTY is empty and fails
with STORE_FULL when the free count is 16 or below (R69 tier 4, R72, R74 step 4). -/
def serveLane (l : Lane) (s : State) : State :=
  match loadedBuffer (.lane l) s.store with
  | some (i, .placed) => modStore (fun st => { st with last4 := l }) (startProgram i s)
  | some (_, .posted) =>
    if s.store.dirty.isEmpty then modStore (setTarget (.lane l) .unposted) s
    else if freeCount s.store ≤ Config.renderReserve then storeFull l s
    else modStore (fun st => { st with last4 := l }) (startBuiltIn (.lane l) s)
  | _ => s

/-- The ERASED pool is below the 16 blocks that put the background erase in tier 2 (R69, R71). -/
def erasedLow (st : Store) : Bool := decide (st.erased.length < 16)

/-- One choice of the arbiter: the highest tier that holds a request is served (R69). None when nothing waits. -/
def chooseOnce (s : State) : Option State :=
  match (cycleAfter s.store.last1).find? fun p => hasRequest (.stream p) s.store with
  | some p => some (serveStream p s)
  | none =>
    if erasedLow s.store && !s.store.dirty.isEmpty then some (startBackground s)
    else match (cycleAfter s.store.last3).findSome? fun i => (readWaiting s (readerAt i)).map fun slot => (i, slot) with
      | some (i, slot) => some (modStore (fun st => { st with last3 := i }) (startRead (readerAt i) slot s))
      | none =>
        match (cycleAfter s.store.last4).find? fun l => hasRequest (.lane l) s.store with
        | some l => some (serveLane l s)
        | none => if s.store.dirty.isEmpty then none else some (startBackground s)

/-! ### Settling -/

/-- The consequences of an event in the store and at its readers: pages are loaded and allocations served, the readers
post their reads, and when the array is IDLE the arbiter chooses, again at once when the choice is not served (R68,
R69, R75; the order is log 7). Each round that does not end starts, withdraws or fails a request. -/
def settleRounds : Nat → State → State
  | 0, s => s
  | n + 1, s =>
    let s := readersAdvance (loadAll 16 s)
    if s.store.array = .idle then
      match chooseOnce s with
      | some t => settleRounds n t
      | none => s
    else s

/-- The consequences of an event, carried to their end. Sixteen rounds are more than the requests that can wait. -/
def settle (s : State) : State := settleRounds 16 s

/-- The state after an event: its consequences in the store, then the attention of the ports. -/
def commit (before after : State) : State := attend before (settle after)

end Sys2Proof.Machine
end

