-- ==== Sys2Proof/Machine/Ports.lean ====
section
/-! DEFINITION. The port's side of every command: how a request reaches its block and is answered (R185, R186, R189,
R199), how a dropped request is reported (R188), and the moments of a transaction (R184). -/

namespace Sys2Proof.Machine

/-- What a command answers. -/
abbrev Answer := Host.Outcome State Fault Refusal

/-! ### Responses -/

/-- What the owning block makes of a request: the state it leaves, the result and the payload (R185). -/
structure Reply where
  state : State
  result : Result
  payload : List Byte
deriving DecidableEq, Repr

/-- A refusal changes nothing, and its payload is empty (R1, R189). -/
def refuse (r : Result) (s : State) : Reply := ⟨s, r, []⟩

/-- An accepted request with its payload. -/
def accept (payload : List Byte) (s : State) : Reply := ⟨s, .accepted, payload⟩

/-- An accepted request, answered CLAMPED where a value was clamped (R1). -/
def acceptOr (clamped : Bool) (payload : List Byte) (s : State) : Reply :=
  ⟨s, if clamped then .clamped else .accepted, payload⟩

/-- A response fills the port's slot (R186). -/
def fillSlot (p : Port) (r : Response) (s : State) : State :=
  modPort p (fun ps => { ps with exec := .answered r }) s

/-- The owning block has formed the response: it fills the slot, or is discarded after a port reset (R185, R199). -/
def answer (p : Port) (k : ReqKind) (discard : Bool) (r : Reply) : State :=
  if discard then modPort p (fun ps => { ps with exec := .idle }) r.state
  else fillSlot p ⟨kindCode k, r.result, r.payload⟩ r.state

/-! ### The end of a REQUEST transaction (R185) -/

/-- The two causes of a dropped request (R188). -/
inductive DropCause where
  | busy
  | short
deriving DecidableEq, Repr

/-- The code of a drop's cause (R188). -/
def dropCode (c : DropCause) : Nat :=
  match c with
  | .busy => 0
  | .short => 1

/-- A dropped request: one REQUEST_DROPPED notice to its own port (R188). -/
def dropRequest (p : Port) (cause : DropCause) (bytes : List Byte) (s : State) : State :=
  notify p (notice .requestDropped (bytes.getD 0 0xFF).toNat (dropCode cause) bytes.length) s

/-- The kind byte, the length byte or a parameter byte did not arrive in full (R185 case 2). -/
def isShort (bytes : List Byte) : Bool := decide (bytes.length < 2 ∨ bytes.length < 2 + paramAt bytes 1)

/-- The port judges a request at the rise of chip-select: the first case of R185 that holds. -/
def receive (p : Port) (bytes : List Byte) (s : State) : State :=
  match s.ports[p].exec with
  | .idle =>
    let echo := bytes.getD 0 0xFF
    if isShort bytes then dropRequest p .short bytes s
    else if 60 < paramAt bytes 1 then fillSlot p ⟨echo, .badParam, []⟩ s
    else match kindOf echo with
      | none => fillSlot p ⟨echo, .badKind, []⟩ s
      | some k =>
        modPort p (fun ps => { ps with exec := .executing k ((bytes.drop 2).take (paramAt bytes 1)) false }) s
  | _ => dropRequest p .busy bytes s

/-- A request as the bytes of its transaction after the transaction byte. -/
def requestBytes (k : ReqKind) (params : List Byte) : List Byte :=
  kindCode k :: BitVec.ofNat 8 (min params.length 255) :: params

/-! ### Transactions (R184) -/

/-- The transaction in progress on a port. -/
def setTransfer (p : Port) (x : Transfer) (s : State) : State := modPort p (fun ps => { ps with xfer := x }) s

/-- The bytes the port sends from the transaction byte on. -/
def setSent (p : Port) (bytes : List Byte) (s : State) : State := modPort p (fun ps => { ps with sent := bytes }) s

/-- The rise of chip-select of the transaction in progress, where one is and nothing more of it has arrived: a REQUEST is
dropped (R185 cases 1 and 2), a FETCH is cut short (R187), an ATTENTION writes nothing (R196), a CAPTURE that found its
stream NONE or CLOSING posts its CAPTURE_IGNORED (R28). No transaction is in progress afterwards. -/
def endTransaction (p : Port) (s : State) : State :=
  match s.ports[p].xfer with
  | .request => setTransfer p .none (receive p [] s)
  | .capture _ _ _ (some (subject, detail)) discarded =>
    setTransfer p .none (notify p ⟨.captureIgnored, subject, detail, BitVec.ofNat 32 discarded⟩ s)
  | _ => setTransfer p .none s

/-- The state in which a transaction begins: the port serves one at a time, so an earlier one has ended, as an event of
its own (R184, log 6). -/
def ended (p : Port) (s : State) : State := attend s (endTransaction p s)

/-- A transaction row's meaning: an earlier transaction has ended, then this one acts and sends its bytes. -/
def transact (p : Port) (sent : State → List Byte) (act : State → State) (s : State) : Answer :=
  let t := ended p s
  .next (attend t (act (setSent p (sent t) t)))

/-- The transaction byte of a kind that acts later: the port keeps what the kind fixes at this moment (R184). The byte
itself changes no condition of the attention line. -/
def opened (p : Port) (kept : State → Transfer) (s : State) : State :=
  let t := ended p s
  setTransfer p (kept t) (setSent p [] t)

/-- The moment at which the kind of a transaction byte acts: in the transaction of that kind that is in progress, or in
a whole transaction, whose transaction byte comes first (log 5). In a period of that kind that a device reset abandoned
it is ignored (R184). -/
def later {α : Type} (p : Port) (kind : Byte) (kept : Transfer → Option α) (opening : State → State)
    (act : α → State → State) (s : State) : Answer :=
  if s.ports[p].xfer = .abandoned kind then .next (setTransfer p .none s)
  else match kept s.ports[p].xfer with
    | some a => .next (attend s (act a s))
    | none =>
      let t := opening s
      match kept t.ports[p].xfer with
      | some a => .next (attend t (act a t))
      | none => .next t

/-- The first `n` of the bytes a port sends, with 0x00 after the last of them (R184). -/
def clockedOut (n : Nat) (bytes : List Byte) : List Byte := padTo n (bytes.take n)

/-! ### REQUEST and the service of a request (R185) -/

/-- The transaction byte of a REQUEST. -/
def openRequest (p : Port) (s : State) : State := opened p (fun _ => .request) s

/-- The rise of chip-select of a REQUEST: the port judges the bytes received; it has sent 0x00 for each (R184, R185). -/
def endRequest (p : Port) (bytes : List Byte) (s : State) : State :=
  setTransfer p .none (receive p bytes (setSent p (List.replicate bytes.length 0) s))

/-- A whole REQUEST transaction with nothing between its moments. -/
def wholeRequest (p : Port) (bytes : List Byte) (s : State) : State :=
  let t := openRequest p s
  attend t (endRequest p bytes t)

/-- A request row's meaning: the event in which the owning block takes the request and acts on it, after which the ports'
attention follows (R185, R195). On a port that does not execute exactly this request, the row is the REQUEST
transaction as well; when the port has passed it on, the block takes it next (log 1). -/
def request (p : Port) (k : ReqKind) (params : List Byte) (act : State → Reply) (s : State) : Answer :=
  match s.ports[p].exec with
  | .executing kind sent discard =>
    if kind = k ∧ sent = params then .next (attend s (answer p k discard (act s)))
    else .next (wholeRequest p (requestBytes k params) s)
  | _ =>
    let t := wholeRequest p (requestBytes k params) s
    if t.ports[p].exec = .executing k params false then .next (attend t (answer p k false (act t))) else .next t

end Sys2Proof.Machine
end

