-- ==== Sys2Proof/Machine/CaptureCommands.lean ====
section
/-! DEFINITION. The capture unit's requests (R25 to R42), the CAPTURE transaction (R28, R29), and the steps of a capture
that another event makes due (R36, R38, R39). -/

namespace Sys2Proof.Machine

/-! ### Requests -/

/-- A take record as TAKE_START makes it (R8). -/
def freshTake (t : TitleNo) (p : Port) : Take :=
  ⟨t, .capturing, some p, 0, -900, false, false, none, 0, [], [], 0⟩

/-- A stream as TAKE_START opens it (R27, R39). -/
def freshStream (t : TakeId) (g : Gate) (a b inc : Word32) : Stream :=
  ⟨t, false, 0, false, g, a, b, inc, [], none, 0, 0, 0, 0⟩

/-- A port's take, stream and live entry opened (R8, R27). -/
def openTake (p : Port) (title : TitleNo) (t : TakeId) (g : Gate) (a b inc : Word32) (s : State) : State :=
  modLevel p (fun _ => ⟨true, some t, g, -900, -900, 0⟩)
    (setStream p (some (freshStream t g a b inc))
      (setTake t (some (freshTake title p)) (modTitle title (fun r => { r with takeCount := r.takeCount + 1 }) s)))

/-- A 32-bit parameter. -/
def word32At (params : List Byte) (i : Nat) : Word32 := BitVec.ofNat 32 (fieldAt params i 4)

/-- TAKE_START at the capture unit (R27). -/
def startTake (p : Port) (params : List Byte) (s : State) : Reply :=
  match titleAt params 0 with
  | none => refuse .badParam s
  | some title =>
    if params.length ≠ 14 ∨ 1 < paramAt params 1 then refuse .badParam s
    else if s.captures[p].isSome then refuse .capturing s
    else if s.titles[title].isNone then refuse .noTitle s
    else match firstFree s.takes with
      | none => refuse .noRecord s
      | some t =>
        accept (u8 t.val) (openTake p title t (gateOf (paramAt params 1)) (word32At params 2) (word32At params 6)
          (word32At params 10) s)

/-- TAKE_START (R27). -/
def execTakeStart (p : Port) (params : List Byte) (s : State) : Answer :=
  request p .takeStart params (startTake p params) s

/-- The port's stream while it is CAPTURING (R26). -/
def capturingStream (s : State) (p : Port) : Option Stream := s.captures[p].filter fun st => !st.closing

/-- GATE_SET's change of a stream (R31). `write` is the gate write byte. -/
def setPunch (p : Port) (a b inc : Word32) (write : Nat) (s : State) : State :=
  let s := modStream p (fun st => { st with a := a, b := b, inc := inc }) s
  if write = 255 then s else setGate p (gateOf write) s

/-- The payload of GATE_SET: p and the gate after the write (R31). -/
def gatePayload (s : State) (p : Port) : List Byte :=
  match s.captures[p] with
  | some st => u32 st.pos.toNat ++ u8 (gateCode st.gate)
  | none => []

/-- GATE_SET at the capture unit (R31). -/
def setGateValues (p : Port) (params : List Byte) (s : State) : Reply :=
  let write := paramAt params 12
  if params.length ≠ 13 ∨ (1 < write ∧ write ≠ 255) then refuse .badParam s
  else if (capturingStream s p).isNone then refuse .notCapturing s
  else
    let t := setPunch p (word32At params 0) (word32At params 4) (word32At params 8) write s
    accept (gatePayload t p) t

/-- GATE_SET (R31). -/
def execGateSet (p : Port) (params : List Byte) (s : State) : Answer :=
  request p .gateSet params (setGateValues p params) s

/-- The payload of TAKE_STOP: the take id, its state code after the stop, and its length (R37). -/
def stopPayload (s : State) (t : TakeId) : List Byte :=
  match s.takes[t] with
  | some r => u8 t.val ++ u8 (takeCode r.state) ++ u32 r.length
  | none => u8 t.val ++ u8 0 ++ u32 0

/-- TAKE_STOP at the capture unit (R37). -/
def stopTake (p : Port) (params : List Byte) (s : State) : Reply :=
  if params ≠ [] then refuse .badParam s
  else match capturingStream s p with
    | none => refuse .notCapturing s
    | some st =>
      let t := settle (stopStream p .requested s)
      accept (stopPayload t st.take) t

/-- TAKE_STOP (R37). -/
def execTakeStop (p : Port) (params : List Byte) (s : State) : Answer :=
  request p .takeStop params (stopTake p params) s

/-- TAKE_RETIRE at the capture unit (R42). -/
def retireTake (params : List Byte) (s : State) : Reply :=
  match takeAt params 0 with
  | none => refuse .badParam s
  | some t =>
    if params.length ≠ 1 then refuse .badParam s
    else match s.takes[t] with
      | none => refuse .noRecord s
      | some r =>
        if r.state ≠ .closed then refuse .busy s
        else if 0 < r.refs then refuse .inUse s
        else accept [] (settle (freeTake t s))

/-- TAKE_RETIRE (R42). -/
def execTakeRetire (p : Port) (params : List Byte) (s : State) : Answer :=
  request p .takeRetire params (retireTake params) s

/-- A mark's 8 bytes: take index in bits 0 to 27, kind in bits 28 to 31, then the value. -/
def markBytes (m : Mark) : List Byte := u32 (m.index % 2 ^ 28 + markCode m.kind * 2 ^ 28) ++ u32 m.value

/-- The 12-byte summary of TAKE_INFO (R41). -/
def takeSummary (t : TakeId) (r : Take) (more : Bool) : List Byte :=
  u8 t.val ++ u8 r.title.val ++ u8 (takeCode r.state) ++ u8 ((r.port.map (·.val)).getD 255) ++
    u8 ((r.stopReason.map stopCode).getD 255) ++ u8 (flag r.dropout + 2 * flag r.marksLost + 4 * flag more) ++
    u8 r.marks.length ++ u8 r.refs ++ u32 r.length

/-- The measures of TAKE_INFO page 0xFF (R41). -/
def takeMeasures (r : Take) : List Byte :=
  s16 r.peak ++ u32 r.dropoutTotal ++ u16 r.chain.length ++ u16 (r.chain.head?.getD 0xFFFF) ++
    u16 (r.chain.getLast?.getD 0xFFFF)

/-- TAKE_INFO at the capture unit (R41). -/
def reportTake (params : List Byte) (s : State) : Reply :=
  match takeAt params 0 with
  | none => refuse .badParam s
  | some t =>
    let page := paramAt params 1
    if params.length ≠ 2 ∨ (10 < page ∧ page ≠ 255) then refuse .badParam s
    else match s.takes[t] with
      | none => refuse .noRecord s
      | some r =>
        if page = 255 then accept (takeSummary t r false ++ takeMeasures r) s
        else
          accept (takeSummary t r (decide (6 * (page + 1) < r.marks.length)) ++
            ((r.marks.drop (6 * page)).take 6).flatMap markBytes) s

/-- TAKE_INFO (R41). -/
def execTakeInfo (p : Port) (params : List Byte) (s : State) : Answer :=
  request p .takeInfo params (reportTake params) s

/-- A capture slot's state code (R40). -/
def slotCode (st : Option Stream) : Nat :=
  match st with
  | none => 0
  | some st => if st.closing then 2 else 1

/-- A live level entry's 11 bytes (R40). -/
def levelBytes (s : State) (p : Port) : List Byte :=
  let e := s.levels[p]
  u8 (slotCode s.captures[p]) ++ u8 ((e.take.map (·.val)).getD 255) ++ u8 (gateCode e.gate) ++ s16 e.lastBlock ++
    s16 e.peak ++ u32 e.position.toNat

/-- LEVELS at the capture unit (R40). -/
def reportLevels (params : List Byte) (s : State) : Reply :=
  if params ≠ [] then refuse .badParam s else accept (allPorts.flatMap (levelBytes s)) s

/-- LEVELS (R40). -/
def execLevels (p : Port) (params : List Byte) (s : State) : Answer :=
  request p .levels params (reportLevels params) s

/-! ### The CAPTURE transaction (R28) -/

/-- The free FIFO space a CAPTURE transaction sends: 0 when the slot is NONE or CLOSING (R28). -/
def freeSpace (s : State) (p : Port) : Nat :=
  match capturingStream s p with
  | some st => Config.fifoPlaces - st.fifo.length
  | none => 0

/-- What the count byte finds: the subject and the detail of the CAPTURE_IGNORED to come, if the slot is NONE or
CLOSING (R28). The rule has the notice posted at the rise and does not say at which moment its subject and detail are
read: the model reads them here, so a later change of the slot does not reach them (DESIGN CHOICE, unsafe, log 20). -/
def captureFinding (s : State) (p : Port) : Option (Byte × BitVec 16) :=
  match s.captures[p] with
  | none => some (0xFF, 0)
  | some st => if st.closing then some (BitVec.ofNat 8 st.take.val, 1) else none

/-- The samples a count byte announces (R28). -/
def announcedCount (count : Byte) : Nat := if count = 0 then 256 else count.toNat

/-- `n` more bytes clocked in a CAPTURE: the port sends the two bytes of free space, then 0x00 (R28). -/
def clockCapture (free n : Nat) (ps : PortState) : PortState :=
  { ps with sent := clockedOut (ps.sent.length + n) (u16 free) }

/-- The transaction byte of a CAPTURE fixes the free space (R28). -/
def openCapture (p : Port) (s : State) : State := opened p (fun t => .captureOpened (freeSpace t p)) s

/-- The free space of a CAPTURE whose count byte has not arrived. -/
def openedFree (x : Transfer) : Option Nat :=
  match x with
  | .captureOpened free => some free
  | _ => none

/-- The count byte of a CAPTURE arrives (R28). -/
def countArrives (p : Port) (count : Byte) (free : Nat) (s : State) : State :=
  setTransfer p (.capture free (announcedCount count) 0 (captureFinding s p) 0) (modPort p (clockCapture free 1) s)

/-- CAPTURE: the transaction byte, and the count byte (R28). -/
def execCapture (p : Port) (m : Moment Byte) (s : State) : Answer :=
  match m with
  | .opens => .next (openCapture p s)
  | .acts count => later p 0xA4 openedFree (openCapture p) (countArrives p count) s

/-- A complete sample counted in its CAPTURE transaction; `lost` where the stream is not CAPTURING (R28). A CAPTURE that
found no stream, in which a TAKE_START and then a stop or a purge come, is not in the rule: the model still posts
CAPTURE_IGNORED and counts the samples discarded before the take and after it (DESIGN CHOICE, unsafe, log 20). -/
def countSample (p : Port) (lost : Bool) (s : State) : State :=
  modPort p (fun ps => { ps with xfer :=
    match ps.xfer with
    | .capture free announced arrived ignored discarded =>
      .capture free announced (arrived + 1) ignored (discarded + flag lost)
    | x => x }) s

/-- A sample from its three bytes, least significant first (R28). -/
def sampleOf (x : Byte × Byte × Byte) : Sample := sampleAt [x.1, x.2.1, x.2.2] 0

/-- CAPTURE_SAMPLE: the third byte of a sample of the CAPTURE transaction in progress, within its announced count (R28 to
R36, R39). Three bytes after the announced count are ignored (R28). Without such a transaction the bytes are no sample,
and nothing changes (log 24). -/
def execCaptureSample (p : Port) (x : Byte × Byte × Byte) (s : State) : Answer :=
  match s.ports[p].xfer with
  | .capture free announced arrived _ _ =>
    let t := modPort p (clockCapture free 3) s
    if arrived < announced then
      .next (commit s (sampleArrives p (sampleOf x) (countSample p (capturingStream s p).isNone t)))
    else .next t
  | _ => .next s

/-- CAPTURE_END: the rise of chip-select of a CAPTURE transaction. The bytes after the last complete sample are dropped
without any effect, and the port has sent on during them: the second byte of the free space, if they are the first
sample's, and then 0x00 (R28). Another transaction is not ended by it. -/
def execCaptureEnd (rise : CaptureRise) (s : State) : Answer :=
  let p := rise.port
  match s.ports[p].xfer with
  | .captureOpened _ => .next (attend s (endTransaction p s))
  | .capture free _ _ _ _ => .next (attend s (endTransaction p (modPort p (clockCapture free rise.trailing) s)))
  | x => .next (if x = .abandoned 0xA4 then setTransfer p .none s else s)

/-! ### Steps that another event makes due (log 2, log 3) -/

/-- TAKE_FULL (R36). -/
def execTakeFull (p : Port) (s : State) : Answer := .next (commit s (takeFullDue p s))

/-- POSITION_LIMIT (R36). -/
def execPositionLimit (p : Port) (s : State) : Answer := .next (commit s (positionLimitDue p s))

/-- TAKE_CLOSED (R38). -/
def execTakeClosed (p : Port) (s : State) : Answer := .next (commit s (takeClosedDue p s))

/-- LIVE_BLOCK (R39). -/
def execLiveBlock (p : Port) (s : State) : Answer := .next (commit s (liveBlockDue p s))

end Sys2Proof.Machine
end

