-- ==== Sys2Proof/Machine/CatalogueCommands.lean ====
section
/-! DEFINITION. The catalogue's requests on titles and chapters (R1 to R24). -/

namespace Sys2Proof.Machine

/-! ### Titles (R3 to R5) -/

/-- TITLE_DEFINE at the catalogue (R3). -/
def defineTitle (params : List Byte) (s : State) : Reply :=
  match titleAt params 0, inTable 4 (paramAt params 1), inTable 4 (paramAt params 2), inTable 2 (paramAt params 3) with
  | some t, some rate, some profile, some auto =>
    if params.length ≠ 4 then refuse .badParam s
    else if s.titles[t].isSome then refuse .existing s
    else accept [] (setTitle t (some ⟨rate, profile, auto == 1, [], 0⟩) s)
  | _, _, _, _ => refuse .badParam s

/-- TITLE_DEFINE (R3). -/
def execTitleDefine (p : Port) (params : List Byte) (s : State) : Answer :=
  request p .titleDefine params (defineTitle params) s

/-- TITLE_DROP at the catalogue (R4). -/
def dropTitle (params : List Byte) (s : State) : Reply :=
  match titleAt params 0 with
  | none => refuse .badParam s
  | some t =>
    if params.length ≠ 1 then refuse .badParam s
    else match s.titles[t] with
      | none => refuse .noTitle s
      | some r =>
        if 0 < r.takeCount ∨ r.chapters ≠ [] then refuse .hasContent s else accept [] (setTitle t none s)

/-- TITLE_DROP (R4). -/
def execTitleDrop (p : Port) (params : List Byte) (s : State) : Answer :=
  request p .titleDrop params (dropTitle params) s

/-- TITLE_PROFILE at the catalogue (R5). -/
def setTitleProfile (params : List Byte) (s : State) : Reply :=
  match titleAt params 0, settingAt 4 params 1, settingAt 2 params 2 with
  | some t, some profile, some auto =>
    if params.length ≠ 3 then refuse .badParam s
    else match s.titles[t] with
      | none => refuse .noTitle s
      | some r =>
        accept [] (setTitle t
          (some { r with profile := profile.getD r.profile, auto := (auto.map (· == 1)).getD r.auto }) s)
  | _, _, _ => refuse .badParam s

/-- TITLE_PROFILE (R5). -/
def execTitleProfile (p : Port) (params : List Byte) (s : State) : Answer :=
  request p .titleProfile params (setTitleProfile params) s

/-! ### Offsets and durations (R22) -/

/-- A chapter's output sample count, known while it is RENDERED or PUBLISHED (R22). -/
def outputSamples (s : State) (c : ChapterId) : Option Nat :=
  match s.chapters[c] with
  | some r => if r.state = .rendered ∨ r.state = .published then r.assembled else none
  | none => none

/-- The sum of the output sample counts of a list of chapters; none where one is unknown (R22). -/
def samplesTotal (s : State) : List ChapterId → Option Nat
  | [] => some 0
  | c :: rest =>
    match outputSamples s c, samplesTotal s rest with
    | some n, some m => some (n + m)
    | _, _ => none

/-- An offset or a duration as it is reported (R22). -/
def reportedTotal (n : Option Nat) : Nat :=
  match n with
  | some v => min v 0xFFFFFFFE
  | none => 0xFFFFFFFF

/-- A title's rendered duration as reported (R22). -/
def duration (s : State) (chapters : List ChapterId) : Nat := reportedTotal (samplesTotal s chapters)

/-- A chapter's title offset as reported (R22). -/
def titleOffset (s : State) (r : Chapter) : Nat :=
  reportedTotal (samplesTotal s ((chapterList s r.title).take (r.position - 1)))

/-- TITLE_INFO at the catalogue (R23). -/
def reportTitle (params : List Byte) (s : State) : Reply :=
  match titleAt params 0 with
  | none => refuse .badParam s
  | some t =>
    if params.length ≠ 1 then refuse .badParam s
    else match s.titles[t] with
      | none => refuse .noTitle s
      | some r =>
        accept (u8 t.val ++ u8 r.rate.val ++ u8 r.profile.val ++ u8 (flag r.auto) ++ u8 r.chapters.length ++
          u8 r.takeCount ++ r.chapters.flatMap (fun c => u8 c.val) ++ u32 (duration s r.chapters)) s

/-- TITLE_INFO (R23). -/
def execTitleInfo (p : Port) (params : List Byte) (s : State) : Answer :=
  request p .titleInfo params (reportTitle params) s

/-! ### Chapters (R14 to R20) -/

/-- A list with an id put in at position `q`, counted from 1 (R6). -/
def insertAt (q : Nat) (c : ChapterId) (cs : List ChapterId) : List ChapterId := cs.take (q - 1) ++ c :: cs.drop (q - 1)

/-- A chapter record as CHAPTER_CREATE makes it (R14). -/
def freshChapter (t : TitleNo) (q : Nat) (editor : Port) : Chapter :=
  ⟨t, q, .assembling, some editor, Vector.replicate 32 Step.blank, 0, none, false, none⟩

/-- CHAPTER_CREATE at the catalogue (R14). -/
def createChapter (p : Port) (params : List Byte) (s : State) : Reply :=
  match titleAt params 0 with
  | none => refuse .badParam s
  | some t =>
    if params.length ≠ 2 then refuse .badParam s
    else match s.titles[t] with
      | none => refuse .noTitle s
      | some r =>
        if 32 ≤ r.chapters.length then refuse .titleFull s
        else match firstFree s.chapters with
          | none => refuse .noRecord s
          | some c =>
            let sent := paramAt params 1
            let q := max 1 (min (r.chapters.length + 1) sent)
            acceptOr (q != sent) (u8 c.val ++ u8 q)
              (chapterNotice c 1 .created
                (reorder t (insertAt q c r.chapters) (setChapter c (some (freshChapter t q p)) s)))

/-- CHAPTER_CREATE (R14). -/
def execChapterCreate (p : Port) (params : List Byte) (s : State) : Answer :=
  request p .chapterCreate params (createChapter p params) s

/-- A chapter taken out of the render unit, and its output let go (R16, R19): its queue entry is removed, its running
job is aborted, its output is released. -/
def letGo (c : ChapterId) (s : State) : State :=
  releaseOutput c (abortJobOf c (setQueue (s.queue.filter fun e => e.chapter != c) s))

/-- CHAPTER_OPEN on a chapter outside ASSEMBLING and PUBLISHED: it returns to ASSEMBLING (R16). -/
def reopen (p : Port) (c : ChapterId) (s : State) : State :=
  let t := modChapter c (fun r => { r with editor := some p, cursor := 0, assembled := none, result := none })
    (releaseReferences c (letGo c s))
  settle (lanesTake (enterState c .assembling .opened t))

/-- CHAPTER_OPEN at the catalogue (R15, R16). -/
def openChapter (p : Port) (params : List Byte) (s : State) : Reply :=
  match chapterAt params 0 with
  | none => refuse .badParam s
  | some c =>
    if params.length ≠ 1 then refuse .badParam s
    else match s.chapters[c] with
      | none => refuse .noRecord s
      | some r =>
        match r.state with
        | .assembling =>
          if r.editor = none ∨ r.editor = some p then accept [] (modChapter c (fun r => { r with editor := some p }) s)
          else refuse .held s
        | .published => refuse .locked s
        | _ => accept [] (reopen p c s)

/-- CHAPTER_OPEN (R15, R16). -/
def execChapterOpen (p : Port) (params : List Byte) (s : State) : Answer :=
  request p .chapterOpen params (openChapter p params) s

/-- The code of a chapter's present state, 0 for a free record (R11). -/
def stateCode (s : State) (c : ChapterId) : Nat :=
  match s.chapters[c] with
  | some r => chapterCode r.state
  | none => 0

/-- The auto-render flag of a title (R2). -/
def autoTitle (s : State) (t : TitleNo) : Bool :=
  match s.titles[t] with
  | some r => r.auto
  | none => false

/-- An entry appended at the tail of the render queue (R87). -/
def appendEntry (e : Entry) (s : State) : State := setQueue (s.queue ++ [e]) s

/-- A valid close with its assembled length (R18). -/
def closeValid (p : Port) (c : ChapterId) (r : Chapter) (total : Nat) (s : State) : State :=
  let t := takeReferences (namedTakes r.slots)
    (modChapter c (fun r => { r with assembled := some total, editor := none }) s)
  if autoTitle s r.title then
    if s.queue.length < Config.queuePlaces then
      settle (lanesTake (enterState c .queued .autoQueued (appendEntry ⟨c, p, .auto⟩ t)))
    else settle (enterState c .ready .autoSkipped t)
  else settle (enterState c .ready .closed t)

/-- CHAPTER_CLOSE at the catalogue (R17, R18, R53). No rule gives the width of the assembled length in the payload of an
accepted close: four bytes, as in CHAPTER_INFO (DESIGN CHOICE, unsafe, log 28). -/
def closeChapter (p : Port) (params : List Byte) (s : State) : Reply :=
  match chapterAt params 0 with
  | none => refuse .badParam s
  | some c =>
    if params.length ≠ 1 then refuse .badParam s
    else match s.chapters[c] with
      | none => refuse .noRecord s
      | some r =>
        if r.state ≠ .assembling then refuse .wrongState s
        else if r.editor ≠ some p then refuse .notEditor s
        else match validate s r.title r.slots with
          | .error e => ⟨s, .scriptBad, u8 e.step ++ u8 e.reason ++ u32 e.value⟩
          | .ok total =>
            let t := closeValid p c r total s
            accept (u8 (stateCode t c) ++ u32 total) t

/-- CHAPTER_CLOSE (R17, R18). -/
def execChapterClose (p : Port) (params : List Byte) (s : State) : Answer :=
  request p .chapterClose params (closeChapter p params) s

/-- A chapter record freed by a discard (R19). -/
def discardRecord (c : ChapterId) (s : State) : State :=
  settle (lanesTake (chapterNotice c 0 .discarded (freeChapter c (releaseReferences c (letGo c s)))))

/-- CHAPTER_DISCARD at the catalogue (R19). -/
def discardChapter (p : Port) (params : List Byte) (s : State) : Reply :=
  match chapterAt params 0 with
  | none => refuse .badParam s
  | some c =>
    if params.length ≠ 1 then refuse .badParam s
    else match s.chapters[c] with
      | none => refuse .noRecord s
      | some r =>
        if r.state = .published then refuse .locked s
        else if r.state = .assembling ∧ r.editor ≠ none ∧ r.editor ≠ some p then refuse .notEditor s
        else accept [] (discardRecord c s)

/-- CHAPTER_DISCARD (R19). -/
def execChapterDiscard (p : Port) (params : List Byte) (s : State) : Answer :=
  request p .chapterDiscard params (discardChapter p params) s

/-- CHAPTER_MOVE at the catalogue (R20). -/
def moveChapter (params : List Byte) (s : State) : Reply :=
  match chapterAt params 0 with
  | none => refuse .badParam s
  | some c =>
    if params.length ≠ 2 then refuse .badParam s
    else match s.chapters[c] with
      | none => refuse .noRecord s
      | some r =>
        let cs := chapterList s r.title
        let sent := paramAt params 1
        let q := max 1 (min cs.length sent)
        acceptOr (q != sent) (u8 q) (reorder r.title (insertAt q c (cs.erase c)) s)

/-- CHAPTER_MOVE (R20). -/
def execChapterMove (p : Port) (params : List Byte) (s : State) : Answer :=
  request p .chapterMove params (moveChapter params) s

/-! ### CHAPTER_INFO (R24) -/

/-- The result group's 36 bytes; a member that is absent is reported as 0 (R24). -/
def resultBytes (g : ResultGroup) : List Byte :=
  u8 g.profileNo.val ++ u8 g.origin.val ++ s16 (g.li.getD 0) ++ s16 (g.inPeak.getD 0) ++ s16 (g.gain.getD 0) ++
    s16 (g.lo.getD 0) ++ s16 (g.outPeak.getD 0) ++ u16 (g.clips.getD 0) ++ u16 (g.largest.getD 0) ++
    s16 (g.floor.getD 0) ++ u16 (g.head.getD 0) ++ u16 (g.tail.getD 0) ++ u16 (reasonMask g.reasons) ++
    match g.output with
    | some o => u32 o.bytes ++ u32 o.frames ++ u32 o.digest.toNat
    | none => u32 0 ++ u32 0 ++ u32 0

/-- The flags byte of CHAPTER_INFO. -/
def chapterFlags (r : Chapter) : Nat :=
  flag r.scriptCleared + 2 * flag r.assembled.isSome + 4 * flag r.result.isSome + 8 * flag (ownedOutput r).isSome

/-- A port number, or 0xFF when absent. -/
def portByte (p : Option Port) : List Byte := u8 ((p.map (·.val)).getD 255)

/-- CHAPTER_INFO at the catalogue (R24). -/
def reportChapter (params : List Byte) (s : State) : Reply :=
  match chapterAt params 0 with
  | none => refuse .badParam s
  | some c =>
    if params.length ≠ 1 then refuse .badParam s
    else match s.chapters[c] with
      | none => refuse .noRecord s
      | some r =>
        accept (u8 c.val ++ u8 r.title.val ++ u8 r.position ++ u8 (chapterCode r.state) ++ portByte r.editor ++
          u8 r.cursor ++ u8 (chapterFlags r) ++ u32 (r.assembled.getD 0) ++ u32 (titleOffset s r) ++
          match r.result with
          | some g => resultBytes g
          | none => []) s

/-- CHAPTER_INFO (R24). -/
def execChapterInfo (p : Port) (params : List Byte) (s : State) : Answer :=
  request p .chapterInfo params (reportChapter params) s

end Sys2Proof.Machine
end

