-- ==== Sys2Proof/Machine/LaneCommands.lean ====
section
/-! DEFINITION. The steps of the render lanes: the two passes (R98 to R103), and the steps another step makes due (log 2).
A step that is not due changes nothing (log 3). -/

namespace Sys2Proof.Machine

/-- A sample of x measured: it feeds the input meter, the lane lets go of pages that are used up, and samples done
advances (R98, R99). -/
def measured (s : State) (x : Sample) (j : Job) : Job :=
  { j with input := meterStep (blockLength j.rate) none j.input x,
           pages := pagesAfter (jobSteps s j) j.done j.pages, done := j.done + 1 }

/-- MEASURE_SAMPLE (R99): the next sample of x, its pages held, is fed to the input meter; the last one ends the pass. -/
def execMeasureSample (l : Lane) (s : State) : Answer :=
  match s.lanes[l] with
  | none => .next s
  | some j =>
    if j.phase = .measure ∧ j.done < j.total then
      match nextSample s j with
      | none => .next s
      | some x => .next (commit s (measureEndDue l (modJob l (measured s x) s)))
    else .next s

/-- METER_BLOCK (R114): the meter of the lane's pass whose block count has reached N measures the block (log 25). -/
def blockMeasured (j : Job) : Job :=
  match j.phase with
  | .measure => { j with input := meterBlockDue (blockLength j.rate) none j.input }
  | .encode => { j with output := meterBlockDue (blockLength j.rate) (some j.profile.qs) j.output }

/-- METER_BLOCK (R114). -/
def execMeterBlock (l : Lane) (s : State) : Answer := .next (commit s (modJob l blockMeasured s))

/-- MEASURE_END (R99). -/
def execMeasureEnd (l : Lane) (s : State) : Answer := .next (commit s (measureEndDue l s))

/-- A frame's samples of x are in hand, and its bytes have room to go on (R100, R146). -/
def frameReady (j : Job) : Bool :=
  j.phase == .encode && j.finishing.isNone && j.waiting.isEmpty && decide (j.assembly.length < Config.pageBytes) &&
    decide (j.chain.framesDone < jobFrames j) &&
    decide (j.inHand.length = frameSize j.total (frameLength j.rate) j.chain.framesDone)

/-- The frame in hand coded: the chain's state, the output meter, samples done, and the frame's bytes placed (R100,
R146). -/
def frameCoded (j : Job) : Job :=
  let out := codeFrame j.profile j.gain j.total (frameLength j.rate) j.chain j.inHand
  placeBytes out.2.2
    { j with chain := out.1, done := j.done + j.inHand.length, inHand := [],
             output := out.2.1.foldl (meterStep (blockLength j.rate) (some j.profile.qs)) j.output }

/-- ENCODE_FRAME (R146): the frame is coded; the last one ends the pass. -/
def execEncodeFrame (l : Lane) (s : State) : Answer :=
  match s.lanes[l] with
  | none => .next s
  | some j => if frameReady j then .next (commit s (encodeEndDue l (modJob l frameCoded s))) else .next s

/-- ENCODE_END (R101). -/
def execEncodeEnd (l : Lane) (s : State) : Answer := .next (commit s (encodeEndDue l s))

end Sys2Proof.Machine
end

