-- ==== Sys2Proof/Machine/StreamCommands.lean ====
section
/-! DEFINITION. A port's stream: STREAM_OPEN and STREAM_CLOSE (R173 to R175), and the STREAM_DATA transaction (R178, R179,
R181). -/

namespace Sys2Proof.Machine

/-- An accepted STREAM_OPEN: the old stream is dropped, the new one is ACTIVE at the offset modulo its length, and its
first fetch is posted (R173, R174, R177). -/
def openStream (p : Port) (src : StreamSource) (length offset : Nat) (s : State) : State :=
  settle (dropStream p (.active ⟨src, length, offset % length, [], none⟩) s)

/-- The response of an accepted STREAM_OPEN: CLAMPED where the offset was reduced (R173). -/
def openReply (p : Port) (src : StreamSource) (length offset : Nat) (title : TitleNo) (s : State) : Reply :=
  acceptOr (decide (length ≤ offset)) (u32 length ++ u32 (offset % length) ++ u8 (titleRate s title).val)
    (openStream p src length offset s)

/-- A chapter record's output while it is a source: RENDERED, PUBLISHED, or REJECTED with its output kept (R173). -/
def sourceOutput (r : Chapter) : Option Output :=
  match r.state with
  | .rendered => ownedOutput r
  | .published => ownedOutput r
  | .rejected => ownedOutput r
  | _ => none

/-- STREAM_OPEN on a chapter output (R173). -/
def openOutput (p : Port) (c : ChapterId) (offset : Nat) (s : State) : Reply :=
  match s.chapters[c] with
  | none => refuse .noRecord s
  | some r =>
    match sourceOutput r with
    | none => refuse .wrongState s
    | some o => openReply p (.output c) o.bytes offset r.title s

/-- STREAM_OPEN on a take (R171, R173). -/
def openTakeStream (p : Port) (t : TakeId) (offset : Nat) (s : State) : Reply :=
  match s.takes[t] with
  | none => refuse .noRecord s
  | some r =>
    if r.state = .closed ∧ 0 < r.length then openReply p (.take t) (3 * r.length) offset r.title s
    else refuse .wrongState s

/-- STREAM_OPEN at the port (R173). -/
def streamOpen (p : Port) (params : List Byte) (s : State) : Reply :=
  if params.length ≠ 6 then refuse .badParam s
  else match paramAt params 0 with
    | 0 =>
      match chapterAt params 1 with
      | none => refuse .badParam s
      | some c => openOutput p c (fieldAt params 2 4) s
    | 1 =>
      match takeAt params 1 with
      | none => refuse .badParam s
      | some t => openTakeStream p t (fieldAt params 2 4) s
    | _ => refuse .badParam s

/-- STREAM_OPEN (R173). -/
def execStreamOpen (p : Port) (params : List Byte) (s : State) : Answer :=
  request p .streamOpen params (streamOpen p params) s

/-- STREAM_CLOSE at the port (R175). -/
def streamClose (p : Port) (params : List Byte) (s : State) : Reply :=
  if params ≠ [] then refuse .badParam s else accept (u8 (statusCode s.ports[p].stream)) (dropStream p .idle s)

/-- STREAM_CLOSE (R175). -/
def execStreamClose (p : Port) (params : List Byte) (s : State) : Answer :=
  request p .streamClose params (streamClose p params) s

/-! ### The STREAM_DATA transaction -/

/-- The undelivered bytes a port holds for its stream, in stream order (R176). -/
def readyBytes (st : PortStream) : List Byte :=
  match st with
  | .active a => a.segments.flatMap (·.bytes)
  | _ => []

/-- STREAM_DATA: the status and the ready count are fixed and sent (R178). -/
def execStreamData (p : Port) (s : State) : Answer :=
  transact p (fun t => u8 (statusCode t.ports[p].stream) ++ u16 (readyBytes t.ports[p].stream).length)
    (fun t => setTransfer p (.streamData (readyBytes t.ports[p].stream) true) t) s

/-- The segments after the first undelivered byte has left: a segment with none left leaves the read-ahead (R176,
R179). -/
def withoutHead (segments : List Segment) : List Segment :=
  match segments with
  | [] => []
  | g :: rest =>
    match g.bytes with
    | _ :: b :: bytes => { g with first := g.first + 1, bytes := b :: bytes } :: rest
    | _ => rest

/-- The cursor after a delivered byte, 0 after the source's last byte (R179). -/
def cursorAfter (a : Active) : Nat := if a.cursor + 1 = a.length then 0 else a.cursor + 1

/-- A byte of the port's own stream delivered (R179). -/
def deliverHead (st : PortStream) : PortStream :=
  match st with
  | .active a => .active { a with cursor := cursorAfter a, segments := withoutHead a.segments }
  | st => st

/-- A data byte clocked out on a port: the next counted byte, which moves the stream only while it is the stream's own
(R179, R181), or 0x00 fill (R178). -/
def deliverByte (ps : PortState) : PortState :=
  match ps.xfer with
  | .streamData [] _ => { ps with sent := ps.sent ++ [0] }
  | .streamData (b :: held) linked =>
    { ps with xfer := .streamData held linked, sent := ps.sent ++ [b],
              stream := if linked then deliverHead ps.stream else ps.stream }
  | _ => ps

/-- DATA_BYTE_DELIVERED (R179). Without a STREAM_DATA transaction in progress no data byte is sent, and nothing changes
(log 24). -/
def execDataByteDelivered (p : Port) (s : State) : Answer :=
  match s.ports[p].xfer with
  | .streamData _ _ => .next (commit s (modPort p deliverByte s))
  | _ => .next s

/-- STREAM_DATA_END: the rise of chip-select (R179, R181). The bytes not delivered stay in the stream's segments, or are
discarded with the transaction when the stream has changed. -/
def execStreamDataEnd (p : Port) (s : State) : Answer :=
  match s.ports[p].xfer with
  | .streamData _ _ => .next (attend s (setTransfer p .none s))
  | x => .next (if x = .abandoned 0xA5 then setTransfer p .none s else s)

end Sys2Proof.Machine
end

