-- ==== Sys2Proof/Machine/PortCommands.lean ====
section
/-! DEFINITION. What the port itself does: SUBSCRIBE and DEVICE_INFO (R193, R198), the transactions REQUEST, FETCH, NOTICES
and ATTENTION (R185, R187, R191, R196), an unknown transaction byte (R184), and the two resets (R199, R200). -/

namespace Sys2Proof.Machine

/-! ### Requests the port owns -/

/-- SUBSCRIBE at the port (R193). -/
def subscribe (p : Port) (params : List Byte) (s : State) : Reply :=
  let v := paramAt params 0
  if params.length ≠ 1 ∨ 7 < v then refuse .badParam s
  else accept (u8 v) (modPort p (fun ps => { ps with subs := BitVec.ofNat 3 v }) s)

/-- SUBSCRIBE (R193). -/
def execSubscribe (p : Port) (params : List Byte) (s : State) : Answer :=
  request p .subscribe params (subscribe p params) s

/-- The family code of the part (R198). -/
def familyCode : Nat := 0x74

/-- The revision of the part (R198). -/
def revision : Nat := 2

/-- DEVICE_INFO at the port (R198). -/
def deviceInfo (p : Port) (params : List Byte) (s : State) : Reply :=
  if params ≠ [] then refuse .badParam s else accept (u8 familyCode ++ u8 revision ++ u8 p.val) s

/-- DEVICE_INFO (R198). -/
def execDeviceInfo (p : Port) (params : List Byte) (s : State) : Answer :=
  request p .deviceInfo params (deviceInfo p params) s

/-! ### REQUEST and FETCH -/

/-- A REQUEST is in progress. -/
def keptRequest (x : Transfer) : Option Unit :=
  match x with
  | .request => some ()
  | _ => none

/-- REQUEST (R185): the transaction byte, and the rise of chip-select, at which the port judges the request. -/
def execRequest (p : Port) (m : Moment (List Byte)) (s : State) : Answer :=
  match m with
  | .opens => .next (openRequest p s)
  | .acts bytes => later p 0xA1 keptRequest (openRequest p) (fun _ => endRequest p bytes) s

/-- The response in the slot (R186). -/
def slotResponse (e : Exec) : Option Response :=
  match e with
  | .answered r => some r
  | _ => none

/-- The bytes a FETCH sends for what it found in the slot (R187). -/
def fetchBytes (copy : Option Response) : List Byte :=
  match copy with
  | some r => [r.echo, resultCode r.result] ++ u8 r.payload.length ++ r.payload
  | none => [0, 0, 0]

/-- The slot after a FETCH that clocked out `n` bytes: emptied when the whole of the response it found went out. A
response formed meanwhile stays (R187). -/
def fetched (n : Nat) (copy : Option Response) (e : Exec) : Exec :=
  match copy, e with
  | some r, .answered r' => if 3 + r.payload.length ≤ n then .idle else .answered r'
  | _, e => e

/-- The transaction byte of a FETCH: the slot as it stands is what will be sent (R187). -/
def openFetch (p : Port) (s : State) : State := opened p (fun t => .fetch (slotResponse t.ports[p].exec)) s

/-- What a FETCH in progress found in the slot. -/
def keptFetch (x : Transfer) : Option (Option Response) :=
  match x with
  | .fetch copy => some copy
  | _ => none

/-- The rise of chip-select of a FETCH after `n` bytes (R187). -/
def endFetch (p : Port) (n : Nat) (copy : Option Response) (s : State) : State :=
  modPort p (fun ps => { ps with exec := fetched n copy ps.exec, sent := clockedOut n (fetchBytes copy), xfer := .none }) s

/-- FETCH (R187): the transaction byte, and the rise of chip-select. -/
def execFetch (p : Port) (m : Moment Nat) (s : State) : Answer :=
  match m with
  | .opens => .next (openFetch p s)
  | .acts n => later p 0xA2 keptFetch (openFetch p) (endFetch p n) s

/-! ### NOTICES -/

/-- NOTICES: the transaction begins with a copy of the head record, or an EMPTY record (R191). -/
def execNotices (p : Port) (s : State) : Answer :=
  transact p (fun _ => []) (fun t => setTransfer p (.notices t.ports[p].notices.head?) t) s

/-- A record's end: a notice whose copy has gone out leaves the queue, and the next record begins (R191). -/
def recordSent (ps : PortState) : PortState :=
  match ps.xfer with
  | .notices copy =>
    let rest := if copy.isSome then ps.notices.tail else ps.notices
    { ps with notices := rest, xfer := .notices rest.head?, sent := ps.sent ++ noticeBytes copy }
  | _ => ps

/-- NOTICE_RECORD_SENT (R191). Without a NOTICES transaction in progress no record is sent, and nothing changes (log
24). -/
def execNoticeRecordSent (p : Port) (s : State) : Answer :=
  match s.ports[p].xfer with
  | .notices _ => .next (attend s (modPort p recordSent s))
  | _ => .next s

/-! ### ATTENTION (R196) -/

/-- The four bytes an ATTENTION sends: pending, raw, mask, mode (R196). -/
def attentionBytes (ps : PortState) : List Byte :=
  [ps.latched.setWidth 8, (conditions ps).setWidth 8, ps.mask.setWidth 8, ps.mode.setWidth 8]

/-- The transaction byte of an ATTENTION fixes the values it sends (R196). -/
def openAttention (p : Port) (s : State) : State := opened p (fun t => .attention (attentionBytes t.ports[p])) s

/-- The values an ATTENTION in progress sends. -/
def keptAttention (x : Transfer) : Option (List Byte) :=
  match x with
  | .attention values => some values
  | _ => none

/-- The rise of chip-select of an ATTENTION after `n` bytes: the values that stood at its start went out, and the effect
takes place when the operation and the value byte were received in full (R196). -/
def endAttention (p : Port) (n : Nat) (effect : PortState → PortState) (values : List Byte) (s : State) : State :=
  modPort p (fun ps =>
    { (if 2 ≤ n then effect ps else ps) with sent := clockedOut n values, xfer := .none }) s

/-- The rise of chip-select of an ATTENTION that names an operation, on the transaction in progress or a whole one. -/
def attention (p : Port) (n : Nat) (effect : PortState → PortState) (s : State) : Answer :=
  later p 0xA6 keptAttention (openAttention p) (endAttention p n effect) s

/-- ATTENTION_READ (R196): the transaction byte of an ATTENTION of any operation, and the rise of chip-select of one whose
operation has no effect (0, 4 to 255) or did not arrive. -/
def execAttentionRead (p : Port) (m : Moment Nat) (s : State) : Answer :=
  match m with
  | .opens => .next (openAttention p s)
  | .acts n => attention p n (fun ps => ps) s

/-- A clear's effect: the pending bits of the edge-mode sources named, and for bit 2 the LOST flag in either mode
(R196). -/
def clearPending (value : Byte) (ps : PortState) : PortState :=
  { ps with latched := ps.latched &&& ~~~(value.setWidth 4 &&& ~~~ps.mode), lost := ps.lost && !value.getLsbD 2 }

/-- ATTENTION_CLEAR (R196), at the rise of chip-select. -/
def execAttentionClear (p : Port) (value : Byte) (n : Nat) (s : State) : Answer := attention p n (clearPending value) s

/-- ATTENTION_MASK (R196), at the rise of chip-select. -/
def execAttentionMask (p : Port) (value : Byte) (n : Nat) (s : State) : Answer :=
  attention p n (fun ps => { ps with mask := value.setWidth 4 }) s

/-- ATTENTION_MODE (R196), at the rise of chip-select. -/
def execAttentionMode (p : Port) (value : Byte) (n : Nat) (s : State) : Answer :=
  attention p n (fun ps => { ps with mode := value.setWidth 4 }) s

/-- IGNORED_TRANSACTION (R184): the port sends 0x00, and nothing else changes but that an earlier transaction has
ended. -/
def execIgnoredTransaction (p : Port) (_tb : Byte) (n : Nat) (s : State) : Answer :=
  transact p (fun _ => List.replicate n 0) (fun t => t) s

/-! ### PORT_RESET (R199, R43, R183, R13) -/

/-- The four requests a port owns, as the port takes them (R185). -/
def portServes (p : Port) (k : ReqKind) (params : List Byte) (s : State) : State :=
  match k with
  | .subscribe => (subscribe p params s).state
  | .deviceInfo => (deviceInfo p params s).state
  | .streamOpen => (streamOpen p params s).state
  | .streamClose => (streamClose p params s).state
  | _ => s

/-- Before step 1: a request that the port owns and has not taken yet is taken, its response discarded (R199). -/
def takeOwnRequest (p : Port) (s : State) : State :=
  match s.ports[p].exec with
  | .executing k params false =>
    if portOwned k then modPort p (fun ps => { ps with exec := .idle }) (portServes p k params s) else s
  | _ => s

/-- Step 1: an IDLE or ANSWERED port becomes IDLE; an EXECUTING one will discard its response (R199). -/
def resetExec (e : Exec) : Exec :=
  match e with
  | .executing k params _ => .executing k params true
  | _ => .idle

/-- Steps 1 to 3: slot, notices, LOST, subscription set, mask, mode and pending bits (R199). The port has sent 0x00 with
the transaction byte and nothing after it. -/
def resetPort (ps : PortState) : PortState :=
  { ps with exec := resetExec ps.exec, notices := [], lost := false, subs := 7, mask := 7, mode := 0, latched := 0,
            sent := [] }

/-- Step 5: the port's capture stops with reason PORT_RESET, or drains on (R43). -/
def resetCapture (p : Port) (s : State) : State :=
  match s.captures[p] with
  | some st => if st.closing then s else stopStream p .portReset s
  | none => s

/-- Step 6: the editor claims a port holds are released (R13). -/
def releaseClaims (p : Port) (s : State) : State :=
  (List.finRange 64).foldl
    (fun s c => modChapter c (fun r => if r.editor = some p then { r with editor := none } else r) s) s

/-- A port reset's work, in the order of R199. -/
def resetWork (p : Port) (s : State) : State :=
  releaseClaims p (resetCapture p (dropStream p .idle (modPort p resetPort (takeOwnRequest p s))))

/-- PORT_RESET (R199): in effect only when no clock edge came beyond the first eight. Every condition of the port counts
as false before the reset's own work (R195). Otherwise the period is ignored, and only an earlier transaction has
ended. -/
def execPortReset (p : Port) (extra : Nat) (s : State) : Answer :=
  if extra = 0 then
    let t := ended p s
    .next (commit (modPort p (fun _ => PortState.reset) t) (resetWork p t))
  else transact p (fun _ => List.replicate (extra / 8) 0) (fun t => t) s

/-- A transaction that a device reset abandons: the rest of its period is ignored (R184, R200). -/
def abandoned (x : Transfer) : Transfer :=
  match x with
  | .none => .none
  | .request => .abandoned 0xA1
  | .fetch _ => .abandoned 0xA2
  | .notices _ => .abandoned 0xA3
  | .captureOpened _ => .abandoned 0xA4
  | .capture _ _ _ _ _ => .abandoned 0xA4
  | .streamData _ _ => .abandoned 0xA5
  | .attention _ => .abandoned 0xA6
  | .abandoned kind => .abandoned kind

/-- A port after device reset (R200). -/
def freshPort (ps : PortState) : PortState := { PortState.reset with xfer := abandoned ps.xfer }

/-- DEVICE_RESET (R200, R64, R81): every block holds its initial state, and the sweep's first erase starts. The queue of
commands that wait is outside the part and stays. -/
def execDeviceReset (s : State) : Answer :=
  .next (settle { State.reset with ports := s.ports.map freshPort, pending := s.pending })

end Sys2Proof.Machine
end

