-- ==== Sys2Proof/Machine/ProfileCommands.lean ====
section
/-! DEFINITION. The profile table's requests (R150 to R154). -/

namespace Sys2Proof.Machine

/-- A count clamped into its range. -/
def clampNat (lo hi v : Nat) : Nat := max lo (min hi v)

/-- A profile record with every field clamped into its range (R149, R151). -/
def clampedProfile (pr : Profile) : Profile :=
  { target := clampInt (-240) (-120) pr.target, tolerance := clampNat 5 50 pr.tolerance,
    ceiling := clampInt (-120) (-10) pr.ceiling, lb := clampNat 0 120 pr.lb, rel := clampNat 1 60 pr.rel,
    clips := clampNat 0 65535 pr.clips, floorMax := clampInt (-900) (-400) pr.floorMax,
    qs := clampInt (-900) (-300) pr.qs, hmin := clampNat 0 100 pr.hmin, hmax := clampNat 0 100 pr.hmax,
    tmin := clampNat 0 100 pr.tmin, tmax := clampNat 0 100 pr.tmax, ga := clampInt (-900) (-400) pr.ga,
    roff := clampNat 50 200 pr.roff, m := clampNat 3 8 pr.m, keep := pr.keep, maxLen := clampNat 600 65535 pr.maxLen }

/-- The two pairs of limits made consistent (R152). -/
def orderedProfile (pr : Profile) : Profile := { pr with hmax := max pr.hmin pr.hmax, tmax := max pr.tmin pr.tmax }

/-- The record that a PROFILE_SET stores (R151, R152). -/
def storedProfile (params : List Byte) : Profile := orderedProfile (clampedProfile (profileSent params))

/-- Some field was changed on the way into the record (R151, R152). -/
def profileClamped (params : List Byte) : Bool :=
  storedProfile params != profileSent params || decide (1 < keepSent params)

/-- PROFILE_SET at the profile table (R150). -/
def writeProfile (params : List Byte) (s : State) : Reply :=
  match inTable 4 (paramAt params 0) with
  | none => refuse .badParam s
  | some n =>
    if params.length ≠ 25 then refuse .badParam s
    else acceptOr (profileClamped params) (profileBytes n (storedProfile params)) (setProfile n (storedProfile params) s)

/-- PROFILE_SET (R150). -/
def execProfileSet (p : Port) (params : List Byte) (s : State) : Answer :=
  request p .profileSet params (writeProfile params) s

/-- PROFILE_GET at the profile table (R154). -/
def readProfile (params : List Byte) (s : State) : Reply :=
  match inTable 4 (paramAt params 0) with
  | none => refuse .badParam s
  | some n => if params.length ≠ 1 then refuse .badParam s else accept (profileBytes n s.profiles[n]) s

/-- PROFILE_GET (R154). -/
def execProfileGet (p : Port) (params : List Byte) (s : State) : Answer :=
  request p .profileGet params (readProfile params) s

end Sys2Proof.Machine
end

