-- ==== Sys2Proof/Machine/RenderCommands.lean ====
section
/-! DEFINITION. The render unit's requests (R89 to R95). -/

namespace Sys2Proof.Machine

/-- A chapter put on the render path: any output it owns is released, its result group becomes absent, its entry is
appended, and it becomes QUEUED (R90, R91). -/
def queueChapter (c : ChapterId) (p : Port) (kind : OriginKind) (s : State) : State :=
  enterState c .queued .queued
    (appendEntry ⟨c, p, kind⟩ (modChapter c (fun r => { r with result := none }) (releaseOutput c s)))

/-- RENDER on a chapter that may be queued (R90). -/
def renderQueued (p : Port) (c : ChapterId) (s : State) : State := settle (lanesTake (queueChapter c p .render s))

/-- RENDER on the chapter of a running job: the job restarts in its lane (R107). -/
def renderRestarted (p : Port) (c : ChapterId) (l : Lane) (s : State) : State :=
  settle (lanesTake (beginJob l c p (clearLane l s)))

/-- The place of a QUEUED chapter: the entries ahead of it; 0xFF for a chapter that is not QUEUED (R90). -/
def queuePlace (s : State) (c : ChapterId) : Nat :=
  if stateCode s c = 3 then (s.queue.takeWhile fun e => e.chapter != c).length else 255

/-- RENDER at the render unit (R90). A RENDERING chapter that no lane holds is not met on a run (log 22). -/
def renderChapter (p : Port) (params : List Byte) (s : State) : Reply :=
  match chapterAt params 0 with
  | none => refuse .badParam s
  | some c =>
    if params.length ≠ 1 then refuse .badParam s
    else match s.chapters[c] with
      | none => refuse .noRecord s
      | some r =>
        match r.state with
        | .published => refuse .locked s
        | .assembling => refuse .wrongState s
        | .queued => refuse .alreadyQueued s
        | .rendering =>
          match laneOf s c with
          | none => refuse .wrongState s
          | some l =>
            let t := renderRestarted p c l s
            ⟨t, .restarted, u8 (stateCode t c) ++ u8 l.val⟩
        | _ =>
          if Config.queuePlaces ≤ s.queue.length then refuse .queueFull s
          else
            let t := renderQueued p c s
            accept (u8 (stateCode t c) ++ u8 (queuePlace t c)) t

/-- RENDER (R90). -/
def execRender (p : Port) (params : List Byte) (s : State) : Answer :=
  request p .render params (renderChapter p params) s

/-- A render set's ids; the index of the first id above 63 where there is one (R89). -/
def setIds : Nat → List Byte → Except Nat (List ChapterId)
  | _, [] => .ok []
  | i, b :: rest =>
    match inTable 64 b.toNat with
    | none => .error i
    | some c =>
      match setIds (i + 1) rest with
      | .error e => .error e
      | .ok cs => .ok (c :: cs)

/-- The check of one chapter of a render set, `before` the ids at lower indices (R91). -/
def setCheck (s : State) (before : List ChapterId) (c : ChapterId) : Option Result :=
  if before.contains c then some .badParam
  else match s.chapters[c] with
    | none => some .noRecord
    | some r =>
      match r.state with
      | .queued => some .alreadyQueued
      | .rendering => some .busy
      | .published => some .locked
      | .assembling => some .wrongState
      | _ => none

/-- The first index of a render set that fails, with its result (R91). -/
def setFault (s : State) : List ChapterId → List ChapterId → Option (Nat × Result)
  | _, [] => none
  | before, c :: rest =>
    match setCheck s before c with
    | some e => some (before.length, e)
    | none => setFault s (before ++ [c]) rest

/-- The chapters of a set handled in list order, each entry taken at once by an idle lane (R91). -/
def queueSet (p : Port) (s : State) (cs : List ChapterId) : State :=
  cs.foldl (fun s c => lanesTake (queueChapter c p .set s)) s

/-- RENDER_SET at the render unit (R91). The payload of a set with an id above 63, and the empty one of a set of a
wrong length, are the model's reading of R89 and R91 (DEDUCED, log 14). -/
def renderSet (p : Port) (params : List Byte) (s : State) : Reply :=
  if params.length < 1 ∨ 4 < params.length then refuse .badParam s
  else match setIds 0 params with
    | .error i => ⟨s, .badParam, u8 i⟩
    | .ok cs =>
      match setFault s [] cs with
      | some (i, e) => ⟨s, e, u8 i⟩
      | none =>
        if Config.queuePlaces < s.queue.length + cs.length then
          ⟨s, .queueFull, u8 (Config.queuePlaces - s.queue.length)⟩
        else accept (u8 cs.length) (settle (queueSet p s cs))

/-- RENDER_SET (R91). -/
def execRenderSet (p : Port) (params : List Byte) (s : State) : Answer :=
  request p .renderSet params (renderSet p params) s

/-- A QUEUED or RENDERING chapter taken off the render path and left READY (R92). -/
def cancelled (c : ChapterId) (s : State) : State :=
  settle (lanesTake (enterState c .ready .cancelled
    (abortJobOf c (setQueue (s.queue.filter fun e => e.chapter != c) s))))

/-- RENDER_CANCEL at the render unit (R92). -/
def cancelRender (params : List Byte) (s : State) : Reply :=
  match chapterAt params 0 with
  | none => refuse .badParam s
  | some c =>
    if params.length ≠ 1 then refuse .badParam s
    else match s.chapters[c] with
      | none => refuse .noRecord s
      | some r =>
        if r.state = .queued ∨ r.state = .rendering then accept [] (cancelled c s) else refuse .wrongState s

/-- RENDER_CANCEL (R92). -/
def execRenderCancel (p : Port) (params : List Byte) (s : State) : Answer :=
  request p .renderCancel params (cancelRender params) s

/-- A phase code of QUEUE_INFO (R93). -/
def phaseCode (ph : Phase) : Nat :=
  match ph with
  | .measure => 1
  | .encode => 2

/-- A lane's 6 bytes in QUEUE_INFO (R93). -/
def laneBytes (j : Option Job) : List Byte :=
  match j with
  | none => u8 255 ++ u8 0 ++ u32 0
  | some j => u8 j.chapter.val ++ u8 (phaseCode j.phase) ++ u32 j.done

/-- An entry's 2 bytes in QUEUE_INFO (R93). -/
def entryBytes (e : Entry) : List Byte := u8 e.chapter.val ++ u8 (e.origin.val + 4 * originCode e.kind)

/-- QUEUE_INFO at the render unit (R93). -/
def reportQueue (params : List Byte) (s : State) : Reply :=
  if params ≠ [] then refuse .badParam s
  else
    accept (u8 s.queue.length ++ s.queue.flatMap entryBytes ++ allLanes.flatMap fun l => laneBytes s.lanes[l]) s

/-- QUEUE_INFO (R93). -/
def execQueueInfo (p : Port) (params : List Byte) (s : State) : Answer :=
  request p .queueInfo params (reportQueue params) s

/-- PUBLISH at the render unit (R94). -/
def publish (params : List Byte) (s : State) : Reply :=
  match chapterAt params 0 with
  | none => refuse .badParam s
  | some c =>
    if params.length ≠ 1 then refuse .badParam s
    else match s.chapters[c] with
      | none => refuse .noRecord s
      | some r =>
        if r.state = .rendered then accept [] (enterState c .published .published s) else refuse .wrongState s

/-- PUBLISH (R94). -/
def execPublish (p : Port) (params : List Byte) (s : State) : Answer :=
  request p .publish params (publish params) s

/-- A PUBLISHED chapter collected: its output is released, and it becomes READY, or is freed when its script is
cleared (R95, R21). -/
def collected (c : ChapterId) (r : Chapter) (s : State) : State :=
  let t := releaseOutput c s
  settle (if r.scriptCleared then chapterNotice c 0 .collected (freeChapter c t)
    else enterState c .ready .collected (modChapter c (fun r => { r with result := none }) t))

/-- COLLECT at the render unit (R95). -/
def collect (params : List Byte) (s : State) : Reply :=
  match chapterAt params 0 with
  | none => refuse .badParam s
  | some c =>
    if params.length ≠ 1 then refuse .badParam s
    else match s.chapters[c] with
      | none => refuse .noRecord s
      | some r =>
        if r.state = .published then
          let t := collected c r s
          accept (u8 (stateCode t c)) t
        else refuse .wrongState s

/-- COLLECT (R95). -/
def execCollect (p : Port) (params : List Byte) (s : State) : Answer :=
  request p .collect params (collect params) s

end Sys2Proof.Machine
end

