-- ==== Sys2Proof/Machine/ScriptCommands.lean ====
section
/-! DEFINITION. The three script requests (R47 to R51). -/

namespace Sys2Proof.Machine

/-- The record, state and editor checks of a script request (R47 steps 2 to 4). -/
def editable (p : Port) (c : ChapterId) (s : State) : Except Result Chapter :=
  match s.chapters[c] with
  | none => .error .noRecord
  | some r =>
    if r.state ≠ .assembling then .error .wrongState
    else if r.editor ≠ some p then .error .notEditor
    else .ok r

/-- A chapter's cursor set (R45). -/
def setCursor (c : ChapterId) (n : Nat) (s : State) : State := modChapter c (fun r => { r with cursor := n }) s

/-- SCRIPT_POINT at the catalogue (R48). -/
def pointScript (p : Port) (params : List Byte) (s : State) : Reply :=
  match chapterAt params 0 with
  | none => refuse .badParam s
  | some c =>
    if params.length ≠ 2 then refuse .badParam s
    else match editable p c s with
      | .error e => refuse e s
      | .ok _ =>
        let sent := paramAt params 1
        acceptOr (decide (31 < sent)) (u8 (min sent 31)) (setCursor c (min sent 31) s)

/-- SCRIPT_POINT (R48). -/
def execScriptPoint (p : Port) (params : List Byte) (s : State) : Answer :=
  request p .scriptPoint params (pointScript p params) s

/-- A step in the slot at a place of a script (R49). -/
def putStep (i : Nat) (st : Step) (slots : Vector Step 32) : Vector Step 32 :=
  if h : i < 32 then slots.set i st h else slots

/-- SCRIPT_WRITE at the catalogue (R49, R50). -/
def writeScript (p : Port) (params : List Byte) (s : State) : Reply :=
  match chapterAt params 0, stepSent params with
  | some c, some (st, clamped) =>
    if params.length ≠ 18 then refuse .badParam s
    else match editable p c s with
      | .error e => refuse e s
      | .ok r =>
        if 32 ≤ r.cursor then refuse .scriptFull s
        else acceptOr clamped (u8 r.cursor ++ stepBytes st)
          (modChapter c (fun r => { r with slots := putStep r.cursor st r.slots, cursor := r.cursor + 1 }) s)
  | _, _ => refuse .badParam s

/-- SCRIPT_WRITE (R49, R50). -/
def execScriptWrite (p : Port) (params : List Byte) (s : State) : Answer :=
  request p .scriptWrite params (writeScript p params) s

/-- SCRIPT_READ at the catalogue (R51). -/
def readScript (p : Port) (params : List Byte) (s : State) : Reply :=
  match chapterAt params 0 with
  | none => refuse .badParam s
  | some c =>
    if params.length ≠ 1 then refuse .badParam s
    else match editable p c s with
      | .error e => refuse e s
      | .ok r =>
        if h : r.cursor < 32 then
          accept (u8 r.cursor ++ stepBytes r.slots[r.cursor]) (setCursor c (r.cursor + 1) s)
        else accept (u8 32 ++ stepBytes Step.blank) s

/-- SCRIPT_READ (R51). -/
def execScriptRead (p : Port) (params : List Byte) (s : State) : Answer :=
  request p .scriptRead params (readScript p params) s

end Sys2Proof.Machine
end

