-- ==== Sys2Proof/Machine/StoreCommands.lean ====
section
/-! DEFINITION. The store's requests (R83 to R85), the completions of array operations (R68, R71, R72, R77, R78, R80), and
the steps in the store that another event makes due (R73, R75). A completion of an operation that is not in progress
changes nothing (log 3). -/

namespace Sys2Proof.Machine

/-! ### STORE_INFO (R83) -/

/-- The erase member of STORE_INFO (R83). -/
def eraseCode (op : ArrayOp) : Nat :=
  match op with
  | .erasing _ .background _ => 1
  | .erasing _ (.builtIn (.stream _)) _ => 2
  | .erasing _ (.builtIn (.lane _)) _ => 3
  | _ => 0

/-- Blocks in the chains of take records (R83). -/
def takeBlocks (s : State) : Nat := ((List.finRange 128).map fun t => (takeChain s t).length).sum

/-- Blocks in the chains of chapter outputs, partial outputs included (R83). -/
def outputBlocks (s : State) : Nat := ((List.finRange 64).map fun c => (outputChain s c).length).sum

/-- STORE_INFO at the store (R83). -/
def reportStore (params : List Byte) (s : State) : Reply :=
  if params ≠ [] then refuse .badParam s
  else
    accept (u16 s.store.erased.length ++ u16 s.store.dirty.length ++ u8 (eraseCode s.store.array) ++
      u16 (takeBlocks s) ++ u16 (outputBlocks s) ++
      u8 (flag s.store.sweep + 2 * flag (decide (freeCount s.store ≤ Config.lowStore)))) s

/-- STORE_INFO (R83). -/
def execStoreInfo (p : Port) (params : List Byte) (s : State) : Answer :=
  request p .storeInfo params (reportStore params) s

/-! ### PURGE (R84, R85, R44, R21) -/

/-- A chapter's script cleared: all slots END, the cursor 0, its references released, the flag set (R21). -/
def clearScript (c : ChapterId) (s : State) : State :=
  modChapter c (fun r => { r with slots := Vector.replicate 32 Step.blank, cursor := 0, scriptCleared := true })
    (releaseReferences c s)

/-- The purge of one chapter: a PUBLISHED one has its script cleared, any other lets its output go and is freed (R84). -/
def purgeChapter (s : State) (c : ChapterId) : State :=
  match s.chapters[c] with
  | none => s
  | some r =>
    if r.state = .published then clearScript c s
    else freeChapter c (releaseReferences c (releaseOutput c (abortJobOf c s)))

/-- The purge of one port's capture stream (R44). -/
def purgeStream (s : State) (p : Port) : State :=
  match s.captures[p] with
  | none => s
  | some _ =>
    modLevel p (fun e => { e with present := false })
      (setStream p none (modStore (abandonSource (.stream p)) s))

/-- The purge of one title: its take count becomes 0, and a title left with no chapter is dropped (R84). -/
def purgeTitle (s : State) (t : TitleNo) : State :=
  setTitle t ((s.titles[t].map fun r => { r with takeCount := 0 }).filter fun r => r.chapters != []) s

/-- Every record a purge frees, clears or drops, in the order of R85. -/
def purgeRecords (s : State) : State :=
  let s := (List.finRange 64).foldl purgeChapter (setQueue [] s)
  let s := allLanes.foldl (fun s l => clearLane l s) s
  let s := allPorts.foldl purgeStream s
  let s := (List.finRange 128).foldl (fun s t => freeTake t s) s
  (List.finRange 8).foldl purgeTitle s

/-- The TAKE_STOPPED notice of a purge to a port that had a stream (R44); `was` is the state before the purge. -/
def purgedTake (was : State) (s : State) (p : Port) : State :=
  match was.captures[p] with
  | none => s
  | some st =>
    notify p (notice .takeStopped st.take.val purgedCode (((was.takes[st.take]).map (·.length)).getD 0)) s

/-- The chapters a purge frees, ascending (R84). -/
def purgedChapters (s : State) : List ChapterId :=
  (List.finRange 64).filter fun c => s.chapters[c].any fun r => r.state != .published

/-- The notices of a purge, in their order (R85). -/
def purgeNotices (was s : State) : State :=
  (purgedChapters was).foldl (fun s c => chapterNotice c 0 .purged s) (allPorts.foldl (purgedTake was) s)

/-- The payload of PURGE: takes freed, chapters freed, scripts cleared, titles dropped, blocks released (R84). A script
that is cleared already is not cleared again (R86). -/
def purgePayload (was s : State) : List Byte :=
  u8 ((List.finRange 128).filter fun t => was.takes[t].isSome).length ++ u8 (purgedChapters was).length ++
    u8 ((List.finRange 64).filter fun c =>
      was.chapters[c].any fun r => r.state == .published && !r.scriptCleared).length ++
    u8 ((List.finRange 8).filter fun t => was.titles[t].isSome && s.titles[t].isNone).length ++
    u16 (s.store.dirty.length - was.store.dirty.length)

/-- PURGE at the catalogue (R84, R85). -/
def purge (params : List Byte) (s : State) : Reply :=
  if params ≠ [] then refuse .badParam s
  else
    let t := purgeRecords s
    accept (purgePayload s t) (settle (purgeNotices s t))

/-- PURGE (R84, R85). -/
def execPurge (p : Port) (params : List Byte) (s : State) : Answer :=
  request p .purge params (purge params) s

/-! ### Completions (R68) -/

/-- The array falls free. -/
def freeArray (s : State) : State := modStore (fun st => { st with array := .idle }) s

/-- A page arrives at the port that fetched it: it becomes the last segment (R176, R177). The first segment runs from
the cursor, any other from its page's first byte, both to the end of the page or of the source. -/
def arriveAtPort (bytes : List Byte) (ps : PortState) : PortState :=
  match ps.stream with
  | .active a =>
    match a.fetch with
    | none => ps
    | some f =>
      let base := f.page * Config.pageBytes
      let first := if a.segments.isEmpty then a.cursor else base
      let held := ((bytes.take (a.length - base)).take Config.pageBytes).drop (first - base)
      { ps with stream := .active { a with segments := a.segments ++ [⟨f.page, first, held⟩], fetch := none } }
  | _ => ps

/-- A page arrives at the lane that read it: it joins the lane's read pages (R98). -/
def arriveAtLane (bytes : List Byte) (j : Job) : Job :=
  match j.read with
  | none => j
  | some r => { j with pages := j.pages ++ [⟨r.step, r.page, bytes⟩], read := none }

/-- The page's bytes handed to the reader (R80). -/
def deliverPage (who : Reader) (bytes : List Byte) (s : State) : State :=
  match who with
  | .lane l => modJob l (arriveAtLane bytes) s
  | .port p => modPort p (arriveAtPort bytes) s

/-- PAGE_READ_COMPLETE (R80): the page goes to its reader, or is discarded when the reader has gone. -/
def execPageReadComplete (s : State) : Answer :=
  match s.store.array with
  | .reading who gone slot =>
    let t := freeArray s
    .next (commit s (if gone then t else deliverPage who (readPage s.store.mem slot) t))
  | _ => .next s

/-- A program's end: the page holds the buffer's bytes, the buffer is FREE, the array falls free (R68). -/
def endProgram (i : Fin 2) (slot : Nat) (bytes : List Byte) (s : State) : State :=
  modStore (fun st =>
    { modBuffer i (fun _ => .free) st with array := .idle, mem := programPage st.mem slot bytes }) s

/-- CAPTURE_PAGE_PROGRAMMED (R77): the page is in the array; the last page of a CLOSING take closes it (R38). -/
def execCapturePageProgrammed (s : State) : Answer :=
  match s.store.array with
  | .programming i =>
    match s.store.buffers[i] with
    | .programming (.stream p) gone _ slot bytes =>
      let t := endProgram i slot bytes s
      .next (commit s (if gone then t else takeClosedDue p t))
    | _ => .next s
  | _ => .next s

/-- OUTPUT_PAGE_PROGRAMMED (R78): the page is in the array; the header page's completion ends the job (R102). -/
def execOutputPageProgrammed (s : State) : Answer :=
  match s.store.array with
  | .programming i =>
    match s.store.buffers[i] with
    | .programming (.lane l) gone page slot bytes =>
      let t := endProgram i slot bytes s
      .next (commit s (if !gone && page == 0 then jobEnd l t else t))
    | _ => .next s
  | _ => .next s

/-- A block erased: all its bytes read 0x00, and the array falls free (R68). -/
def endErase (b : Nat) (s : State) : State :=
  modStore (fun st => { st with array := .idle, mem := eraseBlock st.mem b }) s

/-- A block joins the tail of the ERASED pool (R66). -/
def joinErased (b : Nat) (s : State) : State := modStore (fun st => { st with erased := st.erased ++ [b] }) s

/-- The array with the operation that the reset's end starts: an IDLE array over a DIRTY pool is the moment right
after device reset, and the sweep's first erase starts then (R81, log 11). -/
def started (s : State) : State := if s.store.array = .idle then settle s else s

/-- BACKGROUND_ERASE_COMPLETE (R71): the block joins the ERASED pool, where waiting allocations meet it (R73). -/
def execBackgroundEraseComplete (s : State) : Answer :=
  let t := started s
  match t.store.array with
  | .erasing b .background _ => .next (commit s (joinErased b (endErase b t)))
  | _ => .next s

/-- BUILT_IN_ERASE_COMPLETE (R72): the block goes to its allocation's chain, or joins the ERASED pool when the allocation
has gone. -/
def execBuiltInEraseComplete (s : State) : Answer :=
  match s.store.array with
  | .erasing b (.builtIn src) gone =>
    let t := endErase b s
    .next (commit s (if gone then joinErased b t else appendBlock src b t))
  | _ => .next s

/-! ### Steps that another event makes due (log 2, log 3) -/

/-- PAGE_LOAD (R75): the next offered page is loaded, and the event is carried to its end. -/
def execPageLoad (s : State) : Answer :=
  match loadDue s with
  | some t => .next (commit s t)
  | none => .next s

/-- WAITING_ALLOCATION_SERVED (R73, R74): a block in the ERASED pool goes to the first waiting allocation. -/
def execWaitingAllocationServed (s : State) : Answer :=
  match waitingDue s with
  | some t => .next (commit s t)
  | none => .next s

end Sys2Proof.Machine
end

