-- ==== Sys2Proof/Machine/Dispatch.lean ====
section
/-! DEFINITION. The effect of each command on everything but the queue: one meaning per constructor of Instr. -/

namespace Sys2Proof.Machine

def exec (i : Instr) (s : State) : Host.Outcome State Fault Refusal :=
  match i with
  | .titleDefine p params => Sys2Proof.Machine.execTitleDefine p params s
  | .titleDrop p params => Sys2Proof.Machine.execTitleDrop p params s
  | .titleProfile p params => Sys2Proof.Machine.execTitleProfile p params s
  | .titleInfo p params => Sys2Proof.Machine.execTitleInfo p params s
  | .chapterCreate p params => Sys2Proof.Machine.execChapterCreate p params s
  | .chapterOpen p params => Sys2Proof.Machine.execChapterOpen p params s
  | .chapterClose p params => Sys2Proof.Machine.execChapterClose p params s
  | .chapterDiscard p params => Sys2Proof.Machine.execChapterDiscard p params s
  | .chapterMove p params => Sys2Proof.Machine.execChapterMove p params s
  | .chapterInfo p params => Sys2Proof.Machine.execChapterInfo p params s
  | .takeStart p params => Sys2Proof.Machine.execTakeStart p params s
  | .gateSet p params => Sys2Proof.Machine.execGateSet p params s
  | .takeStop p params => Sys2Proof.Machine.execTakeStop p params s
  | .takeRetire p params => Sys2Proof.Machine.execTakeRetire p params s
  | .takeInfo p params => Sys2Proof.Machine.execTakeInfo p params s
  | .levels p params => Sys2Proof.Machine.execLevels p params s
  | .scriptPoint p params => Sys2Proof.Machine.execScriptPoint p params s
  | .scriptWrite p params => Sys2Proof.Machine.execScriptWrite p params s
  | .scriptRead p params => Sys2Proof.Machine.execScriptRead p params s
  | .storeInfo p params => Sys2Proof.Machine.execStoreInfo p params s
  | .purge p params => Sys2Proof.Machine.execPurge p params s
  | .render p params => Sys2Proof.Machine.execRender p params s
  | .renderSet p params => Sys2Proof.Machine.execRenderSet p params s
  | .renderCancel p params => Sys2Proof.Machine.execRenderCancel p params s
  | .queueInfo p params => Sys2Proof.Machine.execQueueInfo p params s
  | .publish p params => Sys2Proof.Machine.execPublish p params s
  | .collect p params => Sys2Proof.Machine.execCollect p params s
  | .profileSet p params => Sys2Proof.Machine.execProfileSet p params s
  | .profileGet p params => Sys2Proof.Machine.execProfileGet p params s
  | .streamOpen p params => Sys2Proof.Machine.execStreamOpen p params s
  | .streamClose p params => Sys2Proof.Machine.execStreamClose p params s
  | .subscribe p params => Sys2Proof.Machine.execSubscribe p params s
  | .deviceInfo p params => Sys2Proof.Machine.execDeviceInfo p params s
  | .request p m => Sys2Proof.Machine.execRequest p m s
  | .fetch p m => Sys2Proof.Machine.execFetch p m s
  | .notices p => Sys2Proof.Machine.execNotices p s
  | .noticeRecordSent p => Sys2Proof.Machine.execNoticeRecordSent p s
  | .capture p m => Sys2Proof.Machine.execCapture p m s
  | .captureSample p x => Sys2Proof.Machine.execCaptureSample p x s
  | .captureEnd rise => Sys2Proof.Machine.execCaptureEnd rise s
  | .takeFull p => Sys2Proof.Machine.execTakeFull p s
  | .positionLimit p => Sys2Proof.Machine.execPositionLimit p s
  | .takeClosed p => Sys2Proof.Machine.execTakeClosed p s
  | .liveBlock p => Sys2Proof.Machine.execLiveBlock p s
  | .streamData p => Sys2Proof.Machine.execStreamData p s
  | .dataByteDelivered p => Sys2Proof.Machine.execDataByteDelivered p s
  | .streamDataEnd p => Sys2Proof.Machine.execStreamDataEnd p s
  | .attentionRead p m => Sys2Proof.Machine.execAttentionRead p m s
  | .attentionClear p value n => Sys2Proof.Machine.execAttentionClear p value n s
  | .attentionMask p value n => Sys2Proof.Machine.execAttentionMask p value n s
  | .attentionMode p value n => Sys2Proof.Machine.execAttentionMode p value n s
  | .portReset p extra => Sys2Proof.Machine.execPortReset p extra s
  | .ignoredTransaction p tb n => Sys2Proof.Machine.execIgnoredTransaction p tb n s
  | .deviceReset => Sys2Proof.Machine.execDeviceReset s
  | .pageReadComplete => Sys2Proof.Machine.execPageReadComplete s
  | .capturePageProgrammed => Sys2Proof.Machine.execCapturePageProgrammed s
  | .outputPageProgrammed => Sys2Proof.Machine.execOutputPageProgrammed s
  | .backgroundEraseComplete => Sys2Proof.Machine.execBackgroundEraseComplete s
  | .builtInEraseComplete => Sys2Proof.Machine.execBuiltInEraseComplete s
  | .pageLoad => Sys2Proof.Machine.execPageLoad s
  | .waitingAllocationServed => Sys2Proof.Machine.execWaitingAllocationServed s
  | .measureSample l => Sys2Proof.Machine.execMeasureSample l s
  | .meterBlock l => Sys2Proof.Machine.execMeterBlock l s
  | .measureEnd l => Sys2Proof.Machine.execMeasureEnd l s
  | .encodeFrame l => Sys2Proof.Machine.execEncodeFrame l s
  | .encodeEnd l => Sys2Proof.Machine.execEncodeEnd l s

end Sys2Proof.Machine
end

