-- ==== Sys2Proof/Safety.lean ====
section
/-! DEFINITION. The laws of the manual as properties of a state, and the words that statements about the part use. -/

namespace Sys2Proof.Machine

/-! ### Requests -/

/-- The owning block takes a request: the port has passed it on, and its block has not taken it yet (R185 case 5). -/
def Takes (s : State) (p : Port) (k : ReqKind) (params : List Byte) : Prop :=
  s.ports[p].exec = .executing k params false

/-- What a request leads to: the block's work has led from `before` to `after`, and the port's slot is filled with the
response within the same event (R185, R195). -/
def Responds (p : Port) (k : ReqKind) (r : Result) (payload : List Byte) (before after : State) : Answer :=
  .next (attend before (fillSlot p ⟨kindCode k, r, payload⟩ after))

/-- A refusal: nothing changes but the port's slot, and the payload is empty (R189). -/
def Refuses (p : Port) (k : ReqKind) (r : Result) (s : State) : Answer := Responds p k r [] s s

/-- A request row as its port, its kind, its parameter bytes and what its block makes of it; none for the other rows. -/
def requestRow (i : Instr) : Option (Port × ReqKind × List Byte × (State → Reply)) :=
  match i with
  | .titleDefine p ps => some (p, .titleDefine, ps, defineTitle ps)
  | .titleDrop p ps => some (p, .titleDrop, ps, dropTitle ps)
  | .titleProfile p ps => some (p, .titleProfile, ps, setTitleProfile ps)
  | .titleInfo p ps => some (p, .titleInfo, ps, reportTitle ps)
  | .chapterCreate p ps => some (p, .chapterCreate, ps, createChapter p ps)
  | .chapterOpen p ps => some (p, .chapterOpen, ps, openChapter p ps)
  | .chapterClose p ps => some (p, .chapterClose, ps, closeChapter p ps)
  | .chapterDiscard p ps => some (p, .chapterDiscard, ps, discardChapter p ps)
  | .chapterMove p ps => some (p, .chapterMove, ps, moveChapter ps)
  | .chapterInfo p ps => some (p, .chapterInfo, ps, reportChapter ps)
  | .takeStart p ps => some (p, .takeStart, ps, startTake p ps)
  | .gateSet p ps => some (p, .gateSet, ps, setGateValues p ps)
  | .takeStop p ps => some (p, .takeStop, ps, stopTake p ps)
  | .takeRetire p ps => some (p, .takeRetire, ps, retireTake ps)
  | .takeInfo p ps => some (p, .takeInfo, ps, reportTake ps)
  | .levels p ps => some (p, .levels, ps, reportLevels ps)
  | .scriptPoint p ps => some (p, .scriptPoint, ps, pointScript p ps)
  | .scriptWrite p ps => some (p, .scriptWrite, ps, writeScript p ps)
  | .scriptRead p ps => some (p, .scriptRead, ps, readScript p ps)
  | .storeInfo p ps => some (p, .storeInfo, ps, reportStore ps)
  | .purge p ps => some (p, .purge, ps, Machine.purge ps)
  | .render p ps => some (p, .render, ps, renderChapter p ps)
  | .renderSet p ps => some (p, .renderSet, ps, Machine.renderSet p ps)
  | .renderCancel p ps => some (p, .renderCancel, ps, cancelRender ps)
  | .queueInfo p ps => some (p, .queueInfo, ps, reportQueue ps)
  | .publish p ps => some (p, .publish, ps, Machine.publish ps)
  | .collect p ps => some (p, .collect, ps, Machine.collect ps)
  | .profileSet p ps => some (p, .profileSet, ps, writeProfile ps)
  | .profileGet p ps => some (p, .profileGet, ps, readProfile ps)
  | .streamOpen p ps => some (p, .streamOpen, ps, Machine.streamOpen p ps)
  | .streamClose p ps => some (p, .streamClose, ps, Machine.streamClose p ps)
  | .subscribe p ps => some (p, .subscribe, ps, Machine.subscribe p ps)
  | .deviceInfo p ps => some (p, .deviceInfo, ps, Machine.deviceInfo p ps)
  | .request _ _ => none
  | .fetch _ _ => none
  | .notices _ => none
  | .noticeRecordSent _ => none
  | .capture _ _ => none
  | .captureSample _ _ => none
  | .captureEnd _ => none
  | .takeFull _ => none
  | .positionLimit _ => none
  | .takeClosed _ => none
  | .liveBlock _ => none
  | .streamData _ => none
  | .dataByteDelivered _ => none
  | .streamDataEnd _ => none
  | .attentionRead _ _ => none
  | .attentionClear _ _ _ => none
  | .attentionMask _ _ _ => none
  | .attentionMode _ _ _ => none
  | .portReset _ _ => none
  | .ignoredTransaction _ _ _ => none
  | .deviceReset => none
  | .pageReadComplete => none
  | .capturePageProgrammed => none
  | .outputPageProgrammed => none
  | .backgroundEraseComplete => none
  | .builtInEraseComplete => none
  | .pageLoad => none
  | .waitingAllocationServed => none
  | .measureSample _ => none
  | .meterBlock _ => none
  | .measureEnd _ => none
  | .encodeFrame _ => none
  | .encodeEnd _ => none

/-- The parameter lengths of a request kind (R1, R25, R47, R83, R84, R89, R150, R154, R173, R175, R193, R198). -/
def lengthFits (k : ReqKind) (n : Nat) : Bool :=
  match k with
  | .titleDefine => n == 4 | .titleDrop => n == 1 | .titleProfile => n == 3 | .titleInfo => n == 1
  | .chapterCreate => n == 2 | .chapterOpen => n == 1 | .chapterClose => n == 1 | .chapterDiscard => n == 1
  | .chapterMove => n == 2 | .chapterInfo => n == 1
  | .takeStart => n == 14 | .gateSet => n == 13 | .takeStop => n == 0 | .takeRetire => n == 1 | .takeInfo => n == 2
  | .levels => n == 0
  | .scriptPoint => n == 2 | .scriptWrite => n == 18 | .scriptRead => n == 1
  | .storeInfo => n == 0 | .purge => n == 0
  | .render => n == 1 | .renderSet => decide (1 ≤ n ∧ n ≤ 4) | .renderCancel => n == 1 | .queueInfo => n == 0
  | .publish => n == 1 | .collect => n == 1
  | .profileSet => n == 25 | .profileGet => n == 1
  | .streamOpen => n == 6 | .streamClose => n == 0 | .subscribe => n == 1 | .deviceInfo => n == 0

/-- How many numbers the record named by a request's first parameter byte can have; none for a kind whose first byte
names no record, and for RENDER_SET, whose payload reports the index (R1, R25, R47, R89, R150, R154). -/
def firstIdLimit (k : ReqKind) : Option Nat :=
  match k with
  | .titleDefine | .titleDrop | .titleProfile | .titleInfo | .chapterCreate | .takeStart => some 8
  | .chapterOpen | .chapterClose | .chapterDiscard | .chapterMove | .chapterInfo | .scriptPoint | .scriptWrite
  | .scriptRead | .render | .renderCancel | .publish | .collect => some 64
  | .takeRetire | .takeInfo => some 128
  | .profileSet | .profileGet => some 4
  | .gateSet | .takeStop | .levels | .storeInfo | .purge | .renderSet | .queueInfo | .streamOpen | .streamClose
  | .subscribe | .deviceInfo => none

/-- The values of a request's further parameter bytes, for the kinds that refuse a value with BAD_PARAM (R3, R5, R27, R31,
R41, R47, R173, R193). -/
def valuesFit (k : ReqKind) (ps : List Byte) : Bool :=
  let v := paramAt ps
  match k with
  | .titleDefine => decide (v 1 ≤ 3 ∧ v 2 ≤ 3 ∧ v 3 ≤ 1)
  | .titleProfile => decide ((v 1 ≤ 3 ∨ v 1 = 255) ∧ (v 2 ≤ 1 ∨ v 2 = 255))
  | .takeStart => decide (v 1 ≤ 1)
  | .gateSet => decide (v 12 ≤ 1 ∨ v 12 = 255)
  | .takeInfo => decide (v 1 ≤ 10 ∨ v 1 = 255)
  | .scriptWrite => decide (v 1 ≤ 2 ∧ (v 1 = 0 ∨ v 2 ≤ 127))
  | .streamOpen => decide ((v 0 = 0 ∧ v 1 ≤ 63) ∨ (v 0 = 1 ∧ v 1 ≤ 127))
  | .subscribe => decide (v 0 ≤ 7)
  | _ => true

/-- The result is a refusal: its code is 0x10 or above (R189). -/
def Refused (r : Result) : Prop := 0x10 ≤ (resultCode r).toNat

/-! ### Laws -/

/-- The law of the port (R186): each notice queue holds at most 16 notices. (A slot holds at most one response by its
type.) -/
def PortLaw (s : State) : Prop := ∀ p : Port, s.ports[p].notices.length ≤ Config.noticePlaces

/-- The level half of R195: a level-mode source's pending bit is its condition. -/
def LevelLaw (s : State) : Prop :=
  ∀ p : Port, s.ports[p].latched &&& s.ports[p].mode = conditions s.ports[p] &&& s.ports[p].mode

/-- The law of marks for one take (R34), with what it rests on: no mark lies beyond the take's length. -/
def MarkLaw (t : Take) : Prop :=
  t.marks.length ≤ Config.markPlaces ∧ (t.marks.map (·.index)).Pairwise (· ≤ ·) ∧ ∀ m ∈ t.marks, m.index ≤ t.length

/-- The law of marks (R34). -/
def MarksLaw (s : State) : Prop := ∀ k : TakeId, ∀ t, s.takes[k] = some t → MarkLaw t

/-- A capture FIFO holds at most 4,096 samples (R26, R32). -/
def FifoLaw (s : State) : Prop := ∀ p : Port, ∀ st, s.captures[p] = some st → st.fifo.length ≤ Config.fifoPlaces

/-- The array's contents are in canonical form (R63; the form is the model's own). -/
def MemoryLaw (s : State) : Prop := Memory.wf s.store.mem = true

/-- A profile record within the ranges of R149, its two pairs of limits in order. -/
def ProfileInRange (pr : Profile) : Prop :=
  -240 ≤ pr.target ∧ pr.target ≤ -120 ∧ 5 ≤ pr.tolerance ∧ pr.tolerance ≤ 50 ∧ -120 ≤ pr.ceiling ∧ pr.ceiling ≤ -10 ∧
    pr.lb ≤ 120 ∧ 1 ≤ pr.rel ∧ pr.rel ≤ 60 ∧ pr.clips ≤ 65535 ∧ -900 ≤ pr.floorMax ∧ pr.floorMax ≤ -400 ∧
    -900 ≤ pr.qs ∧ pr.qs ≤ -300 ∧ pr.hmin ≤ pr.hmax ∧ pr.hmax ≤ 100 ∧ pr.tmin ≤ pr.tmax ∧ pr.tmax ≤ 100 ∧
    -900 ≤ pr.ga ∧ pr.ga ≤ -400 ∧ 50 ≤ pr.roff ∧ pr.roff ≤ 200 ∧ 3 ≤ pr.m ∧ pr.m ≤ 8 ∧ 600 ≤ pr.maxLen ∧
    pr.maxLen ≤ 65535

/-- Every profile record is within its ranges (R149). -/
def ProfilesLaw (s : State) : Prop := ∀ n : ProfileNo, ProfileInRange s.profiles[n]

/-- A chapter's state, none for a free record. -/
def chapterState (s : State) (c : ChapterId) : Option ChapterState := s.chapters[c].map (·.state)

/-- The chapter a lane holds. -/
def laneChapter (s : State) (l : Lane) : Option ChapterId := s.lanes[l].map (·.chapter)

/-- The law of the queue (R87): at most 16 entries, never two for one chapter; the QUEUED chapters are those with an
entry, and the RENDERING chapters are exactly those held by lanes, each by one. -/
def QueueLaw (s : State) : Prop :=
  s.queue.length ≤ Config.queuePlaces ∧ (s.queue.map (·.chapter)).Nodup ∧
    (∀ c, chapterState s c = some .queued ↔ c ∈ s.queue.map (·.chapter)) ∧
    (∀ c, chapterState s c = some .rendering ↔ ∃ l, laneChapter s l = some c) ∧
    ∀ c, laneChapter s 0 = some c → laneChapter s 1 ≠ some c

/-- The render unit does not hold a chapter: no entry and no lane names it. -/
def NotHeld (s : State) (c : ChapterId) : Prop :=
  (∀ e ∈ s.queue, e.chapter ≠ c) ∧ ∀ l, laneChapter s l ≠ some c

/-- The law of claims (R13): only an ASSEMBLING chapter has an editor. -/
def ClaimLaw (s : State) : Prop :=
  ∀ c : ChapterId, ∀ r, s.chapters[c] = some r → r.editor ≠ none → r.state = .assembling

/-- A script cursor is at most 32 (R45). -/
def CursorLaw (s : State) : Prop := ∀ c : ChapterId, ∀ r, s.chapters[c] = some r → r.cursor ≤ 32

/-- A read-ahead holds at most two segments (R176). -/
def SegmentLaw (s : State) : Prop :=
  ∀ p : Port, ∀ a, s.ports[p].stream = .active a → a.segments.length ≤ 2 ∧ (a.segments.length = 2 → a.fetch = none)

/-- The law of streams (R26): a stream's take is CAPTURING or CLOSING as the stream is, with the stream's port as its
capturing port; every such take belongs to a stream, and a CLOSED take has no capturing port (R38). -/
def StreamLaw (s : State) : Prop :=
  (∀ p : Port, ∀ st, s.captures[p] = some st → ∃ t, s.takes[st.take] = some t ∧ t.port = some p ∧
    t.state = if st.closing then .closing else .capturing) ∧
  ∀ k : TakeId, ∀ t, s.takes[k] = some t →
    if t.state = .closed then t.port = none else ∃ p : Port, ∃ st, s.captures[p] = some st ∧ st.take = k

/-- The law of positions (R6): a title's list holds its chapters, each once, at most 32 of them, and each chapter's
record keeps its place in the list, counted from 1; a chapter belongs to a defined title. -/
def PositionLaw (s : State) : Prop :=
  (∀ t : TitleNo, ∀ r, s.titles[t] = some r → r.chapters.Nodup ∧ r.chapters.length ≤ 32) ∧
  (∀ c : ChapterId, ∀ r, s.chapters[c] = some r → s.titles[r.title] ≠ none ∧ 1 ≤ r.position) ∧
  ∀ t : TitleNo, ∀ c : ChapterId, ∀ k, (chapterList s t)[k]? = some c ↔
    s.titles[t] ≠ none ∧ ∃ r, s.chapters[c] = some r ∧ r.title = t ∧ r.position = k + 1

/-- A chapter outside ASSEMBLING names a take before its script's end (R9). -/
def refersTo (s : State) (k : TakeId) (c : ChapterId) : Bool :=
  s.chapters[c].any fun r => r.state != .assembling && (namedTakes r.slots).contains k

/-- The law of references (R9): a take's count is the number of the chapters outside ASSEMBLING that name it, and a take
with a count is CLOSED; a free record is named by none. A cleared script is the script of a PUBLISHED chapter and has no
steps (R21). -/
def ReferenceLaw (s : State) : Prop :=
  (∀ k : TakeId, match s.takes[k] with
    | some t => t.refs = ((List.finRange 64).filter (refersTo s k)).length ∧ (0 < t.refs → t.state = .closed)
    | none => ∀ c, refersTo s k c = false) ∧
  ∀ c : ChapterId, ∀ r, s.chapters[c] = some r → r.scriptCleared = true →
    r.state = .published ∧ r.slots = Vector.replicate 32 Step.blank

/-- The law of lengths (R57, R36): a take holds at most 2^28 samples, and a CAPTURING one fewer; a chapter that has passed
close has an assembled length from one meter block of its title's rate to 2^28 samples. -/
def LengthLaw (s : State) : Prop :=
  (∀ k : TakeId, ∀ t, s.takes[k] = some t → t.length ≤ 2 ^ 28 ∧ (t.state = .capturing → t.length < 2 ^ 28)) ∧
  ∀ c : ChapterId, ∀ r, s.chapters[c] = some r → ∀ n, r.assembled = some n →
    blockLength (titleRate s r.title) ≤ n ∧ n ≤ 2 ^ 28

/-- What a chapter's record holds in each state (R10, R11): an assembled length outside ASSEMBLING only, a result group in
RENDERED, REJECTED and PUBLISHED only, and output in RENDERED and PUBLISHED. -/
def PresenceLaw (s : State) : Prop :=
  ∀ c : ChapterId, ∀ r, s.chapters[c] = some r →
    (r.assembled = none ↔ r.state = .assembling) ∧
    (r.result ≠ none ↔ r.state = .rendered ∨ r.state = .rejected ∨ r.state = .published) ∧
    (r.state = .rendered ∨ r.state = .published → ownedOutput r ≠ none)

/-- The source of a page in a program buffer that has not gone (R75, R76). -/
def pageSource (b : Buffer) : Option Source :=
  match b with
  | .free => none
  | .loaded src _ _ _ => some src
  | .programming src gone _ _ _ => if gone then none else some src

/-- A capture stream or a lane is at work (R26, R96). -/
def SourcePresent (s : State) (src : Source) : Prop :=
  match src with
  | .stream p => s.captures[p] ≠ none
  | .lane l => s.lanes[l] ≠ none

/-- The law of pages (R72, R75, R76, R79): a page in a program buffer belongs to a source at work, a source has one page
there at most, and a built-in erase that has not lost its allocation is the one that a LOADED page waits for. -/
def PageLaw (s : State) : Prop :=
  (∀ i : Fin 2, ∀ src, pageSource s.store.buffers[i] = some src → SourcePresent s src) ∧
  (pageSource s.store.buffers[(0 : Fin 2)] ≠ none →
    pageSource s.store.buffers[(0 : Fin 2)] ≠ pageSource s.store.buffers[(1 : Fin 2)]) ∧
  ∀ src : Source, (∃ b, s.store.array = .erasing b (.builtIn src) false) ↔
    ∃ i : Fin 2, ∃ page bytes, s.store.buffers[i] = .loaded src page bytes .erasing

/-- The block under an erase (R64). -/
def erasingBlock (op : ArrayOp) : List Nat :=
  match op with
  | .erasing b _ _ => [b]
  | _ => []

/-- The blocks of a lane's partial output (R65). -/
def laneChain (s : State) (l : Lane) : List Nat := ((s.lanes[l]).map (·.blocks)).getD []

/-- The blocks of a chapter's own output (R10). -/
def ownedChain (s : State) (c : ChapterId) : List Nat := ((s.chapters[c].bind ownedOutput).map (·.chain)).getD []

/-- The blocks of the job that holds a chapter; none where no lane holds it (R65, R105). -/
def jobBlocks (s : State) (c : ChapterId) : List Nat := ((laneOf s c).map (laneChain s)).getD []

/-- The blocks a chapter lets go, in the order of their release: those of its running job, then its own output (R16,
R19, R84). -/
def heldBlocks (s : State) (c : ChapterId) : List Nat := jobBlocks s c ++ ownedChain s c

/-- Every place that can hold a block, one after the other: the two pools, the erase, and the owners' chains (R64). -/
def placedBlocks (s : State) : List Nat :=
  s.store.erased ++ s.store.dirty ++ erasingBlock s.store.array ++ (List.finRange 128).flatMap (takeChain s) ++
    (List.finRange 64).flatMap (ownedChain s) ++ (List.finRange 2).flatMap (laneChain s)

/-- The law of blocks (R64): each of the 16,384 blocks is in exactly one place, and there once. -/
def BlockLaw (s : State) : Prop := (placedBlocks s).Perm (List.range 16384)

/-! ### The assembled sequence as the manual lays it down (R58 to R60) -/

/-- A step's trimmed material, from raw take samples (R58, R59). -/
def material (raw : Nat → Sample) (st : Step) : List Sample :=
  (List.range (stepLength st)).map fun j => trimmed st.trim (raw (takeSample st j))

/-- One step laid down on the sequence so far: its first `xf` samples are blended into the end, the rest follow (R60). -/
def layDown (placed : List Sample) (xf : Nat) (v : List Sample) : List Sample :=
  let start := placed.length - xf
  placed.take start ++
    (List.range xf).map (fun i => blended xf i (placed.getD (start + i) 0) (v.getD i 0)) ++ v.drop xf

/-- The sequence after the steps from step `k` on, `raw k i` being take sample `i` of step `k`'s take (R60). -/
def laidDown (raw : Nat → Nat → Sample) : Nat → List Sample → List Step → List Sample
  | _, placed, [] => placed
  | k, placed, st :: rest => laidDown raw (k + 1) (layDown placed st.xf (material (raw k) st)) rest

/-- The crossfade checks of R56 hold for the steps from one whose predecessor contributed `before` samples on. -/
def crossfadesFit : Nat → List Step → Prop
  | _, [] => True
  | before, st :: rest => st.xf ≤ stepLength st ∧ st.xf ≤ before ∧ crossfadesFit (netContribution st) rest

/-! ### Reading a frame (R142, R169) -/

/-- The `n` codes of m bits each, two's complement, that a bit string holds, most significant bit first. -/
def readCodes (m : Nat) : Nat → List Bool → List Int
  | 0, _ => []
  | n + 1, bits =>
    (BitVec.ofNat m ((bits.take m).foldl (fun v b => 2 * v + b.toNat) 0)).toInt :: readCodes m n (bits.drop m)

/-- A byte's bits, most significant first. -/
def bitsOf (b : Byte) : List Bool := (List.range 8).map fun i => b.getMsbD i

/-- What a decoder makes of a frame's codes, from the last decoded sample on (R142). -/
def decoded (k c : Nat) : Sample → List Int → List Sample
  | _, [] => []
  | r, q :: rest =>
    let r' := clampInt (-c) c (r + q * 2 ^ k)
    r' :: decoded k c r' rest

end Sys2Proof.Machine
end

