-- ==== Sys2Proof/Certificates/Slice0/Obligations.lean ====
section
/-! DEFINITION. The statements about the HJ740 for the provers, family by family: the steps of the queue, the requests of
each block, the transactions, the events of the store and of the lanes, the laws that every step keeps, and the
arithmetic. -/

section
open Sys2Proof Sys2Proof.Machine

/-! ### Steps, requests in general -/

/-- A step takes the command at the front of the queue and runs it with the queue's rest; on an empty queue the part
idles. The queue is the model's own (logs 1 and 4). -/
def Obligations.StepRunsFrontCommand : Prop :=
  (∀ (i : Instr) (rest : List Instr) (s : State), step { s with pending := i :: rest } = exec i { s with pending := rest }) ∧
    ∀ s : State, s.pending = [] → step s = .next s

/-- Every command answers a next state, and none touches the queue of waiting commands (the queue is the model's
own, log 1). -/
def Obligations.EveryCommandRuns : Prop :=
  ∀ (i : Instr) (s : State), ∃ t, exec i s = .next t ∧ t.pending = s.pending

/-- What becomes of a request row (R185, R186, R188, R199). When the port has passed the request on, its block takes
it, and the response fills the slot within the event; after a port reset the response is discarded. On an IDLE port
the row is the REQUEST transaction as well (log 1): with at most 60 parameter bytes the port passes the request on,
and the row is what it is on a port that has; with more the port answers BAD_PARAM. On a port that is ANSWERED, or
that executes another request, the row is one more REQUEST, dropped with cause BUSY (log 1). -/
def Obligations.RequestIsServed : Prop :=
  ∀ (i : Instr) (s t : State) (p : Port) (k : ReqKind) (ps : List Byte) (act : State → Reply),
    requestRow i = some (p, k, ps, act) → t = ended p s →
      (Takes s p k ps → exec i s = Responds p k (act s).result (act s).payload s (act s).state) ∧
      (s.ports[p].exec = .executing k ps true →
        exec i s = .next (attend s (modPort p (fun r => { r with exec := .idle }) (act s).state))) ∧
      (s.ports[p].exec = .idle →
        (ps.length ≤ 60 → ∃ u, u = wholeRequest p (requestBytes k ps) s ∧ Takes u p k ps ∧ exec i s = exec i u) ∧
        (60 < ps.length → exec i s = .next (attend t (fillSlot p ⟨kindCode k, .badParam, []⟩
          (setSent p (List.replicate (requestBytes k ps).length 0) t))))) ∧
      ((∃ r, s.ports[p].exec = .answered r) ∨
          (∃ k' ps' d, s.ports[p].exec = .executing k' ps' d ∧ ¬(k' = k ∧ ps' = ps)) →
        exec i s = .next (attend t (notify p ⟨.requestDropped, kindCode k, 0,
          BitVec.ofNat 32 ((requestBytes k ps).length)⟩
          (setSent p (List.replicate (requestBytes k ps).length 0) t))))

/-- A refused request changes nothing, and its payload is empty unless the result is SCRIPT_BAD or the request a
RENDER_SET (R189). -/
def Obligations.RefusalChangesNothing : Prop :=
  ∀ (i : Instr) (s : State) (p : Port) (k : ReqKind) (ps : List Byte) (act : State → Reply),
    requestRow i = some (p, k, ps, act) → Takes s p k ps → Refused (act s).result →
      exec i s = Responds p k (act s).result (act s).payload s s ∧
        ((act s).result ≠ .scriptBad → k ≠ .renderSet → (act s).payload = [])

/-- A request with a parameter length outside its kind's list, or whose first byte names a title, chapter, take or
profile that cannot exist, or with a value that its kind refuses, is refused with BAD_PARAM (R1, R3, R5, R25, R27,
R31, R41, R47, R83, R84, R89, R150, R154, R173, R175, R193, R198). That a RENDER_SET of a wrong length (0 or more than
4 ids) is refused with an empty payload is the model's reading: R89 excepts RENDER_SET from the empty payload, and
R91 gives a refusal the index of a chapter, which a wrong length does not have (DEDUCED, log 14). A script request is
refused where the chapter is free, not ASSEMBLING, or not the requester's (R47). -/
def Obligations.RequestChecksRefuse : Prop :=
  (∀ (i : Instr) (s : State) (p : Port) (k : ReqKind) (ps : List Byte) (act : State → Reply),
      requestRow i = some (p, k, ps, act) → Takes s p k ps →
        (lengthFits k ps.length = false → exec i s = Refuses p k .badParam s) ∧
        (lengthFits k ps.length = true → (∃ n, firstIdLimit k = some n ∧ n ≤ paramAt ps 0) →
          exec i s = Refuses p k .badParam s) ∧
        (lengthFits k ps.length = true → valuesFit k ps = false → exec i s = Refuses p k .badParam s)) ∧
  ∀ (i : Instr) (s : State) (p : Port) (k : ReqKind) (ps : List Byte) (act : State → Reply) (c : ChapterId),
    requestRow i = some (p, k, ps, act) → Takes s p k ps → lengthFits k ps.length = true → chapterAt ps 0 = some c →
      (k = .scriptPoint ∨ k = .scriptRead ∨ (k = .scriptWrite ∧ stepSent ps ≠ none)) →
      (s.chapters[c] = none → exec i s = Refuses p k .noRecord s) ∧
      ∀ r, s.chapters[c] = some r →
        (r.state ≠ .assembling → exec i s = Refuses p k .wrongState s) ∧
        (r.state = .assembling → r.editor ≠ some p → exec i s = Refuses p k .notEditor s)

/-! ### Titles, chapters and reports -/

/-- TITLE_DEFINE, TITLE_DROP and TITLE_PROFILE: when each is accepted, the new record, and what refuses it; nothing
else changes (R3, R4, R5). CHAPTER_CREATE: its three refusals in order, and the new record with its place in the
title's list, its clamped position and its notice (R14). -/
def Obligations.TitleRequestsAndChapterCreate : Prop :=
  ((∀ (s : State) (p : Port) (t : TitleNo) (rate : RateCode) (n : ProfileNo) (auto : Bool) (ps : List Byte),
     ps = u8 t.val ++ u8 rate.val ++ u8 n.val ++ u8 (flag auto) → Takes s p .titleDefine ps →
       (s.titles[t] = none → exec (.titleDefine p ps) s =
         Responds p .titleDefine .accepted [] s (setTitle t (some ⟨rate, n, auto, [], 0⟩) s)) ∧
       (s.titles[t] ≠ none → exec (.titleDefine p ps) s = Refuses p .titleDefine .existing s)) ∧
   (∀ (s : State) (p : Port) (t : TitleNo), Takes s p .titleDrop (u8 t.val) →
       (s.titles[t] = none → exec (.titleDrop p (u8 t.val)) s = Refuses p .titleDrop .noTitle s) ∧
       ∀ r, s.titles[t] = some r →
         (0 < r.takeCount ∨ r.chapters ≠ [] → exec (.titleDrop p (u8 t.val)) s = Refuses p .titleDrop .hasContent s) ∧
         (r.takeCount = 0 → r.chapters = [] →
           exec (.titleDrop p (u8 t.val)) s = Responds p .titleDrop .accepted [] s (setTitle t none s))) ∧
   ∀ (s : State) (p : Port) (t : TitleNo) (n : Option ProfileNo) (auto : Option Bool) (ps : List Byte),
     ps = u8 t.val ++ u8 ((n.map (·.val)).getD 255) ++ u8 ((auto.map flag).getD 255) → Takes s p .titleProfile ps →
       (s.titles[t] = none → exec (.titleProfile p ps) s = Refuses p .titleProfile .noTitle s) ∧
       ∀ r, s.titles[t] = some r → exec (.titleProfile p ps) s = Responds p .titleProfile .accepted [] s
         (setTitle t (some { r with profile := n.getD r.profile, auto := auto.getD r.auto }) s)) ∧
  ∀ (s : State) (p : Port) (t : TitleNo) (b : Byte) (ps : List Byte), ps = u8 t.val ++ [b] →
    Takes s p .chapterCreate ps →
      (s.titles[t] = none → exec (.chapterCreate p ps) s = Refuses p .chapterCreate .noTitle s) ∧
      ∀ r, s.titles[t] = some r →
        (32 ≤ r.chapters.length → exec (.chapterCreate p ps) s = Refuses p .chapterCreate .titleFull s) ∧
        (r.chapters.length < 32 → (∀ c : ChapterId, s.chapters[c] ≠ none) →
          exec (.chapterCreate p ps) s = Refuses p .chapterCreate .noRecord s) ∧
        ∀ (c : ChapterId) (q : Nat), r.chapters.length < 32 → s.chapters[c] = none →
          (∀ d : ChapterId, d < c → s.chapters[d] ≠ none) → q = max 1 (min (r.chapters.length + 1) b.toNat) →
          exec (.chapterCreate p ps) s =
            Responds p .chapterCreate (if q = b.toNat then .accepted else .clamped) (u8 c.val ++ u8 q) s
              (broadcast (notice .chapterState c.val 1 0)
                (reorder t (r.chapters.take (q - 1) ++ c :: r.chapters.drop (q - 1))
                  (setChapter c (some ⟨t, q, .assembling, some p, Vector.replicate 32 Step.blank, 0, none, false, none⟩) s)))

/-- TITLE_INFO and CHAPTER_INFO report the record and change nothing (R22, R23, R24); a title that is not defined is
refused with NO_TITLE, a free record with NO_RECORD. A title's duration and a chapter's title offset are the sum of
the output sample counts of the chapters concerned, known when each of them is RENDERED or PUBLISHED. TAKE_INFO and
LEVELS report and change nothing (R40, R41): the take's summary with a page of its marks or with its measures,
NO_RECORD for a free record, and the four live level entries. STORE_INFO and QUEUE_INFO report and change nothing
(R83, R93). -/
def Obligations.ReportsChangeNothing : Prop :=
  ((∀ (s : State) (p : Port) (t : TitleNo), Takes s p .titleInfo (u8 t.val) →
      (s.titles[t] = none → exec (.titleInfo p (u8 t.val)) s = Refuses p .titleInfo .noTitle s) ∧
      ∀ r, s.titles[t] = some r → exec (.titleInfo p (u8 t.val)) s = Responds p .titleInfo .accepted
        (u8 t.val ++ u8 r.rate.val ++ u8 r.profile.val ++ u8 (flag r.auto) ++ u8 r.chapters.length ++ u8 r.takeCount ++
          r.chapters.flatMap (fun c => u8 c.val) ++ u32 (reportedTotal (samplesTotal s r.chapters))) s s) ∧
    (∀ (s : State) (p : Port) (c : ChapterId), Takes s p .chapterInfo (u8 c.val) →
      (s.chapters[c] = none → exec (.chapterInfo p (u8 c.val)) s = Refuses p .chapterInfo .noRecord s) ∧
      ∀ r, s.chapters[c] = some r → exec (.chapterInfo p (u8 c.val)) s = Responds p .chapterInfo .accepted
        (u8 c.val ++ u8 r.title.val ++ u8 r.position ++ u8 (chapterCode r.state) ++ u8 ((r.editor.map (·.val)).getD 255) ++
          u8 r.cursor ++ u8 (flag r.scriptCleared + 2 * flag r.assembled.isSome + 4 * flag r.result.isSome +
            8 * flag (ownedOutput r).isSome) ++
          u32 (r.assembled.getD 0) ++ u32 (reportedTotal (samplesTotal s ((chapterList s r.title).take (r.position - 1)))) ++
          (r.result.map resultBytes).getD []) s s) ∧
    (∀ (s : State) (cs : List ChapterId),
      (∀ c ∈ cs, ∃ r n, s.chapters[c] = some r ∧ (r.state = .rendered ∨ r.state = .published) ∧ r.assembled = some n) →
        samplesTotal s cs = some ((cs.map fun c => ((s.chapters[c].bind (·.assembled)).getD 0)).sum)) ∧
    ∀ (s : State) (cs : List ChapterId) (c : ChapterId), c ∈ cs →
      (∀ r, s.chapters[c] = some r → r.state ≠ .rendered ∧ r.state ≠ .published) → samplesTotal s cs = none) ∧
  ((∀ (s : State) (p : Port) (k : TakeId) (ps : List Byte) (i : Nat), ps = u8 k.val ++ u8 i → Takes s p .takeInfo ps →
      (s.takes[k] = none → (i ≤ 10 ∨ i = 255) → exec (.takeInfo p ps) s = Refuses p .takeInfo .noRecord s) ∧
      (10 < i → i < 255 → exec (.takeInfo p ps) s = Refuses p .takeInfo .badParam s) ∧
      ∀ r, s.takes[k] = some r →
        (i ≤ 10 → exec (.takeInfo p ps) s = Responds p .takeInfo .accepted
          (takeSummary k r (decide (6 * (i + 1) < r.marks.length)) ++ ((r.marks.drop (6 * i)).take 6).flatMap markBytes) s s) ∧
        (i = 255 → exec (.takeInfo p ps) s = Responds p .takeInfo .accepted
          (takeSummary k r false ++ s16 r.peak ++ u32 r.dropoutTotal ++ u16 r.chain.length ++
            u16 (r.chain.head?.getD 0xFFFF) ++ u16 (r.chain.getLast?.getD 0xFFFF)) s s)) ∧
    ∀ (s : State) (p : Port), Takes s p .levels [] →
      exec (.levels p []) s = Responds p .levels .accepted
        (levelBytes s 0 ++ levelBytes s 1 ++ levelBytes s 2 ++ levelBytes s 3) s s) ∧
  (∀ (s : State) (p : Port), Takes s p .storeInfo [] → exec (.storeInfo p []) s = Responds p .storeInfo .accepted
    (u16 s.store.erased.length ++ u16 s.store.dirty.length ++
      u8 (match s.store.array with
        | .erasing _ .background _ => 1
        | .erasing _ (.builtIn (.stream _)) _ => 2
        | .erasing _ (.builtIn (.lane _)) _ => 3
        | _ => 0) ++
      u16 ((List.finRange 128).map fun k => (takeChain s k).length).sum ++
      u16 ((List.finRange 64).map fun c => (outputChain s c).length).sum ++
      u8 (flag s.store.sweep + 2 * flag (decide (freeCount s.store ≤ 64)))) s s) ∧
  ∀ (s : State) (p : Port), Takes s p .queueInfo [] → exec (.queueInfo p []) s = Responds p .queueInfo .accepted
    (u8 s.queue.length ++ s.queue.flatMap (fun e => u8 e.chapter.val ++ u8 (e.origin.val + 4 * originCode e.kind)) ++
      laneBytes s.lanes[(0 : Lane)] ++ laneBytes s.lanes[(1 : Lane)]) s s

/-- CHAPTER_OPEN on an ASSEMBLING or a PUBLISHED chapter (R15). CHAPTER_OPEN on a chapter in another state returns
it to ASSEMBLING with the requester as editor and the cursor at 0; its script stays, its assembled length and its
result group go, the references it held are released, it leaves the queue and the lanes, and its notice is posted to
every subscriber with a place. The blocks of its running job and of its own output join the tail of the DIRTY pool,
and every stream on its output becomes DETACHED. Titles, profiles and the live level entries stay, and so do every
other chapter's script, cursor and position (R16, R10, R67, R180). -/
def Obligations.ChapterOpenRequest : Prop :=
  (∀ (s : State) (p : Port) (c : ChapterId), Takes s p .chapterOpen (u8 c.val) →
      (s.chapters[c] = none → exec (.chapterOpen p (u8 c.val)) s = Refuses p .chapterOpen .noRecord s) ∧
      ∀ r, s.chapters[c] = some r →
        (r.state = .assembling → r.editor = some p →
          exec (.chapterOpen p (u8 c.val)) s = Responds p .chapterOpen .accepted [] s s) ∧
        (r.state = .assembling → r.editor = none → exec (.chapterOpen p (u8 c.val)) s =
          Responds p .chapterOpen .accepted [] s (setChapter c (some { r with editor := some p }) s)) ∧
        (∀ q, r.state = .assembling → r.editor = some q → q ≠ p →
          exec (.chapterOpen p (u8 c.val)) s = Refuses p .chapterOpen .held s) ∧
        (r.state = .published → exec (.chapterOpen p (u8 c.val)) s = Refuses p .chapterOpen .locked s)) ∧
  ∀ (s : State) (p : Port) (c : ChapterId) (r : Chapter), Takes s p .chapterOpen (u8 c.val) → s.chapters[c] = some r →
    r.state ≠ .assembling → r.state ≠ .published → QueueLaw s →
      ∃ u t, t = settle u ∧ exec (.chapterOpen p (u8 c.val)) s = Responds p .chapterOpen .accepted [] s t ∧
        u.store.dirty = s.store.dirty ++ heldBlocks s c ∧ u.store.erased = s.store.erased ∧
        (∀ q : Port, ownedOutput r ≠ none → activeSource s.ports[q] = some (.output c) → t.ports[q].stream = .detached) ∧
        t.chapters[c] = some { r with state := .assembling, editor := some p, cursor := 0, assembled := none, result := none } ∧
        NotHeld t c ∧ t.titles = s.titles ∧ t.profiles = s.profiles ∧ t.levels = s.levels ∧
        (∀ q : Port, s.ports[q].subs.getLsbD 0 = true → s.ports[q].notices.length < 16 →
          s.ports[q].notices ++ [notice .chapterState c.val 1 1] <+: t.ports[q].notices) ∧
        (∀ d : ChapterId, t.chapters[d].map (fun x => (x.slots, x.cursor, x.title, x.position)) =
          if d = c then some (r.slots, 0, r.title, r.position)
          else s.chapters[d].map fun x => (x.slots, x.cursor, x.title, x.position)) ∧
        ∀ k : TakeId, t.takes[k].map (fun x => (x.state, x.length, x.refs)) =
          s.takes[k].map fun x => (x.state, x.length, if k ∈ namedTakes r.slots then x.refs - 1 else x.refs)

/-- CHAPTER_CLOSE: its refusals, SCRIPT_BAD with the failing step, its reason and its value, and what a valid close
leaves before a lane takes the new entry: the assembled length, the references, the claim, the state, the entry and
the notice (R17, R18, R53); the payload gives the assembled length in four bytes (DESIGN CHOICE, log 28). -/
def Obligations.ChapterCloseRequest : Prop :=
  ∀ (s : State) (p : Port) (c : ChapterId), Takes s p .chapterClose (u8 c.val) →
    (s.chapters[c] = none → exec (.chapterClose p (u8 c.val)) s = Refuses p .chapterClose .noRecord s) ∧
    ∀ r, s.chapters[c] = some r →
      (r.state ≠ .assembling → exec (.chapterClose p (u8 c.val)) s = Refuses p .chapterClose .wrongState s) ∧
      (r.state = .assembling → r.editor ≠ some p →
        exec (.chapterClose p (u8 c.val)) s = Refuses p .chapterClose .notEditor s) ∧
      (∀ e, r.state = .assembling → r.editor = some p → validate s r.title r.slots = .error e →
        exec (.chapterClose p (u8 c.val)) s =
          Responds p .chapterClose .scriptBad (u8 e.step ++ u8 e.reason ++ u32 e.value) s s) ∧
      ∀ (total : Nat) (u : State), r.state = .assembling → r.editor = some p → validate s r.title r.slots = .ok total →
        u = takeReferences (namedTakes r.slots)
          (setChapter c (some { r with assembled := some total, editor := none }) s) →
        (autoTitle s r.title = false → ∃ t, t = settle (enterState c .ready .closed u) ∧
          exec (.chapterClose p (u8 c.val)) s = Responds p .chapterClose .accepted (u8 (stateCode t c) ++ u32 total) s t) ∧
        (autoTitle s r.title = true → s.queue.length < 16 →
          ∃ t, t = settle (lanesTake (enterState c .queued .autoQueued (setQueue (s.queue ++ [⟨c, p, .auto⟩]) u))) ∧
            exec (.chapterClose p (u8 c.val)) s =
              Responds p .chapterClose .accepted (u8 (stateCode t c) ++ u32 total) s t) ∧
        (autoTitle s r.title = true → 16 ≤ s.queue.length → ∃ t, t = settle (enterState c .ready .autoSkipped u) ∧
          exec (.chapterClose p (u8 c.val)) s = Responds p .chapterClose .accepted (u8 (stateCode t c) ++ u32 total) s t)

/-- What validation finds at one step (R54, R55, R56): NO_TAKE, OTHER_TITLE, TAKE_OPEN, RANGE and BAD_XF in this
order, each with its value, or nothing. Validation at close walks the steps in slot order and answers the first
failure: these checks of each step, then the whole-script checks; on success it answers the sum of the net
contributions (R53 to R57, R61). -/
def Obligations.ValidationFindsFirstFailure : Prop :=
  (∀ (s : State) (title : TitleNo) (before : Option Nat) (st : Step),
    (s.takes[st.take] = none → stepBad s title before st = some (1, st.take.val)) ∧
    ∀ (r : Take) (len : Nat) (range : Prop), s.takes[st.take] = some r → len = (if st.kind = .tone then st.fill else st.len) →
      (range ↔ 2 ^ 28 - 1 < st.start ∨ 2 ^ 28 - 1 < st.len ∨ st.len = 0 ∨ r.length < st.start + st.len ∨
        (st.kind = .tone ∧ (2 ^ 28 - 1 < st.fill ∨ st.fill = 0))) →
      (r.title ≠ title → stepBad s title before st = some (2, r.title.val)) ∧
      (r.title = title → r.state ≠ .closed → stepBad s title before st = some (3, r.length)) ∧
      (r.title = title → r.state = .closed → range → stepBad s title before st = some (4, r.length)) ∧
      (r.title = title → r.state = .closed → ¬range →
        (before = none → 0 < st.xf → stepBad s title before st = some (5, 0)) ∧
        (∀ n, before = some n → len < st.xf → stepBad s title before st = some (5, len)) ∧
        (∀ n, before = some n → st.xf ≤ len → n < st.xf → stepBad s title before st = some (5, n)) ∧
        (before = none → st.xf = 0 → stepBad s title before st = none) ∧
        (∀ n, before = some n → st.xf ≤ len → st.xf ≤ n → stepBad s title before st = none))) ∧
  ∀ (s : State) (title : TitleNo) (slots : Vector Step 32) (steps : List Step) (before : Nat → Option Nat) (n : Nat),
    steps = scriptSteps slots → n = (steps.map netContribution).sum →
    before = (fun k => if k = 0 then none else (steps[k - 1]?).map netContribution) →
      (∀ (k : Nat) (st : Step) (reason value : Nat), steps[k]? = some st →
        stepBad s title (before k) st = some (reason, value) →
        (∀ j st', j < k → steps[j]? = some st' → stepBad s title (before j) st' = none) →
          validate s title slots = .error ⟨k, reason, value⟩) ∧
      ((∀ j st', steps[j]? = some st' → stepBad s title (before j) st' = none) →
        (steps = [] → validate s title slots = .error ⟨0, 6, 0⟩) ∧
        (steps ≠ [] → n < blockLength (titleRate s title) → validate s title slots = .error ⟨steps.length, 7, n⟩) ∧
        (steps ≠ [] → blockLength (titleRate s title) ≤ n → 2 ^ 28 < n →
          validate s title slots = .error ⟨steps.length, 8, min n 0xFFFFFFFF⟩) ∧
        (steps ≠ [] → blockLength (titleRate s title) ≤ n → n ≤ 2 ^ 28 → validate s title slots = .ok n))

/-- CHAPTER_DISCARD: its refusals, and the freed record with its notice to every subscriber with a place; the
chapter leaves the queue, the lanes and its title's list, the references it held are released, the blocks of its
running job and of its own output join the tail of the DIRTY pool, and every stream on its output becomes DETACHED
(R19, R10, R67, R180). CHAPTER_MOVE: the chapter takes the clamped position in its title's list, and no notice is
posted (R20). -/
def Obligations.ChapterDiscardAndMove : Prop :=
  (∀ (s : State) (p : Port) (c : ChapterId), Takes s p .chapterDiscard (u8 c.val) →
      (s.chapters[c] = none → exec (.chapterDiscard p (u8 c.val)) s = Refuses p .chapterDiscard .noRecord s) ∧
      ∀ r, s.chapters[c] = some r →
        (r.state = .published → exec (.chapterDiscard p (u8 c.val)) s = Refuses p .chapterDiscard .locked s) ∧
        (∀ q, r.state = .assembling → r.editor = some q → q ≠ p →
          exec (.chapterDiscard p (u8 c.val)) s = Refuses p .chapterDiscard .notEditor s) ∧
        (QueueLaw s → r.state ≠ .published → (r.state = .assembling → r.editor = none ∨ r.editor = some p) →
          ∃ u t, t = settle u ∧ exec (.chapterDiscard p (u8 c.val)) s = Responds p .chapterDiscard .accepted [] s t ∧
            u.store.dirty = s.store.dirty ++ heldBlocks s c ∧ u.store.erased = s.store.erased ∧
            (∀ q : Port, ownedOutput r ≠ none → activeSource s.ports[q] = some (.output c) →
              t.ports[q].stream = .detached) ∧
            t.chapters[c] = none ∧ NotHeld t c ∧ t.profiles = s.profiles ∧ t.levels = s.levels ∧
            (∀ q : Port, s.ports[q].subs.getLsbD 0 = true → s.ports[q].notices.length < 16 →
              s.ports[q].notices ++ [notice .chapterState c.val 0 15] <+: t.ports[q].notices) ∧
            (∀ k : TakeId, t.takes[k].map (fun x => (x.state, x.length, x.refs)) = s.takes[k].map fun x =>
              (x.state, x.length, if r.state ≠ .assembling ∧ k ∈ namedTakes r.slots then x.refs - 1 else x.refs)) ∧
            ∀ k : TitleNo, t.titles[k] = s.titles[k].map fun x =>
              if k = r.title then { x with chapters := x.chapters.erase c } else x)) ∧
  ∀ (s : State) (p : Port) (c : ChapterId) (b : Byte) (ps : List Byte), ps = u8 c.val ++ [b] →
    Takes s p .chapterMove ps →
      (s.chapters[c] = none → exec (.chapterMove p ps) s = Refuses p .chapterMove .noRecord s) ∧
      ∀ (r : Chapter) (cs : List ChapterId) (q : Nat), s.chapters[c] = some r → cs = chapterList s r.title →
        q = max 1 (min cs.length b.toNat) →
        exec (.chapterMove p ps) s = Responds p .chapterMove (if q = b.toNat then .accepted else .clamped) (u8 q) s
          (reorder r.title ((cs.erase c).take (q - 1) ++ c :: (cs.erase c).drop (q - 1)) s)

/-- What the release of a source does. Every stream that reads it becomes DETACHED: its segments, its fetch and its
waiting read are gone, the counted bytes of a transaction are its own no more, a read in progress for it will be
discarded; every other port and every other part of the state stays (R80, R180, R181). A chapter's output released:
its chain joins the tail of the DIRTY pool in chain order, the result group keeps all but the output, and streams on
it are detached; a chapter without output changes nothing (R10, R67). A take freed: its record is free, its title's
take count falls, its chain joins the tail of the DIRTY pool, and streams on it are detached (R8, R67). -/
def Obligations.ReleasedSourceDetaches : Prop :=
  (∀ (s t : State) (src : StreamSource), t = detach src s →
    (∀ p : Port, (activeSource s.ports[p] = some src → t.ports[p] = { s.ports[p] with
        stream := .detached, xfer := (match s.ports[p].xfer with | .streamData held _ => .streamData held false | x => x) }) ∧
      (activeSource s.ports[p] ≠ some src → t.ports[p] = s.ports[p])) ∧
    (∀ (p : Port) (slot : Nat), s.store.array = .reading (.port p) false slot → activeSource s.ports[p] = some src →
      t.store = { s.store with array := .reading (.port p) true slot }) ∧
    ((∀ (p : Port) (slot : Nat), s.store.array = .reading (.port p) false slot → activeSource s.ports[p] ≠ some src) →
      t.store = s.store) ∧
    t.titles = s.titles ∧ t.takes = s.takes ∧ t.chapters = s.chapters ∧ t.captures = s.captures ∧ t.levels = s.levels ∧
    t.queue = s.queue ∧ t.lanes = s.lanes ∧ t.profiles = s.profiles) ∧
  (∀ (s : State) (c : ChapterId) (r : Chapter), s.chapters[c] = some r →
    (ownedOutput r = none → releaseOutput c s = s) ∧
    ∀ (o : Output) (t : State), ownedOutput r = some o → t = releaseOutput c s →
      t.chapters[c] = some { r with result := r.result.map fun g => { g with output := none } } ∧
      (∀ d : ChapterId, d ≠ c → t.chapters[d] = s.chapters[d]) ∧ t.store.dirty = s.store.dirty ++ o.chain ∧
      t.store.erased = s.store.erased ∧ t.store.array = (detach (.output c) s).store.array ∧
      t.ports = (detach (.output c) s).ports ∧ t.titles = s.titles ∧ t.takes = s.takes ∧ t.lanes = s.lanes ∧
      t.queue = s.queue) ∧
  ∀ (s t : State) (k : TakeId) (r : Take), s.takes[k] = some r → t = freeTake k s →
    t.takes[k] = none ∧ (∀ j : TakeId, j ≠ k → t.takes[j] = s.takes[j]) ∧ t.store.dirty = s.store.dirty ++ r.chain ∧
    t.store.erased = s.store.erased ∧ t.store.array = (detach (.take k) s).store.array ∧
    t.ports = (detach (.take k) s).ports ∧ t.chapters = s.chapters ∧
    ∀ n : TitleNo, t.titles[n] = s.titles[n].map fun x =>
      if n = r.title then { x with takeCount := x.takeCount - 1 } else x

/-! ### Scripts -/

/-- SCRIPT_POINT by the editor sets the cursor to the value sent, or to 31 and answers CLAMPED above 31; no slot
changes (R48). SCRIPT_READ by the editor answers the cursor and the step in its slot and advances the cursor; at a
cursor of 32 it answers 32 with a blank END step, and the cursor stays (R51). -/
def Obligations.ScriptPointAndRead : Prop :=
  (∀ (s : State) (p : Port) (c : ChapterId) (b : Byte) (r : Chapter) (ps : List Byte), ps = u8 c.val ++ [b] →
     Takes s p .scriptPoint ps → s.chapters[c] = some r → r.state = .assembling → r.editor = some p →
       (b.toNat ≤ 31 → exec (.scriptPoint p ps) s =
         Responds p .scriptPoint .accepted (u8 b.toNat) s (setChapter c (some { r with cursor := b.toNat }) s)) ∧
       (32 ≤ b.toNat → exec (.scriptPoint p ps) s =
         Responds p .scriptPoint .clamped (u8 31) s (setChapter c (some { r with cursor := 31 }) s))) ∧
  ∀ (s : State) (p : Port) (c : ChapterId) (r : Chapter), Takes s p .scriptRead (u8 c.val) → s.chapters[c] = some r →
    r.state = .assembling → r.editor = some p →
      (∀ h : r.cursor < 32, exec (.scriptRead p (u8 c.val)) s =
        Responds p .scriptRead .accepted (u8 r.cursor ++ stepBytes (r.slots[r.cursor]'h)) s
          (setChapter c (some { r with cursor := r.cursor + 1 }) s)) ∧
      (r.cursor = 32 → exec (.scriptRead p (u8 c.val)) s =
        Responds p .scriptRead .accepted (u8 32 ++ List.replicate 17 0) s s)

/-- SCRIPT_WRITE by the editor stores the step sent, its fields treated by its kind, in the slot at the cursor, and
advances the cursor; at a cursor of 32 it is refused with SCRIPT_FULL (R49, R50). An END step is stored with every
field 0, whatever values were sent, a take byte above 127 included (R50). -/
def Obligations.ScriptWriteStoresStep : Prop :=
  ∀ (s : State) (p : Port) (c : ChapterId) (r : Chapter) (kind : StepKind) (sent : Byte) (take : TakeId) (a l n : Word32)
    (xf : BitVec 16) (trim : BitVec 8) (st : Step) (ps : List Byte),
    (kind = .finish ∨ sent.toNat = take.val) →
    ps = u8 c.val ++ u8 (stepCode kind) ++ [sent] ++ u32 a.toNat ++ u32 l.toNat ++ u32 n.toNat ++ u16 xf.toNat ++ [trim] →
    st = (match kind with
      | .finish => Step.blank
      | .splice => ⟨.splice, take, a.toNat, l.toNat, 0, min xf.toNat 9600, max (-120) (min 120 trim.toInt)⟩
      | .tone => ⟨.tone, take, a.toNat, l.toNat, n.toNat, min xf.toNat 9600, max (-120) (min 120 trim.toInt)⟩) →
    Takes s p .scriptWrite ps → s.chapters[c] = some r → r.state = .assembling → r.editor = some p →
      (32 ≤ r.cursor → exec (.scriptWrite p ps) s = Refuses p .scriptWrite .scriptFull s) ∧
      ∀ h : r.cursor < 32, exec (.scriptWrite p ps) s =
        Responds p .scriptWrite
          (if kind ≠ .finish ∧ (9600 < xf.toNat ∨ trim.toInt < -120 ∨ 120 < trim.toInt) then .clamped else .accepted)
          (u8 r.cursor ++ stepBytes st) s
          (setChapter c (some { r with slots := r.slots.set r.cursor st h, cursor := r.cursor + 1 }) s)

/-! ### Captures -/

/-- TAKE_START: its refusals in order, and the take, the stream and the live level entry it opens on the lowest free
id (R8, R27). GATE_SET replaces A, B and INC between two samples; a write of another gate value records a mark at
the take's length with the stream position (R30, R31). -/
def Obligations.TakeStartAndGateSet : Prop :=
  (∀ (s : State) (p : Port) (title : TitleNo) (g : Gate) (a b inc : Word32) (ps : List Byte),
     ps = u8 title.val ++ u8 (gateCode g) ++ u32 a.toNat ++ u32 b.toNat ++ u32 inc.toNat → Takes s p .takeStart ps →
       (s.captures[p] ≠ none → exec (.takeStart p ps) s = Refuses p .takeStart .capturing s) ∧
       (s.captures[p] = none → s.titles[title] = none → exec (.takeStart p ps) s = Refuses p .takeStart .noTitle s) ∧
       ∀ r, s.captures[p] = none → s.titles[title] = some r →
         ((∀ k : TakeId, s.takes[k] ≠ none) → exec (.takeStart p ps) s = Refuses p .takeStart .noRecord s) ∧
         ∀ k : TakeId, s.takes[k] = none → (∀ j : TakeId, j < k → s.takes[j] ≠ none) →
           exec (.takeStart p ps) s = Responds p .takeStart .accepted (u8 k.val) s
             (modLevel p (fun _ => ⟨true, some k, g, -900, -900, 0⟩)
               (setStream p (some ⟨k, false, 0, false, g, a, b, inc, [], none, 0, 0, 0, 0⟩)
                 (setTake k (some ⟨title, .capturing, some p, 0, -900, false, false, none, 0, [], [], 0⟩)
                   (setTitle title (some { r with takeCount := r.takeCount + 1 }) s))))) ∧
  ∀ (s : State) (p : Port) (a b inc : Word32) (w : Option Gate) (ps : List Byte),
    ps = u32 a.toNat ++ u32 b.toNat ++ u32 inc.toNat ++ u8 ((w.map gateCode).getD 255) → Takes s p .gateSet ps →
      ((∀ st, s.captures[p] = some st → st.closing = true) → exec (.gateSet p ps) s = Refuses p .gateSet .notCapturing s) ∧
      ∀ (st : Stream) (r : Take) (u : State), s.captures[p] = some st → st.closing = false → s.takes[st.take] = some r →
        u = setStream p (some { st with a := a, b := b, inc := inc, gate := w.getD st.gate }) s →
        (w = none → exec (.gateSet p ps) s =
          Responds p .gateSet .accepted (u32 st.pos.toNat ++ u8 (gateCode st.gate)) s u) ∧
        ∀ g, w = some g → exec (.gateSet p ps) s =
          Responds p .gateSet .accepted (u32 st.pos.toNat ++ u8 (gateCode g)) s
            (let v := modLevel p (fun e => { e with gate := g }) u
             if g = st.gate then v
             else setTake st.take (some (appendMark
               ⟨if g = .opened then .cutIn else .cutOut, r.length, st.pos.toNat⟩ r)) v)

/-- A stop of a CAPTURING stream: the gate is SHUT without a mark, in the stream and in the live level entry (R39;
that a stop is a gate change of the entry is DEDUCED, log 16), an open dropout run ends with its mark and its
notice, the reason is set, and the take becomes CLOSING, or CLOSED at once where nothing is left to drain (R33,
R38). TAKE_STOP: refused where the slot is not CAPTURING; otherwise the stop of R38 with reason REQUESTED, answered
with the take, its state code after the stop, and its length (R37). TAKE_RETIRE: its refusals in order; otherwise
the record is freed, its title's take count falls, its blocks are released in chain order, and streams on it are
detached (R8, R42). -/
def Obligations.TakeStopAndRetire : Prop :=
  (∀ (s t : State) (p : Port) (st : Stream) (r r' : Take) (reason : StopReason), s.captures[p] = some st →
      s.takes[st.take] = some r → t = stopStream p reason s →
      r' = (match st.run with
        | none => r
        | some n => appendMark ⟨.dropout, r.length, n⟩ r) →
        (st.fifo = [] → inStore (.stream p) s.store = false →
          t.captures[p] = none ∧ t.takes[st.take] = some { r' with state := .closed, port := none, stopReason := some reason } ∧
            t.levels[p] = { s.levels[p] with present := false, gate := .shut }) ∧
        (¬(st.fifo = [] ∧ inStore (.stream p) s.store = false) →
          t.captures[p] = some { st with gate := .shut, run := none, closing := true } ∧
            t.takes[st.take] = some { r' with state := .closing, stopReason := some reason } ∧
            t.levels[p] = { s.levels[p] with gate := .shut }) ∧
        t.ports[p].notices = (((match st.run with
            | none => s.ports[p]
            | some n => pushNotice (notice .dropout st.take.val 1 n) s.ports[p]) |>
          fun ps => if st.fifo = [] ∧ inStore (.stream p) s.store = false then
            pushNotice (notice .takeClosed st.take.val (stopCode reason) r.length) ps else ps)).notices ∧
        t.store = s.store ∧ t.titles = s.titles ∧ t.chapters = s.chapters ∧
        (∀ q : Port, q ≠ p → t.captures[q] = s.captures[q] ∧ t.levels[q] = s.levels[q] ∧ t.ports[q] = s.ports[q]) ∧
        ∀ k : TakeId, k ≠ st.take → t.takes[k] = s.takes[k]) ∧
  (∀ (s : State) (p : Port), Takes s p .takeStop [] →
      ((∀ st, s.captures[p] = some st → st.closing = true) → exec (.takeStop p []) s = Refuses p .takeStop .notCapturing s) ∧
      ∀ st r, s.captures[p] = some st → st.closing = false → s.takes[st.take] = some r →
        exec (.takeStop p []) s = Responds p .takeStop .accepted
          (u8 st.take.val ++ u8 (if st.fifo = [] ∧ inStore (.stream p) s.store = false then 3 else 2) ++ u32 r.length) s
          (settle (stopStream p .requested s))) ∧
  ∀ (s : State) (p : Port) (k : TakeId), Takes s p .takeRetire (u8 k.val) →
    (s.takes[k] = none → exec (.takeRetire p (u8 k.val)) s = Refuses p .takeRetire .noRecord s) ∧
    ∀ r, s.takes[k] = some r →
      (r.state ≠ .closed → exec (.takeRetire p (u8 k.val)) s = Refuses p .takeRetire .busy s) ∧
      (r.state = .closed → 0 < r.refs → exec (.takeRetire p (u8 k.val)) s = Refuses p .takeRetire .inUse s) ∧
      (r.state = .closed → r.refs = 0 → exec (.takeRetire p (u8 k.val)) s = Responds p .takeRetire .accepted [] s
        (settle (setTake k none (detach (.take k) (release r.chain
          (modTitle r.title (fun x => { x with takeCount := x.takeCount - 1 }) s))))))

/-- A CAPTURE transaction from its transaction byte to its end (R28). The transaction byte ends an earlier
transaction and fixes the free FIFO space, 0 with no CAPTURING stream. The count byte announces 1 to 256 samples and
notes what it finds (the moment at which subject and detail are read is the model's choice, log 20). With the count
byte the port has sent the first byte of the free space; the second and then 0x00 follow with the samples
(CaptureSampleIsGated) and with a trailing incomplete sample, which has no other effect. The end posts CAPTURE_IGNORED with the samples discarded
where the count byte found the slot NONE or CLOSING, and nothing where the count byte never came. -/
def Obligations.CaptureTransaction : Prop :=
  (∀ (s t : State) (p : Port), t = ended p s →
    (∀ st, t.captures[p] = some st → st.closing = false → exec (.capture p .opens) s =
      .next (setTransfer p (.captureOpened (4096 - st.fifo.length)) (setSent p [] t))) ∧
    ((∀ st, t.captures[p] = some st → st.closing = true) → exec (.capture p .opens) s =
      .next (setTransfer p (.captureOpened 0) (setSent p [] t)))) ∧
  (∀ (s u : State) (p : Port) (count : Byte) (free announced : Nat), s.ports[p].xfer = .captureOpened free →
    announced = (if count = 0 then 256 else count.toNat) →
    u = setSent p (clockedOut (s.ports[p].sent.length + 1) (u16 free)) s →
      (∀ st, s.captures[p] = some st → st.closing = false → exec (.capture p (.acts count)) s =
        .next (attend s (setTransfer p (.capture free announced 0 none 0) u))) ∧
      (∀ st, s.captures[p] = some st → st.closing = true → exec (.capture p (.acts count)) s =
        .next (attend s (setTransfer p (.capture free announced 0 (some (BitVec.ofNat 8 st.take.val, 1)) 0) u))) ∧
      (s.captures[p] = none → exec (.capture p (.acts count)) s =
        .next (attend s (setTransfer p (.capture free announced 0 (some (0xFF, 0)) 0) u)))) ∧
  (∀ (s : State) (p : Port) (free n : Nat), s.ports[p].xfer = .captureOpened free →
    exec (.captureEnd ⟨p, n⟩) s = .next (attend s (setTransfer p .none s))) ∧
  ∀ (s u : State) (p : Port) (free announced arrived discarded n : Nat) (found : Option (Byte × BitVec 16)),
    s.ports[p].xfer = .capture free announced arrived found discarded →
    u = setSent p (clockedOut (s.ports[p].sent.length + n) (u16 free)) s →
      (found = none → exec (.captureEnd ⟨p, n⟩) s = .next (attend s (setTransfer p .none u))) ∧
      ∀ subject detail, found = some (subject, detail) → exec (.captureEnd ⟨p, n⟩) s =
        .next (attend s (setTransfer p .none
          (notify p ⟨.captureIgnored, subject, detail, BitVec.ofNat 32 discarded⟩ u)))

/-- The compare unit at an arriving sample (R29): A first, then B with its value after the first match; each match
toggles the gate and advances the other value where INC is not 0. The table of R29, row by row. A sample of a
CAPTURE transaction, within its announced count, on a CAPTURING port (R29, R30, R32, R33, R36, R39): the compare
unit's gate decides; a gated-out sample only moves the position; a kept one joins the FIFO and the take, ends a
dropout run and is metered, its block completed when the block count reaches N; one that finds the FIFO full is
dropped into the dropout run. A sample that meets a limit stops the stream in its own event, with its TAKE_STOPPED
notice, TAKE_FULL before POSITION_LIMIT. The store's consequences follow in the same event. On a slot that is NONE
or CLOSING the sample is counted as discarded and has no other effect; three bytes after the announced count are
ignored (R28). That the position, and with it the live level entry's, advances at a sample that ends in TAKE_FULL too
is the model's choice (DEDUCED, unsafe, log 16). -/
def Obligations.CaptureSampleIsGated : Prop :=
  (∀ st : Stream,
      (st.a = st.pos → st.b ≠ st.pos → st.b + st.inc ≠ st.pos →
        compared st = (toggled st.gate, st.a, st.b + st.inc)) ∧
      (st.a = st.pos → st.inc = 0 → st.b = st.pos → compared st = (st.gate, st.a, st.b)) ∧
      (st.a = st.pos → st.inc ≠ 0 → st.b = st.pos → compared st = (toggled st.gate, st.a, st.pos + st.inc)) ∧
      (st.a ≠ st.pos → st.b = st.pos → compared st = (toggled st.gate, st.a + st.inc, st.b)) ∧
      (st.a = st.pos → st.inc ≠ 0 → st.b + st.inc = st.pos → compared st = (st.gate, st.pos + st.inc, st.pos)) ∧
      (st.a ≠ st.pos → st.b ≠ st.pos → compared st = (st.gate, st.a, st.b))) ∧
  (∀ (s : State) (p : Port) (low middle high : Byte) (x : Int) (free announced arrived discarded : Nat)
    (found : Option (Byte × BitVec 16)) (st : Stream) (r r' : Take) (g : Gate) (kept dropped last : Bool)
    (closed : Option Nat) (energy count n length : Nat),
    s.ports[p].xfer = .capture free announced arrived found discarded → arrived < announced → s.captures[p] = some st →
    st.closing = false → s.takes[st.take] = some r → x = (high ++ middle ++ low).toInt →
    g = (compared st).1 → kept = (g == .opened && decide (st.fifo.length < 4096)) →
    dropped = (g == .opened && decide (4096 ≤ st.fifo.length)) → closed = (if kept then st.run else none) →
    r' = (if g = st.gate then r else gateMark g st.pos r) → last = (st.pos == BitVec.allOnes 32) →
    energy = (if kept then st.energy + energyOf (x - shiftRight (15 * st.prev) 4) else st.energy) →
    count = (if kept then st.count + 1 else st.count) → n = blockLength (titleRate s r.title) →
    length = (if kept then r.length + 1 else r.length) →
      ∃ u, exec (.captureSample p (low, middle, high)) s = .next (commit s (
          if 2 ^ 28 ≤ length then notify p (notice .takeStopped st.take.val 2 length) (stopStream p .takeFull u)
          else if last then notify p (notice .takeStopped st.take.val 3 length) (stopStream p .positionLimit u)
          else u)) ∧
        u.captures[p] = some { st with
          pos := if last then st.pos else st.pos + 1, atLimit := last, gate := g
          a := (compared st).2.1, b := (compared st).2.2
          fifo := if kept then st.fifo ++ [x] else st.fifo
          run := if kept then none else if dropped then some (st.run.getD 0 + 1) else st.run
          prev := if kept then x else st.prev
          energy := if n ≤ count then 0 else energy
          count := if n ≤ count then 0 else count
          largest := if kept then max st.largest x.natAbs else st.largest } ∧
        u.levels[p] = { s.levels[p] with
          gate := g, position := if last then st.pos else st.pos + 1
          peak := if kept then amplitudeCode (max st.largest x.natAbs) else s.levels[p].peak
          lastBlock := if n ≤ count then loudnessCode (energy / n) else s.levels[p].lastBlock } ∧
        u.takes[st.take] = some { (match closed with
            | none => r'
            | some k => appendMark ⟨.dropout, r.length, k⟩ r') with
          length := length
          peak := if kept then amplitudeCode (max st.largest x.natAbs) else r.peak
          dropout := r.dropout || dropped
          dropoutTotal := if dropped then min (2 ^ 32 - 1) (r.dropoutTotal + 1) else r.dropoutTotal } ∧
        u.ports[p] = { (match closed with
            | none => s.ports[p]
            | some k => pushNotice (notice .dropout st.take.val 0 k) s.ports[p]) with
          xfer := .capture free announced (arrived + 1) found discarded
          sent := clockedOut (s.ports[p].sent.length + 3) (u16 free) } ∧
        u.store = s.store ∧ u.titles = s.titles ∧ u.chapters = s.chapters ∧ u.queue = s.queue ∧ u.lanes = s.lanes ∧
        u.profiles = s.profiles ∧ u.pending = s.pending ∧
        (∀ k : TakeId, k ≠ st.take → u.takes[k] = s.takes[k]) ∧
        ∀ q : Port, q ≠ p → u.captures[q] = s.captures[q] ∧ u.levels[q] = s.levels[q] ∧ u.ports[q] = s.ports[q]) ∧
  ∀ (s : State) (p : Port) (low middle high : Byte) (free announced arrived discarded : Nat)
    (found : Option (Byte × BitVec 16)), s.ports[p].xfer = .capture free announced arrived found discarded →
      (arrived < announced → (∀ st, s.captures[p] = some st → st.closing = true) →
        exec (.captureSample p (low, middle, high)) s = .next (commit s (modPort p (fun ps => { ps with
          xfer := .capture free announced (arrived + 1) found (discarded + 1)
          sent := clockedOut (ps.sent.length + 3) (u16 free) }) s))) ∧
      (announced ≤ arrived → exec (.captureSample p (low, middle, high)) s =
        .next (setSent p (clockedOut (s.ports[p].sent.length + 3) (u16 free)) s))

/-- TAKE_FULL, POSITION_LIMIT, TAKE_CLOSED and LIVE_BLOCK where they are due (R36, R38, R39): a stop with its reason
and its TAKE_STOPPED notice; a drained take CLOSED with its TAKE_CLOSED notice; a full live block measured. A step
of the capture unit, of the store or of a lane that is not due changes nothing but what an event's end always does
(log 3): TAKE_FULL, POSITION_LIMIT, TAKE_CLOSED, LIVE_BLOCK, METER_BLOCK, MEASURE_END, ENCODE_END end in the store's
consequences alone; the completion of an operation that is not in progress, and a step of an IDLE lane, change
nothing at all. (BACKGROUND_ERASE_COMPLETE on an IDLE array is log 11.) -/
def Obligations.CaptureStepsWhenDue : Prop :=
  ((∀ (s : State) (p : Port) (st : Stream) (r : Take), s.captures[p] = some st → s.takes[st.take] = some r →
      st.closing = false → 2 ^ 28 ≤ r.length → exec (.takeFull p) s =
        .next (commit s (notify p (notice .takeStopped st.take.val 2 r.length) (stopStream p .takeFull s)))) ∧
    (∀ (s : State) (p : Port) (st : Stream) (r : Take), s.captures[p] = some st → s.takes[st.take] = some r →
      st.closing = false → st.atLimit = true → exec (.positionLimit p) s =
        .next (commit s (notify p (notice .takeStopped st.take.val 3 r.length) (stopStream p .positionLimit s)))) ∧
    (∀ (s : State) (p : Port) (st : Stream) (r : Take) (reason : StopReason), s.captures[p] = some st →
      s.takes[st.take] = some r → st.closing = true → st.fifo = [] → inStore (.stream p) s.store = false →
      r.stopReason = some reason → exec (.takeClosed p) s =
        .next (commit s (notify p (notice .takeClosed st.take.val (stopCode reason) r.length)
          (modLevel p (fun e => { e with present := false })
            (setStream p none (setTake st.take (some { r with state := .closed, port := none }) s)))))) ∧
    ∀ (s : State) (p : Port) (st : Stream) (r : Take), s.captures[p] = some st → s.takes[st.take] = some r →
      st.closing = false → blockLength (titleRate s r.title) ≤ st.count → exec (.liveBlock p) s =
        .next (commit s (modLevel p (fun e => { e with
            lastBlock := loudnessCode (st.energy / blockLength (titleRate s r.title)) })
          (setStream p (some { st with energy := 0, count := 0 }) s)))) ∧
  (∀ (s : State) (p : Port) (st : Stream) (r : Take), s.captures[p] = some st → s.takes[st.take] = some r →
    (r.length < 2 ^ 28 → exec (.takeFull p) s = .next (commit s s)) ∧
    (st.atLimit = false → exec (.positionLimit p) s = .next (commit s s)) ∧
    (st.closing = false ∨ st.fifo ≠ [] ∨ inStore (.stream p) s.store = true → exec (.takeClosed p) s = .next (commit s s)) ∧
    (st.count < blockLength (titleRate s r.title) → exec (.liveBlock p) s = .next (commit s s))) ∧
  (∀ (s : State) (p : Port), s.captures[p] = none → exec (.takeFull p) s = .next (commit s s) ∧
    exec (.positionLimit p) s = .next (commit s s) ∧ exec (.takeClosed p) s = .next (commit s s) ∧
    exec (.liveBlock p) s = .next (commit s s)) ∧
  (∀ s : State, s.store.array = .idle → exec .pageReadComplete s = .next s ∧ exec .capturePageProgrammed s = .next s ∧
    exec .outputPageProgrammed s = .next s ∧ exec .builtInEraseComplete s = .next s) ∧
  ∀ (s : State) (l : Lane), s.lanes[l] = none → exec (.measureSample l) s = .next s ∧ exec (.encodeFrame l) s = .next s ∧
    exec (.measureEnd l) s = .next (commit s s) ∧ exec (.encodeEnd l) s = .next (commit s s) ∧
    exec (.meterBlock l) s = .next (commit s s)

/-! ### The store -/

/-- PURGE frees every take, every stream, every job, every entry and every chapter that is not PUBLISHED; a
PUBLISHED chapter keeps its state, assembled length, result group and output with its script cleared; a title keeps
its PUBLISHED chapters, and is dropped when it has none (R84, R21, R44). Profiles stay. The blocks let go join the
tail of the DIRTY pool: each freed chapter's in ascending id, then each freed take's chain in ascending id; their
number stands in the payload (a script cleared already is not counted, R86). Before the store's consequences each
port gets its notices in order: TAKE_STOPPED with detail PURGED where it had a stream, then, where it subscribes,
CHAPTER_STATE with detail FREE and reason PURGED for each freed chapter, ascending (R84, R85, R44, R12). A stream on
a freed take or on a freed chapter's output becomes DETACHED, any other stays, those on PUBLISHED outputs among them
(R85, R180, R181). Of a source that is gone a LOADED page is dropped, a PROGRAMMING page completes for no source, a
built-in erase completes for no allocation, and a page read is discarded (R72, R79, R80, R85). -/
def Obligations.PurgeClearsTheWorkingArea : Prop :=
  ∀ (s : State) (p : Port) (freed : List ChapterId) (blocks : List Nat) (lost : Port → Bool),
    Takes s p .purge [] → PositionLaw s → QueueLaw s →
    freed = (List.finRange 64).filter (fun c => s.chapters[c].any fun r => r.state != .published) →
    blocks = freed.flatMap (heldBlocks s) ++ (List.finRange 128).flatMap (takeChain s) →
    (∀ q, lost q = (match s.ports[q].stream with
      | .active a => (match a.source with
        | .take k => s.takes[k].isSome
        | .output c => freed.contains c && (s.chapters[c].bind ownedOutput).isSome)
      | _ => false)) →
    ∃ payload u t, t = settle u ∧ exec (.purge p []) s = Responds p .purge .accepted payload s t ∧
      (∀ k : TakeId, t.takes[k] = none) ∧ (∀ q : Port, t.captures[q] = none) ∧ (∀ l : Lane, t.lanes[l] = none) ∧
      t.queue = [] ∧ t.profiles = s.profiles ∧
      (∀ q : Port, t.levels[q] =
        if s.captures[q] = none then s.levels[q] else { s.levels[q] with present := false }) ∧
      (∀ c : ChapterId, t.chapters[c].map (fun r => { r with position := 0 }) =
        (s.chapters[c].filter fun r => r.state == .published).map fun r =>
          { r with position := 0, slots := Vector.replicate 32 Step.blank, cursor := 0, scriptCleared := true }) ∧
      (∀ k : TitleNo, t.titles[k] = (s.titles[k].map fun r =>
          { r with takeCount := 0, chapters := r.chapters.filter fun c =>
              s.chapters[c].any fun x => x.state == .published }).filter fun r => r.chapters != []) ∧
      u.store.dirty = s.store.dirty ++ blocks ∧ u.store.erased = s.store.erased ∧
      (∀ q : Port, u.ports[q].stream = (if lost q then .detached else s.ports[q].stream) ∧
        u.ports[q].xfer = (if lost q then unlink s.ports[q].xfer else s.ports[q].xfer)) ∧
      (∀ src : Source, SourcePresent s src →
        (∀ (i : Fin 2) page bytes target, s.store.buffers[i] = .loaded src page bytes target → u.store.buffers[i] = .free) ∧
        (∀ (i : Fin 2) gone page slot bytes, s.store.buffers[i] = .programming src gone page slot bytes →
          u.store.buffers[i] = .programming src true page slot bytes) ∧
        ∀ b gone, s.store.array = .erasing b (.builtIn src) gone → u.store.array = .erasing b (.builtIn src) true) ∧
      (∀ l gone slot, s.lanes[l] ≠ none → s.store.array = .reading (.lane l) gone slot →
        u.store.array = .reading (.lane l) true slot) ∧
      (∀ q gone slot, s.store.array = .reading (.port q) gone slot →
        u.store.array = .reading (.port q) (gone || lost q) slot) ∧
      (∀ q : Port, ∃ first : PortState,
        first = (match s.captures[q] with
          | none => s.ports[q]
          | some st => pushNotice (notice .takeStopped st.take.val 4 (((s.takes[st.take]).map (·.length)).getD 0)) s.ports[q]) ∧
        (u.ports[q].notices, u.ports[q].lost) =
          (fun ps : PortState => (ps.notices, ps.lost)) (freed.foldl (fun ps c =>
            if s.ports[q].subs.getLsbD 0 then pushNotice (notice .chapterState c.val 0 16) ps else ps) first)) ∧
      payload = u8 ((List.finRange 128).filter fun k => s.takes[k].isSome).length ++ u8 freed.length ++
        u8 ((List.finRange 64).filter fun c => s.chapters[c].any fun r => r.state == .published && !r.scriptCleared).length ++
        u8 ((List.finRange 8).filter fun k => s.titles[k].isSome && t.titles[k].isNone).length ++ u16 blocks.length

/-- The completion of a page read hands the page to its reader, or discards it where the reader has gone (R68, R80):
a lane's page joins its read pages; a port's becomes the last segment of its read-ahead, from the cursor when it is
the first, to the end of the page or of the source (R176). The completion of a page program leaves the page with the
buffer's bytes, the buffer FREE and the array free; a capture page may close its take, an output's header page ends
the job, and a page whose source has gone does neither (R68, R77, R78, R79); the completion of the other kind of
page changes nothing (DESIGN CHOICE, log 3). The completion of an erase (R66, R68, R71, R72): the block reads as
0x00; after a background erase it joins the tail of the ERASED pool; after a built-in erase it goes to its owner's
chain, or to the ERASED pool where the allocation has gone. -/
def Obligations.ArrayOperationsComplete : Prop :=
  (∀ (s u : State) (who : Reader) (gone : Bool) (slot : Nat), s.store.array = .reading who gone slot →
      u = modStore (fun st => { st with array := .idle }) s →
        (gone = true → exec .pageReadComplete s = .next (commit s u)) ∧
        (∀ l j r, gone = false → who = .lane l → s.lanes[l] = some j → j.read = some r →
          exec .pageReadComplete s = .next (commit s (setLane l (some { j with
            pages := j.pages ++ [⟨r.step, r.page, readPage s.store.mem slot⟩], read := none }) u))) ∧
        ∀ p a f first, gone = false → who = .port p → s.ports[p].stream = .active a → a.fetch = some f →
          first = (if a.segments = [] then a.cursor else f.page * 3072) →
          exec .pageReadComplete s = .next (commit s (modPort p (fun ps => { ps with stream := .active { a with
            segments := a.segments ++ [⟨f.page, first,
              ((readPage s.store.mem slot).take (a.length - f.page * 3072)).drop (first - f.page * 3072)⟩]
            fetch := none } }) u))) ∧
  (∀ (s u : State) (i : Fin 2) (gone : Bool) (page slot : Nat) (bytes : List Byte), s.store.array = .programming i →
      u = modStore (fun st => { modBuffer i (fun _ => .free) st with
        array := .idle, mem := programPage st.mem slot bytes }) s →
        (∀ p, s.store.buffers[i] = .programming (.stream p) gone page slot bytes →
          exec .capturePageProgrammed s = .next (commit s (if gone then u else takeClosedDue p u)) ∧
            exec .outputPageProgrammed s = .next s) ∧
        ∀ l, s.store.buffers[i] = .programming (.lane l) gone page slot bytes →
          exec .outputPageProgrammed s = .next (commit s (if gone = false ∧ page = 0 then jobEnd l u else u)) ∧
            exec .capturePageProgrammed s = .next s) ∧
  ∀ (s u : State) (b : Nat) (gone : Bool),
    u = modStore (fun st => { st with array := .idle, mem := eraseBlock st.mem b }) s →
      (s.store.array = .erasing b .background gone → exec .backgroundEraseComplete s =
        .next (commit s (modStore (fun st => { st with erased := st.erased ++ [b] }) u))) ∧
      ∀ src, s.store.array = .erasing b (.builtIn src) gone →
        (gone = true → exec .builtInEraseComplete s =
          .next (commit s (modStore (fun st => { st with erased := st.erased ++ [b] }) u))) ∧
        (∀ p st r, gone = false → src = .stream p → s.captures[p] = some st → s.takes[st.take] = some r →
          exec .builtInEraseComplete s =
            .next (commit s (setTake st.take (some { r with chain := r.chain ++ [b] })
              (modStore (setTarget src .placed) u)))) ∧
        ∀ l j, gone = false → src = .lane l → s.lanes[l] = some j →
          exec .builtInEraseComplete s =
            .next (commit s (setLane l (some { j with blocks := j.blocks ++ [b] }) (modStore (setTarget src .placed) u)))

/-- PAGE_LOAD takes the next offered page into a FREE buffer, a capture page before an output page, and among
several streams, as among the lanes, the first after the one last loaded (the cycle's point of departure is DEDUCED,
unsafe, log 13), and WAITING_ALLOCATION_SERVED gives the oldest ERASED block to the first allocation that waits, a
capture stream's before a lane's; where neither is due, nothing changes (DESIGN CHOICE, log 3) (R73, R74, R75). A
release sends the chain to the tail of the DIRTY pool in chain order and raises the free count by its length; an
allocation from the ERASED pool takes the oldest block into its owner's chain, a take's or a lane's, and lowers the
free count by one, posting STORE_LOW exactly when it falls from 65 to 64 (R66, R67, R73, R82). A loaded capture page
takes the oldest 1,024 samples out of the FIFO and holds their bytes; the first page of a block makes its
allocation, by R73's three cases, and no other does (R75, R77). A loaded output page empties the assembly page,
makes its allocation where it needs a block, by R74's first three cases, and lets the bytes that waited with their
frame be placed, after which the pass may end (R78, R100, R101). That the allocation is judged first, so that one that
fails leaves no bytes placed and no pass ended, is the model's choice (DESIGN CHOICE, unsafe, log 21). -/
def Obligations.LoadsAndPools : Prop :=
  (∀ s : State,
      (∀ i, freeBuffer s.store = some i →
        (∀ p, (cycleAfter s.store.loadedStream).find? (streamOffers s) = some p →
          exec .pageLoad s = .next (commit s (loadStream p i s))) ∧
        (∀ l, (∀ p, streamOffers s p = false) → (cycleAfter s.store.loadedLane).find? (laneOffers s) = some l →
          exec .pageLoad s = .next (commit s (loadLane l i s))) ∧
        ((∀ p, streamOffers s p = false) → (∀ l, laneOffers s l = false) → exec .pageLoad s = .next s)) ∧
      (freeBuffer s.store = none → exec .pageLoad s = .next s) ∧
      (s.store.erased = [] → exec .waitingAllocationServed s = .next s) ∧
      (s.store.erased ≠ [] →
        (∀ p, (cycleAfter s.store.last1).find? (fun p => waitsForBlock (.stream p) s.store) = some p →
          exec .waitingAllocationServed s = .next (commit s (takeErased (.stream p) s))) ∧
        ∀ l, (∀ p, waitsForBlock (.stream p) s.store = false) →
          (cycleAfter s.store.last4).find? (fun l => waitsForBlock (.lane l) s.store) = some l →
          (16 < freeCount s.store → exec .waitingAllocationServed s = .next (commit s (takeErased (.lane l) s))) ∧
          (freeCount s.store ≤ 16 → exec .waitingAllocationServed s = .next (commit s (storeFull l s))))) ∧
  (∀ (s : State) (chain : List Nat), (release chain s).store.dirty = s.store.dirty ++ chain ∧
    (release chain s).store.erased = s.store.erased ∧
    freeCount (release chain s).store = freeCount s.store + chain.length) ∧
  (∀ (s t : State) (src : Source) (detail b : Nat) (rest : List Nat), s.store.erased = b :: rest →
    t = takeErased src s → detail = (match src with | .stream _ => 0 | .lane _ => 1) →
      (∀ p st r, src = .stream p → s.captures[p] = some st → s.takes[st.take] = some r →
        t.takes[st.take] = some { r with chain := r.chain ++ [b] } ∧ t.lanes = s.lanes) ∧
      (∀ l j, src = .lane l → s.lanes[l] = some j →
        t.lanes[l] = some { j with blocks := j.blocks ++ [b] } ∧ t.takes = s.takes) ∧
      (∀ i target, loadedBuffer src s.store = some (i, target) → loadedBuffer src t.store = some (i, .placed)) ∧
      t.store.erased = rest ∧ t.store.dirty = s.store.dirty ∧ freeCount t.store + 1 = freeCount s.store ∧
      ∀ q : Port, t.ports[q] = if freeCount s.store = 65 ∧ s.ports[q].subs.getLsbD 1 = true then
        pushNotice (notice .storeLow 255 detail 64) s.ports[q] else s.ports[q]) ∧
  (∀ (s t : State) (p : Port) (i : Fin 2) (st : Stream) (r : Take) (page : Nat) (bytes : List Byte),
    freeBuffer s.store = some i → streamOffers s p = true → s.captures[p] = some st → s.takes[st.take] = some r →
    page = (r.length - st.fifo.length) / 1024 →
    bytes = ((st.fifo.take 1024).flatMap sampleBytes) ++ List.replicate (3072 - 3 * min 1024 st.fifo.length) 0 →
    t = loadStream p i s →
      t.captures[p] = some { st with fifo := st.fifo.drop 1024 } ∧ t.store.loadedStream = p ∧
      (∀ q, q ≠ p → t.captures[q] = s.captures[q]) ∧ (∀ k, k ≠ i → t.store.buffers[k] = s.store.buffers[k]) ∧
      (page % 64 ≠ 0 → t.store.buffers[i] = .loaded (.stream p) page bytes .placed ∧ t.takes = s.takes ∧
        t.store.erased = s.store.erased ∧ t.ports = s.ports) ∧
      (page % 64 = 0 →
        (∀ b rest, s.store.erased = b :: rest → (∀ q, q ≠ p → allocating (.stream q) s.store = false) →
          t.store.buffers[i] = .loaded (.stream p) page bytes .placed ∧ t.store.erased = rest ∧
          t.takes[st.take] = some { r with chain := r.chain ++ [b] } ∧ t.ports = (takeErased (.stream p) s).ports) ∧
        (s.store.erased = [] → t.takes = s.takes ∧ t.ports = s.ports ∧
          t.store.buffers[i] = .loaded (.stream p) page bytes (if s.store.dirty = [] then .unposted else .posted)))) ∧
  ∀ (s t u : State) (l : Lane) (i : Fin 2) (j j' : Job) (page : Nat) (bytes : List Byte) (needs : Bool),
    freeBuffer s.store = some i → laneOffers s l = true → s.lanes[l] = some j → lanePage j = some (page, bytes) →
    needs = decide (page = 1 ∨ (page ≠ 0 ∧ page % 64 = 0) ∨ (page = 0 ∧ j.blocks = [])) →
    j' = (if page = 0 then j else { j with assembly := [], pageIndex := j.pageIndex + 1 }) →
    u = setLane l (some j') (modStore (fun st => { modBuffer i (fun _ => .loaded (.lane l) page bytes
      (if needs then .unposted else .placed)) st with loadedLane := l }) s) → t = loadLane l i s →
      (needs = false → t = encodeEndDue l (setLane l (some (placeBytes j.waiting j')) u)) ∧
      (needs = true → freeCount s.store ≤ 16 → t = storeFull l u) ∧
      (needs = true → 16 < freeCount s.store →
        (∀ b rest, s.store.erased = b :: rest → (∀ q, allocating (.stream q) s.store = false) →
          (∀ k, k ≠ l → allocating (.lane k) s.store = false) → ∃ v, t = encodeEndDue l v ∧
            v.store.buffers[i] = .loaded (.lane l) page bytes .placed ∧ v.store.erased = rest ∧
            v.lanes[l] = some (placeBytes j.waiting { j' with blocks := j.blocks ++ [b] }) ∧
            v.ports = (takeErased (.lane l) s).ports) ∧
        (s.store.erased = [] ∨ (∃ q, allocating (.stream q) s.store = true) ∨
          (∃ k, k ≠ l ∧ allocating (.lane k) s.store = true) → ∃ v, t = encodeEndDue l v ∧
            v.store.buffers[i] = .loaded (.lane l) page bytes .posted ∧ v.store.erased = s.store.erased ∧
            v.lanes[l] = some (placeBytes j.waiting j') ∧ v.ports = s.ports))

/-- The arbiter's choice (R69): capture programs and built-in erases, then the background erase while fewer than 16
blocks are ERASED, then page reads, then render programs and built-in erases, then the background erase; within a
tier the first requester after the one last served. What each choice does: a program starts on the loaded page's
place in its chain; a built-in erase takes the oldest DIRTY block, lowers the free count by one and posts STORE_LOW
when it falls from 65 to 64, or is withdrawn when DIRTY is empty (R72, R82); a render allocation at a free count of
16 or below ends in STORE_FULL (R74). That a lane's erase is withdrawn with an empty DIRTY pool at a free count of 16
or below too, in place of failing, is DEDUCED and unsafe (log 26). A page read starts; the background erase takes the
oldest DIRTY block (R71). -/
def Obligations.ArbiterChoosesByTier : Prop :=
  ((∀ l : Port, cycleAfter l = [l + 1, l + 2, l + 3, l]) ∧
    (∀ i : Fin 6, cycleAfter i = [i + 1, i + 2, i + 3, i + 4, i + 5, i]) ∧ ∀ l : Lane, cycleAfter l = [l + 1, l]) ∧
  (∀ s : State,
    (∀ p, (cycleAfter s.store.last1).find? (fun p => hasRequest (.stream p) s.store) = some p →
      chooseOnce s = some (serveStream p s)) ∧
    ((∀ p, hasRequest (.stream p) s.store = false) →
      (s.store.erased.length < 16 → s.store.dirty ≠ [] → chooseOnce s = some (startBackground s)) ∧
      (16 ≤ s.store.erased.length ∨ s.store.dirty = [] →
        (∀ i slot, (cycleAfter s.store.last3).find? (fun i => (readWaiting s (readerAt i)).isSome) = some i →
          readWaiting s (readerAt i) = some slot →
          chooseOnce s = some (modStore (fun st => { st with last3 := i }) (startRead (readerAt i) slot s))) ∧
        ((∀ i, readWaiting s (readerAt i) = none) →
          (∀ l, (cycleAfter s.store.last4).find? (fun l => hasRequest (.lane l) s.store) = some l →
            chooseOnce s = some (serveLane l s)) ∧
          ((∀ l, hasRequest (.lane l) s.store = false) →
            (s.store.dirty ≠ [] → chooseOnce s = some (startBackground s)) ∧
            (s.store.dirty = [] → chooseOnce s = none)))))) ∧
  (∀ (s : State) (i : Fin 2) (page : Nat) (bytes : List Byte),
    (∀ p, loadedBuffer (.stream p) s.store = some (i, .placed) →
      s.store.buffers[i] = .loaded (.stream p) page bytes .placed → serveStream p s = modStore (fun st =>
        { modBuffer i (fun _ => .programming (.stream p) false page (chainSlot (sourceChain s (.stream p)) page) bytes) st with
          array := .programming i, last1 := p }) s) ∧
    ∀ l, loadedBuffer (.lane l) s.store = some (i, .placed) →
      s.store.buffers[i] = .loaded (.lane l) page bytes .placed → serveLane l s = modStore (fun st =>
        { modBuffer i (fun _ => .programming (.lane l) false page (chainSlot (sourceChain s (.lane l)) page) bytes) st with
          array := .programming i, last4 := l }) s) ∧
  (∀ (s : State) (i : Fin 2),
    (∀ p, loadedBuffer (.stream p) s.store = some (i, .posted) →
      (s.store.dirty = [] → serveStream p s = modStore (setTarget (.stream p) .unposted) s) ∧
      ∀ b rest t, s.store.dirty = b :: rest → t = serveStream p s →
        t.store.array = .erasing b (.builtIn (.stream p)) false ∧ t.store.dirty = rest ∧ t.store.last1 = p ∧
        t.store.erased = s.store.erased ∧ loadedBuffer (.stream p) t.store = some (i, .erasing) ∧
        (s.store.array = .idle → s.store.sweep = false → freeCount t.store + 1 = freeCount s.store ∧
          ∀ q : Port, t.ports[q] = if freeCount s.store = 65 ∧ s.ports[q].subs.getLsbD 1 = true then
            pushNotice (notice .storeLow 255 0 64) s.ports[q] else s.ports[q])) ∧
    ∀ l, loadedBuffer (.lane l) s.store = some (i, .posted) →
      (s.store.dirty = [] → serveLane l s = modStore (setTarget (.lane l) .unposted) s) ∧
      (s.store.dirty ≠ [] → freeCount s.store ≤ 16 → serveLane l s = storeFull l s) ∧
      ∀ b rest t, s.store.dirty = b :: rest → 16 < freeCount s.store → t = serveLane l s →
        t.store.array = .erasing b (.builtIn (.lane l)) false ∧ t.store.dirty = rest ∧ t.store.last4 = l ∧
        t.store.erased = s.store.erased ∧ loadedBuffer (.lane l) t.store = some (i, .erasing) ∧
        (s.store.array = .idle → s.store.sweep = false → freeCount t.store + 1 = freeCount s.store ∧
          ∀ q : Port, t.ports[q] = if freeCount s.store = 65 ∧ s.ports[q].subs.getLsbD 1 = true then
            pushNotice (notice .storeLow 255 1 64) s.ports[q] else s.ports[q])) ∧
  (∀ (s t : State) (b : Nat) (rest : List Nat), s.store.dirty = b :: rest → t = startBackground s →
    t.store.array = .erasing b .background false ∧ t.store.dirty = rest ∧ t.store.erased = s.store.erased ∧
    (s.store.array = .idle → freeCount t.store = freeCount s.store) ∧
    t.store.sweep = (s.store.sweep && !rest.isEmpty) ∧
    ∀ q : Port, t.ports[q] = if s.store.sweep = true ∧ rest = [] ∧ s.ports[q].subs.getLsbD 2 = true then
      pushNotice (notice .storeSwept 255 0 s.store.erased.length) s.ports[q] else s.ports[q]) ∧
  ∀ (s : State) (slot : Nat),
    (∀ l j r, s.lanes[l] = some j → j.read = some r → startRead (.lane l) slot s = setLane l (some { j with
      read := some { r with inProgress := true } }) (modStore (fun st => { st with array := .reading (.lane l) false slot }) s)) ∧
    ∀ (p : Port) (a : Active) (f : Fetch), s.ports[p].stream = .active a → a.fetch = some f → startRead (.port p) slot s =
      modPort p (fun ps => { ps with stream := .active { a with fetch := some { f with inProgress := true } } })
        (modStore (fun st => { st with array := .reading (.port p) false slot }) s)

/-- The array's contents after a program and after an erase (R63, R68): the programmed page holds the buffer's
bytes, an erased block reads as 0x00 throughout, and every other byte stays. -/
def Obligations.ArrayReadAfterWrite : Prop :=
  (∀ (mem : List Host.Cell) (slot : Nat) (bytes : List Byte), bytes.length = 3072 →
    readPage (programPage mem slot bytes) slot = bytes) ∧
  (∀ (mem : List Host.Cell) (slot : Nat) (bytes : List Byte) (a : Nat), a < slot * 3072 ∨ (slot + 1) * 3072 ≤ a →
    readByte (programPage mem slot bytes) a = readByte mem a) ∧
  (∀ (mem : List Host.Cell) (b page : Nat), page < 64 →
    readPage (eraseBlock mem b) (64 * b + page) = List.replicate 3072 0) ∧
  ∀ (mem : List Host.Cell) (b a : Nat), a < b * 196608 ∨ (b + 1) * 196608 ≤ a → readByte (eraseBlock mem b) a = readByte mem a

/-! ### The render unit and the lanes -/

/-- RENDER: each row of R90's table. An accepted one lets the chapter's output and result group go, appends its
entry and makes it QUEUED; idle lanes take entries within the event (R88). -/
def Obligations.RenderRequest : Prop :=
  ∀ (s : State) (p : Port) (c : ChapterId), Takes s p .render (u8 c.val) →
    (s.chapters[c] = none → exec (.render p (u8 c.val)) s = Refuses p .render .noRecord s) ∧
    ∀ r, s.chapters[c] = some r →
      (r.state = .published → exec (.render p (u8 c.val)) s = Refuses p .render .locked s) ∧
      (r.state = .assembling → exec (.render p (u8 c.val)) s = Refuses p .render .wrongState s) ∧
      (r.state = .queued → exec (.render p (u8 c.val)) s = Refuses p .render .alreadyQueued s) ∧
      (r.state = .ready ∨ r.state = .rendered ∨ r.state = .rejected →
        (16 ≤ s.queue.length → exec (.render p (u8 c.val)) s = Refuses p .render .queueFull s) ∧
        (s.queue.length < 16 → ∃ u t, u = releaseOutput c s ∧
          t = settle (lanesTake (enterState c .queued .queued
            (setQueue (u.queue ++ [⟨c, p, .render⟩]) (modChapter c (fun x => { x with result := none }) u)))) ∧
          exec (.render p (u8 c.val)) s = Responds p .render .accepted (u8 (stateCode t c) ++ u8 (queuePlace t c)) s t)) ∧
      (∀ l t, r.state = .rendering → laneOf s c = some l → t = settle (lanesTake (beginJob l c p (clearLane l s))) →
        exec (.render p (u8 c.val)) s = Responds p .render .restarted (u8 (stateCode t c) ++ u8 l.val) s t)

/-- The checks of one chapter of a render set, in their order (R91): named at a lower index, free, QUEUED,
RENDERING, PUBLISHED, ASSEMBLING. RENDER_SET: the first chapter in list order that fails refuses the whole set with
its index; a set that finds too few places is refused with the places left; an accepted set handles its chapters in
order (R91). An id above 63 refuses the set with BAD_PARAM (R89), and the payload is its index (the model's reading,
log 14). -/
def Obligations.RenderSetRequest : Prop :=
  (∀ (s : State) (before : List ChapterId) (c : ChapterId),
    (c ∈ before → setCheck s before c = some .badParam) ∧
    (c ∉ before → s.chapters[c] = none → setCheck s before c = some .noRecord) ∧
    ∀ r, c ∉ before → s.chapters[c] = some r →
      (r.state = .queued → setCheck s before c = some .alreadyQueued) ∧
      (r.state = .rendering → setCheck s before c = some .busy) ∧
      (r.state = .published → setCheck s before c = some .locked) ∧
      (r.state = .assembling → setCheck s before c = some .wrongState) ∧
      (r.state = .ready ∨ r.state = .rendered ∨ r.state = .rejected → setCheck s before c = none)) ∧
  (∀ (s : State) (p : Port) (ps : List Byte) (i : Nat) (b : Byte), Takes s p .renderSet ps → 1 ≤ ps.length →
    ps.length ≤ 4 → ps[i]? = some b → 63 < b.toNat → (∀ j x, j < i → ps[j]? = some x → x.toNat ≤ 63) →
      exec (.renderSet p ps) s = Responds p .renderSet .badParam (u8 i) s s) ∧
  ∀ (s : State) (p : Port) (cs : List ChapterId) (ps : List Byte), ps = cs.flatMap (fun c => u8 c.val) →
    1 ≤ cs.length → cs.length ≤ 4 → Takes s p .renderSet ps →
      (∀ i c e, cs[i]? = some c → setCheck s (cs.take i) c = some e →
        (∀ j d, j < i → cs[j]? = some d → setCheck s (cs.take j) d = none) →
          exec (.renderSet p ps) s = Responds p .renderSet e (u8 i) s s) ∧
      ((∀ j d, cs[j]? = some d → setCheck s (cs.take j) d = none) →
        (16 < s.queue.length + cs.length →
          exec (.renderSet p ps) s = Responds p .renderSet .queueFull (u8 (16 - s.queue.length)) s s) ∧
        (s.queue.length + cs.length ≤ 16 → exec (.renderSet p ps) s = Responds p .renderSet .accepted (u8 cs.length) s
          (settle (cs.foldl (fun s c => lanesTake (queueChapter c p .set s)) s))))

/-- RENDER_CANCEL: a QUEUED or RENDERING chapter is left READY, out of the queue and the lanes, with its notice to
every subscriber with a place; a running job's partial output joins the tail of the DIRTY pool; the rest of its
record, and the references, stay; any other chapter is refused (R92, R105). PUBLISH makes a RENDERED chapter
PUBLISHED with its notice, and changes nothing else (R94). COLLECT makes a PUBLISHED chapter READY with no result
group, or frees its record when its script is cleared; its output joins the tail of the DIRTY pool and streams on it
become DETACHED; references stay, and its notice goes to every subscriber with a place (R95, R21, R10, R67, R180).
-/
def Obligations.RenderUnitRequests : Prop :=
  (∀ (s : State) (p : Port) (c : ChapterId), Takes s p .renderCancel (u8 c.val) →
      (s.chapters[c] = none → exec (.renderCancel p (u8 c.val)) s = Refuses p .renderCancel .noRecord s) ∧
      ∀ r, s.chapters[c] = some r →
        (r.state ≠ .queued → r.state ≠ .rendering →
          exec (.renderCancel p (u8 c.val)) s = Refuses p .renderCancel .wrongState s) ∧
        (QueueLaw s → r.state = .queued ∨ r.state = .rendering →
          ∃ u t, t = settle u ∧ exec (.renderCancel p (u8 c.val)) s = Responds p .renderCancel .accepted [] s t ∧
            u.store.dirty = s.store.dirty ++ jobBlocks s c ∧ u.store.erased = s.store.erased ∧
            t.chapters[c] = some { r with state := .ready } ∧ NotHeld t c ∧ t.titles = s.titles ∧
            t.profiles = s.profiles ∧ t.levels = s.levels ∧ (∀ k : TakeId, t.takes[k].map (·.refs) = s.takes[k].map (·.refs)) ∧
            (∀ q : Port, s.ports[q].subs.getLsbD 0 = true → s.ports[q].notices.length < 16 →
              s.ports[q].notices ++ [notice .chapterState c.val 2 11] <+: t.ports[q].notices))) ∧
  (∀ (s : State) (p : Port) (c : ChapterId), Takes s p .publish (u8 c.val) →
      (s.chapters[c] = none → exec (.publish p (u8 c.val)) s = Refuses p .publish .noRecord s) ∧
      ∀ r, s.chapters[c] = some r →
        (r.state ≠ .rendered → exec (.publish p (u8 c.val)) s = Refuses p .publish .wrongState s) ∧
        (r.state = .rendered → exec (.publish p (u8 c.val)) s = Responds p .publish .accepted [] s
          (broadcast (notice .chapterState c.val 7 13) (setChapter c (some { r with state := .published }) s)))) ∧
  ∀ (s : State) (p : Port) (c : ChapterId), Takes s p .collect (u8 c.val) →
    (s.chapters[c] = none → exec (.collect p (u8 c.val)) s = Refuses p .collect .noRecord s) ∧
    ∀ r, s.chapters[c] = some r →
      (r.state ≠ .published → exec (.collect p (u8 c.val)) s = Refuses p .collect .wrongState s) ∧
      (QueueLaw s → r.state = .published →
        ∃ u t, t = settle u ∧
          exec (.collect p (u8 c.val)) s = Responds p .collect .accepted (u8 (if r.scriptCleared then 0 else 2)) s t ∧
          u.store.dirty = s.store.dirty ++ ownedChain s c ∧ u.store.erased = s.store.erased ∧
          (∀ q : Port, ownedOutput r ≠ none → activeSource s.ports[q] = some (.output c) →
            t.ports[q].stream = .detached) ∧
          t.profiles = s.profiles ∧ (∀ k : TakeId, t.takes[k].map (·.refs) = s.takes[k].map (·.refs)) ∧
          (∀ q : Port, s.ports[q].subs.getLsbD 0 = true → s.ports[q].notices.length < 16 →
            s.ports[q].notices ++ [notice .chapterState c.val (if r.scriptCleared then 0 else 2) 14] <+: t.ports[q].notices) ∧
          (r.scriptCleared = false →
            t.chapters[c] = some { r with state := .ready, result := none } ∧ t.titles = s.titles) ∧
          (r.scriptCleared = true → t.chapters[c] = none ∧ ∀ k : TitleNo, t.titles[k] = s.titles[k].map fun x =>
            if k = r.title then { x with chapters := x.chapters.erase c } else x))

/-- A job's start (R88, R97, R104): the lowest IDLE lane takes the head entry, whose chapter becomes RENDERING with
reason STARTED, as long as there is an idle lane and an entry; the job holds the snapshot of the title's profile and
begins MEASURE, or, above the snapshot's maximum length, the chapter is REJECTED with reason TOO_LONG alone and the
lane stays IDLE. What the starting job's record holds for the members that the spec sets at the end of MEASURE or in
ENCODE only (LI, input peak code and g as 0, the chain's state, which does not yet exist, as its chapter-start values,
the output's pages as empty) is the model's choice (DESIGN CHOICE, log 32). An abort (R105): the lane is IDLE, its LOADED page dropped, its PROGRAMMING page and its erase in
progress without it, its read in progress orphaned, its blocks at the tail of the DIRTY pool. A job's end (R102):
the whole result group with its output, RENDERED with reason PASSED or REJECTED with reason FAILED, and the lane
IDLE for the next entry. The 32 header bytes of the output (R168). -/
def Obligations.JobStartsAbortsAndEnds : Prop :=
  (∀ s : State,
    (∀ l e rest, s.lanes[l] = none → (∀ k, k < l → s.lanes[k] ≠ none) → s.queue = e :: rest →
      lanesTake s = lanesTake (beginJob l e.chapter e.origin (enterState e.chapter .rendering .started (setQueue rest s)))) ∧
    (s.queue = [] ∨ (∀ l : Lane, s.lanes[l] ≠ none) → lanesTake s = s)) ∧
  (∀ (s t : State) (l : Lane) (c : ChapterId) (origin : Port) (r : Chapter) (ti : Title) (total : Nat),
    s.chapters[c] = some r → s.titles[r.title] = some ti → r.assembled = some total → t = beginJob l c origin s →
      (total ≤ s.profiles[ti.profile].maxLen * blockLength ti.rate → t = setLane l (some {
        chapter := c, origin := origin, profileNo := ti.profile, profile := s.profiles[ti.profile], title := r.title
        rate := ti.rate, position := r.position, total := total, phase := .measure, done := 0, input := Meter.clear
        li := 0, inPeak := 0, gain := 0, chain := Chain.start, output := Meter.clear, header := [], assembly := []
        pageIndex := 1, waiting := [], inHand := [], finishing := none, blocks := [], pages := [], read := none }) s) ∧
      (s.profiles[ti.profile].maxLen * blockLength ti.rate < total →
        t = broadcast (notice .chapterState c.val 6 9) (setChapter c (some { r with state := .rejected, result := some {
          profileNo := ti.profile, origin := origin, li := none, inPeak := none, gain := none, lo := none, outPeak := none
          clips := none, largest := none, floor := none, head := none, tail := none, reasons := [.tooLong]
          output := none } }) (setLane l none s)))) ∧
  (∀ (s t : State) (l : Lane) (j : Job), s.lanes[l] = some j → t = clearLane l s →
    t.lanes[l] = none ∧ t.store.dirty = s.store.dirty ++ j.blocks ∧ t.store.erased = s.store.erased ∧
    t.chapters = s.chapters ∧ t.takes = s.takes ∧ t.queue = s.queue ∧
    (∀ (i : Fin 2) page bytes target, s.store.buffers[i] = .loaded (.lane l) page bytes target →
      t.store.buffers[i] = .free) ∧
    (∀ (i : Fin 2) gone page slot bytes, s.store.buffers[i] = .programming (.lane l) gone page slot bytes →
      t.store.buffers[i] = .programming (.lane l) true page slot bytes) ∧
    (∀ b gone, s.store.array = .erasing b (.builtIn (.lane l)) gone →
      t.store.array = .erasing b (.builtIn (.lane l)) true) ∧
    ∀ gone slot, s.store.array = .reading (.lane l) gone slot → t.store.array = .reading (.lane l) true slot) ∧
  (∀ (s : State) (l : Lane) (j : Job) (f : Finish) (r : Chapter), s.lanes[l] = some j → j.finishing = some f →
    s.chapters[j.chapter] = some r →
      jobEnd l s = lanesTake (broadcast
        (notice .chapterState j.chapter.val (if f.reasons = [] then 5 else 6) (if f.reasons = [] then 7 else 8))
        (setChapter j.chapter (some { r with
          state := if f.reasons = [] then .rendered else .rejected
          result := some {
            profileNo := j.profileNo, origin := j.origin, li := some j.li, inPeak := some j.inPeak, gain := some j.gain
            lo := some f.lo, outPeak := some f.outPeak, clips := some j.chain.clips, largest := some j.chain.largest
            floor := f.floor, head := some f.head, tail := some f.tail, reasons := f.reasons
            output := some ⟨32 + j.chain.byteTotal, frameCount j.total (frameLength j.rate), f.digest, j.blocks⟩ } })
          (setLane l none s)))) ∧
  ∀ (j : Job) (f : Finish), (headerBytes j f).length = 32 ∧ headerBytes j f =
    [1, BitVec.ofNat 8 j.rate.val, BitVec.ofNat 8 j.profile.m, BitVec.ofNat 8 j.title.val, BitVec.ofNat 8 j.position,
      BitVec.ofNat 8 j.profileNo.val] ++ u16 (frameLength j.rate) ++ u32 j.total ++
      u32 (frameCount j.total (frameLength j.rate)) ++ u32 (ceilingValue j.profile) ++ s16 f.lo ++ s16 j.gain ++
      u16 j.chain.clips ++ u16 j.chain.largest ++ u32 f.digest.toNat

/-- A lane's sample of MEASURE (R98, R99): with the page of the next sample at hand, the sample is fed to the input
meter, samples done rises by one, and the last sample ends the pass; without it, nothing changes. The end of MEASURE
(R99, R104, R124, R129, R131): a SILENT outcome rejects the chapter and leaves the lane to the next entry; otherwise
the lane enters ENCODE with the chapter-start values and the gain of R129, the input meter's partial block discarded
(R116, R120; that its sample count is cleared with its energy is the model's choice, DESIGN CHOICE, unsafe, log 31).
The two gates: the outcome is SILENT exactly when no bin whose code is Ga or above holds a block (R121);
otherwise c1 is the code of the floor of the passing bins' mean (R122), and the integrated loudness is the code of the
floor of the mean of the bins whose code is at least the larger of Ga and c1 − Roff (R123). -/
def Obligations.MeasurePass : Prop :=
  (∀ (s : State) (l : Lane) (j : Job), s.lanes[l] = some j → j.phase = .measure → j.done < j.total →
      (nextSample s j = none → exec (.measureSample l) s = .next s) ∧
      ∀ x j', nextSample s j = some x →
        j' = { j with input := meterStep (blockLength j.rate) none j.input x, done := j.done + 1,
                      pages := pagesAfter (jobSteps s j) j.done j.pages } →
        (j.done + 1 < j.total → exec (.measureSample l) s = .next (commit s (setLane l (some j') s))) ∧
        (j.done + 1 = j.total →
          exec (.measureSample l) s = .next (commit s (measureEndDue l (setLane l (some j') s))))) ∧
  (∀ (hist : Vector Bin 961) (ga : Int) (roff : Nat) (count sum : Int → Nat),
    (∀ c, count c = (((List.finRange 961).filter fun i => c ≤ (i.val : Int) - 900).map fun i => hist[i].count).sum) →
    (∀ c, sum c = (((List.finRange 961).filter fun i => c ≤ (i.val : Int) - 900).map fun i => hist[i].sum).sum) →
      (gated ga roff hist = none ↔ ∀ i : Fin 961, ga ≤ (i.val : Int) - 900 → hist[i].count = 0) ∧
      ∀ c1 c2 : Int, count ga ≠ 0 → c1 = loudnessCode (sum ga / count ga) → c2 = max ga (c1 - roff) →
        gated ga roff hist = some (loudnessCode (sum c2 / count c2))) ∧
  ∀ (s : State) (l : Lane) (j : Job), s.lanes[l] = some j → j.phase = .measure → j.total ≤ j.done →
    (gated j.profile.ga j.profile.roff j.input.hist = none → exec (.measureEnd l) s =
      .next (commit s (lanesTake (enterState j.chapter .rejected .silent
        (modChapter j.chapter (fun r => { r with result := some { partialResult j [.silent] with
          inPeak := some (amplitudeCode j.input.peak) } }) (clearLane l s)))))) ∧
    ∀ li, gated j.profile.ga j.profile.roff j.input.hist = some li → exec (.measureEnd l) s =
      .next (commit s (setLane l (some { j with
        phase := .encode, done := 0, li := li, inPeak := amplitudeCode j.input.peak
        input := { j.input with energy := 0, count := 0 }
        gain := max (-200) (min 240 (min (j.profile.target - li)
          (j.profile.ceiling - amplitudeCode j.input.peak + j.profile.lb)))
        chain := Chain.start, output := Meter.clear, header := [], assembly := [], pageIndex := 1, waiting := []
        inHand := [], pages := [] }) s))

/-- METER_BLOCK: the meter of the lane's pass completes a block that holds N samples: its code enters the histogram,
in ENCODE the floor, head and tail too, and the accumulator is cleared (R114, R118, R119). ENCODE_FRAME codes the
frame whose samples are in hand and places its bytes: in the header page up to 3,040 of them, then in the assembly
page up to 3,072, the rest wait, and each passes through the CRC register as it is placed (R100, R146). ENCODE_END
fixes the outcome after the last frame: an output that passes, or is kept, is finished, its meter's partial block
discarded (R116, R120; that this comes with the end of the pass where the last bytes have waited is DEDUCED, unsafe,
log 30, and that the block's sample count is cleared with its energy is a DESIGN CHOICE, unsafe, log 31); any other rejects the chapter with its measurements (R101, R103). The outcome holds LO, −900 when the output
is SILENT, the digest, the output peak code, the floor, head and tail (R125, R145), and the reasons of the verify, each
at most once: LO outside target ± tolerance, or SILENT in place of that comparison, clips, floor, head and tail
against their limits (R157 to R161). -/
def Obligations.MeterBlockAndEncodePass : Prop :=
  (∀ (s : State) (l : Lane) (j : Job) (n : Nat), s.lanes[l] = some j → n = blockLength j.rate →
      (j.phase = .measure → n ≤ j.input.count → exec (.meterBlock l) s = .next (commit s (setLane l (some { j with
        input := { j.input with hist := histAdd j.input.hist (j.input.energy / n), blocks := j.input.blocks + 1,
                                energy := 0, count := 0 } }) s))) ∧
      (j.phase = .encode → n ≤ j.output.count → ∃ c quiet, c = loudnessCode (j.output.energy / n) ∧
        quiet = decide (c < j.profile.qs) ∧
        exec (.meterBlock l) s = .next (commit s (setLane l (some { j with
          output := { j.output with
            hist := histAdd j.output.hist (j.output.energy / n), blocks := j.output.blocks + 1, energy := 0, count := 0
            floor := some ((j.output.floor.map (min · c)).getD c)
            head := if quiet = true ∧ j.output.headClosed = false then j.output.head + 1 else j.output.head
            headClosed := j.output.headClosed || !quiet
            tail := if quiet = true then j.output.tail + 1 else 0 } }) s)))) ∧
  (∀ (s : State) (l : Lane) (j j' : Job) (ch : Chain) (rs : List Sample) (bytes : List Byte), s.lanes[l] = some j →
    j.phase = .encode → j.finishing = none → j.waiting = [] → j.assembly.length < 3072 →
    j.chain.framesDone < frameCount j.total (frameLength j.rate) →
    j.inHand.length = frameSize j.total (frameLength j.rate) j.chain.framesDone →
    codeFrame j.profile j.gain j.total (frameLength j.rate) j.chain j.inHand = (ch, rs, bytes) →
    j' = placeBytes bytes { j with
      chain := ch, done := j.done + j.inHand.length, inHand := []
      output := rs.foldl (meterStep (blockLength j.rate) (some j.profile.qs)) j.output } →
      exec (.encodeFrame l) s = .next (commit s (encodeEndDue l (setLane l (some j') s)))) ∧
  (∀ (bytes : List Byte) (j : Job) (a b : Nat), a = 3040 - j.header.length → b = 3072 - j.assembly.length →
    placeBytes bytes j = { j with
      header := j.header ++ bytes.take a, assembly := j.assembly ++ (bytes.drop a).take b
      waiting := bytes.drop (a + b), chain := { j.chain with crc := crcBytes j.chain.crc (bytes.take (a + b)) } }) ∧
  (∀ (j : Job) (f : Finish), f = outcomeOf j →
    f.digest = ~~~j.chain.crc ∧ f.outPeak = amplitudeCode j.output.peak ∧ f.floor = j.output.floor ∧
    f.head = j.output.head ∧ f.tail = j.output.tail ∧ f.reasons.Nodup ∧
    (∀ lo, gated j.profile.ga j.profile.roff j.output.hist = some lo → f.lo = lo ∧ .silent ∉ f.reasons ∧
      (.loudLow ∈ f.reasons ↔ lo < j.profile.target - j.profile.tolerance) ∧
      (.loudHigh ∈ f.reasons ↔ j.profile.target + j.profile.tolerance < lo)) ∧
    (gated j.profile.ga j.profile.roff j.output.hist = none → f.lo = -900 ∧ .silent ∈ f.reasons ∧
      .loudLow ∉ f.reasons ∧ .loudHigh ∉ f.reasons) ∧
    (.clips ∈ f.reasons ↔ j.profile.clips < j.chain.clips) ∧
    (.floor ∈ f.reasons ↔ ∃ v, j.output.floor = some v ∧ j.profile.floorMax < v) ∧
    (.headShort ∈ f.reasons ↔ j.output.head < j.profile.hmin) ∧ (.headLong ∈ f.reasons ↔ j.profile.hmax < j.output.head) ∧
    (.tailShort ∈ f.reasons ↔ j.output.tail < j.profile.tmin) ∧ (.tailLong ∈ f.reasons ↔ j.profile.tmax < j.output.tail) ∧
    .tooLong ∉ f.reasons) ∧
  ∀ (s : State) (l : Lane) (j : Job) (f : Finish), s.lanes[l] = some j → j.phase = .encode → j.finishing = none →
    j.waiting = [] → frameCount j.total (frameLength j.rate) ≤ j.chain.framesDone → f = outcomeOf j →
      (f.reasons = [] ∨ j.profile.keep = true → exec (.encodeEnd l) s =
        .next (commit s (setLane l (some { j with
          finishing := some f, output := { j.output with energy := 0, count := 0 } }) s))) ∧
      (f.reasons ≠ [] → j.profile.keep = false → exec (.encodeEnd l) s =
        .next (commit s (lanesTake (enterState j.chapter .rejected .failed
          (modChapter j.chapter (fun r => { r with result := some (fullResult j f none) }) (clearLane l s))))))

/-! ### Profiles -/

/-- PROFILE_SET stores every field clamped into its range, then raises the upper limit of a pair to its lower one;
it answers CLAMPED exactly where a field was changed, with the record as stored; a length other than 25 or a number
above 3 is refused with BAD_PARAM (R149 to R152). PROFILE_GET answers a profile's record as it stands, and changes
nothing; a length other than 1 or a number above 3 is refused with BAD_PARAM (R154). -/
def Obligations.ProfileRequests : Prop :=
  ((∀ (s : State) (p : Port) (ps : List Byte), Takes s p .profileSet ps → ps.length ≠ 25 ∨ 3 < paramAt ps 0 →
     exec (.profileSet p ps) s = Refuses p .profileSet .badParam s) ∧
   ∀ (s : State) (p : Port) (n : ProfileNo) (ps : List Byte) (sent kept : Profile), ps.length = 25 →
     paramAt ps 0 = n.val → Takes s p .profileSet ps → sent = profileSent ps → kept = {
       target := max (-240) (min (-120) sent.target), tolerance := max 5 (min 50 sent.tolerance)
       ceiling := max (-120) (min (-10) sent.ceiling), lb := min 120 sent.lb, rel := max 1 (min 60 sent.rel)
       clips := sent.clips, floorMax := max (-900) (min (-400) sent.floorMax), qs := max (-900) (min (-300) sent.qs)
       hmin := min 100 sent.hmin, hmax := max (min 100 sent.hmin) (min 100 sent.hmax), tmin := min 100 sent.tmin
       tmax := max (min 100 sent.tmin) (min 100 sent.tmax), ga := max (-900) (min (-400) sent.ga)
       roff := max 50 (min 200 sent.roff), m := max 3 (min 8 sent.m), keep := decide (paramAt ps 22 ≠ 0)
       maxLen := max 600 sent.maxLen } →
       exec (.profileSet p ps) s = Responds p .profileSet
         (if kept = sent ∧ paramAt ps 22 ≤ 1 then .accepted else .clamped) (profileBytes n kept) s (setProfile n kept s)) ∧
  ∀ (s : State) (p : Port) (ps : List Byte), Takes s p .profileGet ps →
    (ps.length ≠ 1 ∨ 3 < paramAt ps 0 → exec (.profileGet p ps) s = Refuses p .profileGet .badParam s) ∧
    ∀ n : ProfileNo, ps = u8 n.val → exec (.profileGet p ps) s =
      Responds p .profileGet .accepted (profileBytes n s.profiles[n]) s s

/-! ### Streams -/

/-- STREAM_OPEN (R173, R174, R171): its refusals in order; an accepted one drops the old stream and places the
cursor at the offset modulo the source's length, CLAMPED where that reduces it; the fetch follows in the same event
(R177). STREAM_CLOSE makes the status IDLE in every status and answers the status it had: the segments and the fetch
are gone, and a read in progress for the stream will be discarded; any parameter byte is refused with BAD_PARAM
(R175). -/
def Obligations.StreamOpenAndClose : Prop :=
  ((∀ (s : State) (p : Port) (c : ChapterId) (offset : Word32) (ps : List Byte),
     ps = u8 0 ++ u8 c.val ++ u32 offset.toNat → Takes s p .streamOpen ps →
       (s.chapters[c] = none → exec (.streamOpen p ps) s = Refuses p .streamOpen .noRecord s) ∧
       ∀ r, s.chapters[c] = some r →
         (ownedOutput r = none ∨ (r.state ≠ .rendered ∧ r.state ≠ .published ∧ r.state ≠ .rejected) →
           exec (.streamOpen p ps) s = Refuses p .streamOpen .wrongState s) ∧
         ∀ o, ownedOutput r = some o → r.state = .rendered ∨ r.state = .published ∨ r.state = .rejected →
           exec (.streamOpen p ps) s = Responds p .streamOpen (if o.bytes ≤ offset.toNat then .clamped else .accepted)
             (u32 o.bytes ++ u32 (offset.toNat % o.bytes) ++ u8 (titleRate s r.title).val) s
             (settle (dropStream p (.active ⟨.output c, o.bytes, offset.toNat % o.bytes, [], none⟩) s))) ∧
   (∀ (s : State) (p : Port) (k : TakeId) (offset : Word32) (ps : List Byte),
     ps = u8 1 ++ u8 k.val ++ u32 offset.toNat → Takes s p .streamOpen ps →
       (s.takes[k] = none → exec (.streamOpen p ps) s = Refuses p .streamOpen .noRecord s) ∧
       ∀ r, s.takes[k] = some r →
         (r.state ≠ .closed ∨ r.length = 0 → exec (.streamOpen p ps) s = Refuses p .streamOpen .wrongState s) ∧
         (r.state = .closed → 0 < r.length →
           exec (.streamOpen p ps) s = Responds p .streamOpen (if 3 * r.length ≤ offset.toNat then .clamped else .accepted)
             (u32 (3 * r.length) ++ u32 (offset.toNat % (3 * r.length)) ++ u8 (titleRate s r.title).val) s
             (settle (dropStream p (.active ⟨.take k, 3 * r.length, offset.toNat % (3 * r.length), [], none⟩) s)))) ∧
   ∀ (s : State) (p : Port) (ps : List Byte), Takes s p .streamOpen ps → ps.length = 6 →
     1 < paramAt ps 0 ∨ (paramAt ps 0 = 0 ∧ 63 < paramAt ps 1) ∨ (paramAt ps 0 = 1 ∧ 127 < paramAt ps 1) →
       exec (.streamOpen p ps) s = Refuses p .streamOpen .badParam s) ∧
  (∀ (s : State) (p : Port) (ps : List Byte), Takes s p .streamClose ps → ps ≠ [] →
    exec (.streamClose p ps) s = Refuses p .streamClose .badParam s) ∧
  ∀ (s : State) (p : Port), Takes s p .streamClose [] → ∃ t,
    exec (.streamClose p []) s = Responds p .streamClose .accepted
      (u8 (match s.ports[p].stream with | .idle => 0 | .active _ => 1 | .detached => 2)) s t ∧
    t.ports[p] = { s.ports[p] with stream := .idle, xfer := unlink s.ports[p].xfer } ∧
    (∀ slot, s.store.array = .reading (.port p) false slot → t.store.array = .reading (.port p) true slot) ∧
    ((∀ slot, s.store.array ≠ .reading (.port p) false slot) → t.store = s.store) ∧
    (∀ q : Port, q ≠ p → t.ports[q] = s.ports[q]) ∧ t.chapters = s.chapters ∧ t.takes = s.takes

/-- STREAM_DATA fixes the status and the ready count and sends them (R178). Each data byte is the next counted byte
and moves the cursor, to 0 after the source's last byte; after the count the port sends 0x00; bytes of a stream that
has changed move nothing (R179, R181). The transaction's end keeps the bytes not delivered in their segments. -/
def Obligations.StreamDataTransaction : Prop :=
  (∀ (s t : State) (p : Port), t = ended p s →
    (∀ a, t.ports[p].stream = .active a → exec (.streamData p) s = .next (attend t
      (setTransfer p (.streamData (a.segments.flatMap (·.bytes)) true)
        (setSent p (u8 1 ++ u16 (a.segments.flatMap (·.bytes)).length) t)))) ∧
    (t.ports[p].stream = .idle → exec (.streamData p) s =
      .next (attend t (setTransfer p (.streamData [] true) (setSent p (u8 0 ++ u16 0) t)))) ∧
    (t.ports[p].stream = .detached → exec (.streamData p) s =
      .next (attend t (setTransfer p (.streamData [] true) (setSent p (u8 2 ++ u16 0) t))))) ∧
  (∀ (s : State) (p : Port) (linked : Bool), s.ports[p].xfer = .streamData [] linked →
    exec (.dataByteDelivered p) s = .next (commit s (setSent p (s.ports[p].sent ++ [0]) s))) ∧
  (∀ (s : State) (p : Port) (b : Byte) (held : List Byte), s.ports[p].xfer = .streamData (b :: held) false →
    exec (.dataByteDelivered p) s = .next (commit s
      (setTransfer p (.streamData held false) (setSent p (s.ports[p].sent ++ [b]) s)))) ∧
  (∀ (s : State) (p : Port) (b b' : Byte) (held bytes : List Byte) (a : Active) (g : Segment) (rest : List Segment),
    s.ports[p].xfer = .streamData (b :: held) true → s.ports[p].stream = .active a → a.segments = g :: rest →
    g.bytes = b' :: bytes → exec (.dataByteDelivered p) s = .next (commit s (modPort p (fun ps => { ps with
      xfer := .streamData held true, sent := ps.sent ++ [b], stream := .active { a with
        cursor := if a.cursor + 1 = a.length then 0 else a.cursor + 1
        segments := if bytes = [] then rest else { g with first := g.first + 1, bytes := bytes } :: rest } }) s))) ∧
  ∀ (s : State) (p : Port) (held : List Byte) (linked : Bool), s.ports[p].xfer = .streamData held linked →
    exec (.streamDataEnd p) s = .next (attend s (setTransfer p .none s))

/-! ### The ports -/

/-- DEVICE_INFO answers the family code 0x74, the revision 2 and the number of the requesting port, and changes
nothing; any parameter byte is refused with BAD_PARAM (R198). SUBSCRIBE replaces the port's set by the bits given; a
length other than 1 or a byte above 7 is refused (R193). -/
def Obligations.DeviceInfoAndSubscribe : Prop :=
  ((∀ (s : State) (p : Port) (ps : List Byte), Takes s p .deviceInfo ps → ps ≠ [] →
      exec (.deviceInfo p ps) s = Refuses p .deviceInfo .badParam s) ∧
    ∀ (s : State) (p : Port), Takes s p .deviceInfo [] →
      exec (.deviceInfo p []) s = Responds p .deviceInfo .accepted [0x74, 2, BitVec.ofNat 8 p.val] s s) ∧
  (∀ (s : State) (p : Port) (ps : List Byte), Takes s p .subscribe ps → ps.length ≠ 1 ∨ 7 < paramAt ps 0 →
    exec (.subscribe p ps) s = Refuses p .subscribe .badParam s) ∧
  ∀ (s : State) (p : Port) (v : BitVec 3), Takes s p .subscribe (u8 v.toNat) →
    exec (.subscribe p (u8 v.toNat)) s =
      Responds p .subscribe .accepted (u8 v.toNat) s (modPort p (fun ps => { ps with subs := v }) s)

/-- A REQUEST transaction on a port that is not IDLE is dropped with cause BUSY, and on an IDLE port one that did
not arrive in full is dropped with cause SHORT: one REQUEST_DROPPED notice to its own port, with the kind code
received or 0xFF, the cause, and the number of bytes received; the port's execution state stays (R188). -/
def Obligations.DroppedRequestNotice : Prop :=
  ∀ (s : State) (p : Port) (bytes : List Byte) (kind : Byte), s.ports[p].xfer = .request →
    kind = (match bytes with | [] => 0xFF | b :: _ => b) →
      (s.ports[p].exec ≠ .idle → exec (.request p (.acts bytes)) s = .next (attend s (setTransfer p .none
        (notify p ⟨.requestDropped, kind, 0, BitVec.ofNat 32 bytes.length⟩
          (setSent p (List.replicate bytes.length 0) s))))) ∧
      (s.ports[p].exec = .idle → (bytes.length < 2 ∨ bytes.length < 2 + paramAt bytes 1) →
        exec (.request p (.acts bytes)) s = .next (attend s (setTransfer p .none
          (notify p ⟨.requestDropped, kind, 1, BitVec.ofNat 32 bytes.length⟩
            (setSent p (List.replicate bytes.length 0) s)))))

/-- A REQUEST received in full on an IDLE port (R185 cases 3 to 5): with a length above 60 it is answered BAD_PARAM,
with an unknown kind BAD_KIND, both by the port at once; otherwise the port executes the kind with its L parameter
bytes, whatever follows them. FETCH sends the slot as its transaction byte found it, with 0x00 after it, and empties
it exactly when the whole response went out; a response formed meanwhile stays (R187). -/
def Obligations.RequestAndFetch : Prop :=
  (∀ (s u : State) (p : Port) (kind len : Byte) (ps pad : List Byte), s.ports[p].xfer = .request →
    s.ports[p].exec = .idle → ps.length = len.toNat →
    u = setTransfer p .none (setSent p (List.replicate (kind :: len :: (ps ++ pad)).length 0) s) →
      (60 < len.toNat → exec (.request p (.acts (kind :: len :: (ps ++ pad)))) s =
        .next (attend s (fillSlot p ⟨kind, .badParam, []⟩ u))) ∧
      (len.toNat ≤ 60 → (∀ k, kindCode k ≠ kind) → exec (.request p (.acts (kind :: len :: (ps ++ pad)))) s =
        .next (attend s (fillSlot p ⟨kind, .badKind, []⟩ u))) ∧
      ∀ k, len.toNat ≤ 60 → kindCode k = kind → exec (.request p (.acts (kind :: len :: (ps ++ pad)))) s =
        .next (attend s (modPort p (fun r => { r with exec := .executing k ps false }) u))) ∧
  (∀ (s t : State) (p : Port), t = ended p s →
    (∀ r, t.ports[p].exec = .answered r →
      exec (.fetch p .opens) s = .next (setTransfer p (.fetch (some r)) (setSent p [] t))) ∧
    ((∀ r, t.ports[p].exec ≠ .answered r) →
      exec (.fetch p .opens) s = .next (setTransfer p (.fetch none) (setSent p [] t)))) ∧
  (∀ (s : State) (p : Port) (n : Nat), s.ports[p].xfer = .fetch none → exec (.fetch p (.acts n)) s =
    .next (attend s (setTransfer p .none (setSent p (List.replicate n 0) s)))) ∧
  ∀ (s : State) (p : Port) (n : Nat) (r : Response), s.ports[p].xfer = .fetch (some r) →
    s.ports[p].exec = .answered r →
      (3 + r.payload.length ≤ n → exec (.fetch p (.acts n)) s = .next (attend s (modPort p (fun ps => { ps with
        exec := .idle, xfer := .none
        sent := [r.echo, resultCode r.result, BitVec.ofNat 8 r.payload.length] ++ r.payload ++
          List.replicate (n - 3 - r.payload.length) 0 }) s))) ∧
      (n < 3 + r.payload.length → exec (.fetch p (.acts n)) s = .next (attend s (setTransfer p .none
        (setSent p (([r.echo, resultCode r.result, BitVec.ofNat 8 r.payload.length] ++ r.payload).take n) s))))

/-- NOTICES begins with a copy of the head record; when a record has gone out, the head is removed if the copy was
of a notice, and the next record begins; an EMPTY record removes nothing (R191). The four ATTENTION operations
(R196): the transaction byte fixes the pending bits, the raw conditions, the mask and the mode as they stand, and
these go out with 0x00 after them, whichever operation follows; a clear, a mask and a mode take effect at the rise of chip-select, on the state
as it is then, when the operation and the value byte arrived in full. -/
def Obligations.NoticesAndAttention : Prop :=
  ((∀ (s t : State) (p : Port), t = ended p s → exec (.notices p) s =
      .next (attend t (setTransfer p (.notices t.ports[p].notices.head?) (setSent p [] t)))) ∧
    (∀ (s : State) (p : Port) (n : Notice), s.ports[p].xfer = .notices (some n) →
      exec (.noticeRecordSent p) s = .next (attend s (modPort p (fun ps => { ps with
        notices := ps.notices.tail, xfer := .notices ps.notices.tail.head?, sent := ps.sent ++ noticeBytes (some n) }) s))) ∧
    ∀ (s : State) (p : Port), s.ports[p].xfer = .notices none →
      exec (.noticeRecordSent p) s = .next (attend s (modPort p (fun ps => { ps with
        xfer := .notices ps.notices.head?, sent := ps.sent ++ List.replicate 8 0 }) s))) ∧
  (∀ (s t u : State) (p : Port), t = ended p s →
    u = setTransfer p (.attention [t.ports[p].latched.setWidth 8, (conditions t.ports[p]).setWidth 8,
      t.ports[p].mask.setWidth 8, t.ports[p].mode.setWidth 8]) (setSent p [] t) →
      exec (.attentionRead p .opens) s = .next u) ∧
  ∀ (s u : State) (p : Port) (value : Byte) (n : Nat) (values : List Byte), s.ports[p].xfer = .attention values →
    u = setTransfer p .none (setSent p (values.take n ++ List.replicate (n - values.length) 0) s) →
      exec (.attentionRead p (.acts n)) s = .next (attend s u) ∧
      (n < 2 → exec (.attentionClear p value n) s = .next (attend s u) ∧
        exec (.attentionMask p value n) s = .next (attend s u) ∧
        exec (.attentionMode p value n) s = .next (attend s u)) ∧
      (2 ≤ n →
        exec (.attentionClear p value n) s = .next (attend s (modPort p (fun ps => { ps with
          latched := ps.latched &&& ~~~(value.setWidth 4 &&& ~~~ps.mode)
          lost := ps.lost && !value.getLsbD 2 }) u)) ∧
        exec (.attentionMask p value n) s =
          .next (attend s (modPort p (fun ps => { ps with mask := value.setWidth 4 }) u)) ∧
        exec (.attentionMode p value n) s =
          .next (attend s (modPort p (fun ps => { ps with mode := value.setWidth 4 }) u)))

/-- The pending bits after an event, source by source (R195): in level mode the bit is the condition; in edge mode
it stays set, and is set when the condition has gone from false to true. The line is low while some source is
pending and enabled (R197). Nothing else of the port changes. The DATA condition: ACTIVE, and a page's worth of
undelivered bytes or two segments (R182); that only the stream's own segments count, and not the bytes that a
transaction in progress still holds from a stream since replaced, is the model's choice (DEDUCED, unsafe, log 17). -/
def Obligations.AttentionFollowsTheConditions : Prop :=
  ((∀ (before after : State) (p : Port), ∃ bits : BitVec 4,
      (attend before after).ports[p] = { after.ports[p] with latched := bits } ∧
      ∀ i : Fin 4, bits.getLsbD i.val =
        if after.ports[p].mode.getLsbD i.val then (conditions after.ports[p]).getLsbD i.val
        else after.ports[p].latched.getLsbD i.val ||
          ((conditions after.ports[p]).getLsbD i.val && !(conditions before.ports[p]).getLsbD i.val)) ∧
    (∀ ps : PortState, (conditions ps).getLsbD 0 = isAnswered ps.exec ∧
      (conditions ps).getLsbD 1 = !ps.notices.isEmpty ∧ (conditions ps).getLsbD 2 = ps.lost ∧
      (conditions ps).getLsbD 3 = dataCondition ps.stream) ∧
    ∀ ps : PortState, attentionLow ps = true ↔ ∃ i : Fin 4, ps.latched.getLsbD i.val = true ∧ ps.mask.getLsbD i.val = true) ∧
  dataCondition .idle = false ∧ dataCondition .detached = false ∧ ∀ a : Active, dataCondition (.active a) = true ↔
    3072 ≤ (a.segments.map fun g => g.bytes.length).sum ∨ 2 ≤ a.segments.length

/-- PORT_RESET with no further clock edge (R199), on the state `w` in which a request of the port's own that it had
not taken yet has been taken: the slot is emptied or its response will be discarded; the LOST flag is clear; set,
mask, mode and pending bits have their defaults; the stream is IDLE and a read in progress for it will be discarded;
the capture is stopped with its take and its live level entry, or left to drain (R43); the notice queue holds the
stop's DROPOUT and TAKE_CLOSED alone; no chapter has the port as editor (R13). The other ports, titles, profiles,
queue, lanes, every other take and live level entry and the rest of the store stay. The store's consequences follow.
With further edges the period is ignored. -/
def Obligations.PortResetRestoresThePort : Prop :=
  (∀ (s t w : State) (p : Port), StreamLaw s → t = ended p s →
    w = (match t.ports[p].exec with
      | .executing k ps false =>
        if portOwned k then modPort p (fun r => { r with exec := .idle }) (portServes p k ps t) else t
      | _ => t) →
    ∃ u, exec (.portReset p 0) s = .next (commit (modPort p (fun _ => PortState.reset) t) u) ∧
      u.ports[p] = { exec := (match w.ports[p].exec with | .executing k ps _ => .executing k ps true | _ => .idle)
                     notices := (match w.captures[p] with
                       | none => []
                       | some st => if st.closing then [] else
                         (st.run.map fun n => notice .dropout st.take.val 1 n).toList ++
                           if st.fifo = [] ∧ inStore (.stream p) w.store = false then
                             [notice .takeClosed st.take.val 1 (((w.takes[st.take]).map (·.length)).getD 0)] else [])
                     lost := false, subs := 7, mask := 7, mode := 0, latched := 0, stream := .idle, xfer := .none
                     sent := [] } ∧
      (∀ v, v = (match w.captures[p] with
          | none => w
          | some st => if st.closing then w else stopStream p .portReset w) →
        u.captures = v.captures ∧ u.takes = v.takes ∧ u.levels = v.levels) ∧
      (∀ slot, w.store.array = .reading (.port p) false slot →
        u.store = { w.store with array := .reading (.port p) true slot }) ∧
      ((∀ slot, w.store.array ≠ .reading (.port p) false slot) → u.store = w.store) ∧
      (∀ c : ChapterId, u.chapters[c] = w.chapters[c].map fun r =>
        { r with editor := if r.editor = some p then none else r.editor }) ∧
      u.titles = w.titles ∧ u.profiles = w.profiles ∧ u.queue = w.queue ∧ u.lanes = w.lanes ∧
      ∀ q : Port, q ≠ p → u.ports[q] = w.ports[q]) ∧
  ∀ (s t : State) (p : Port) (extra : Nat), t = ended p s → 0 < extra →
    exec (.portReset p extra) s = .next (attend t (setSent p (List.replicate (extra / 8) 0) t))

/-- How transactions begin and end (R184, logs 5 and 6). A transaction byte first ends an earlier transaction: with
none in progress the state is as it is but for R195; an opened REQUEST is dropped, a CAPTURE that found its stream
NONE or CLOSING posts its notice, any other ends without effect. A kind that acts after its transaction byte acts in
its own transaction in progress; with none of its kind in progress the command is the whole transaction, its
transaction byte first. In a period that a device reset abandoned, the kind is ignored and the period is over
(R200). A transaction with an unknown byte changes nothing more. -/
def Obligations.TransactionsBegin : Prop :=
  ((∀ (s : State) (p : Port), s.ports[p].xfer = .none → ended p s = attend s s) ∧
    (∀ (s : State) (p : Port), s.ports[p].xfer = .request → ended p s = attend s (setTransfer p .none (notify p
      ⟨.requestDropped, 0xFF, if s.ports[p].exec = .idle then 1 else 0, 0⟩ s))) ∧
    (∀ (s : State) (p : Port) (free announced arrived discarded : Nat) (subject : Byte) (detail : BitVec 16),
      s.ports[p].xfer = .capture free announced arrived (some (subject, detail)) discarded → ended p s =
        attend s (setTransfer p .none (notify p ⟨.captureIgnored, subject, detail, BitVec.ofNat 32 discarded⟩ s))) ∧
    (∀ (s : State) (p : Port), s.ports[p].xfer ≠ .request →
      (∀ free announced arrived found discarded,
        s.ports[p].xfer ≠ .capture free announced arrived (some found) discarded) →
        ended p s = attend s (setTransfer p .none s)) ∧
    ∀ (s : State) (p : Port), LevelLaw s → attend s s = s) ∧
  (∀ (s t : State) (p : Port) (tb : Byte) (n : Nat), t = ended p s → exec (.ignoredTransaction p tb n) s =
    .next (attend t (setSent p (List.replicate n 0) t))) ∧
  (∀ (s : State) (p : Port) (bytes : List Byte), s.ports[p].xfer ≠ .request → s.ports[p].xfer ≠ .abandoned 0xA1 →
    ∃ u, exec (.request p .opens) s = .next u ∧ u = setTransfer p .request (setSent p [] (ended p s)) ∧
      exec (.request p (.acts bytes)) s = exec (.request p (.acts bytes)) u) ∧
  (∀ (s : State) (p : Port) (n : Nat), (∀ r, s.ports[p].xfer ≠ .fetch r) → s.ports[p].xfer ≠ .abandoned 0xA2 →
    ∃ u, exec (.fetch p .opens) s = .next u ∧ exec (.fetch p (.acts n)) s = exec (.fetch p (.acts n)) u) ∧
  (∀ (s : State) (p : Port) (count : Byte), (∀ free, s.ports[p].xfer ≠ .captureOpened free) →
    s.ports[p].xfer ≠ .abandoned 0xA4 →
      ∃ u, exec (.capture p .opens) s = .next u ∧ exec (.capture p (.acts count)) s = exec (.capture p (.acts count)) u) ∧
  (∀ (s : State) (p : Port) (value : Byte) (n : Nat), (∀ v, s.ports[p].xfer ≠ .attention v) →
    s.ports[p].xfer ≠ .abandoned 0xA6 →
      ∃ u, exec (.attentionRead p .opens) s = .next u ∧
        exec (.attentionRead p (.acts n)) s = exec (.attentionRead p (.acts n)) u ∧
        exec (.attentionClear p value n) s = exec (.attentionClear p value n) u ∧
        exec (.attentionMask p value n) s = exec (.attentionMask p value n) u ∧
        exec (.attentionMode p value n) s = exec (.attentionMode p value n) u) ∧
  ∀ (s t : State) (p : Port) (bytes : List Byte) (count value : Byte) (n : Nat), t = setTransfer p .none s →
    (s.ports[p].xfer = .abandoned 0xA1 → exec (.request p (.acts bytes)) s = .next t) ∧
    (s.ports[p].xfer = .abandoned 0xA2 → exec (.fetch p (.acts n)) s = .next t) ∧
    (s.ports[p].xfer = .abandoned 0xA4 → exec (.capture p (.acts count)) s = .next t ∧
      exec (.captureEnd ⟨p, n⟩) s = .next t) ∧
    (s.ports[p].xfer = .abandoned 0xA5 → exec (.streamDataEnd p) s = .next t) ∧
    (s.ports[p].xfer = .abandoned 0xA6 → exec (.attentionRead p (.acts n)) s = .next t ∧
      exec (.attentionClear p value n) s = .next t ∧ exec (.attentionMask p value n) s = .next t ∧
      exec (.attentionMode p value n) s = .next t)

/-- DEVICE_RESET returns every block to its initial state, with the sweep's first erase begun on block 0 (R200, R64,
R81): no title, take, chapter, stream, entry or job; every profile the default; every port as R200 gives it, a
transaction in progress abandoned (R184); both program buffers FREE and each load order at its start, P0 and L0
(R75); each tier's first candidate P0 or L0 (R69); every byte of the array reads as 0x00 (R63 says so of a page not
programmed since its erase; before a block's first erase it is a DESIGN CHOICE, unsafe, log 12). The queue of waiting
commands is outside the part. -/
def Obligations.DeviceResetInitialState : Prop :=
  ∀ s : State, ∃ t, exec .deviceReset s = .next t ∧ (∀ k : TitleNo, t.titles[k] = none) ∧
    (∀ k : TakeId, t.takes[k] = none) ∧ (∀ c : ChapterId, t.chapters[c] = none) ∧ (∀ p : Port, t.captures[p] = none) ∧
    (∀ p : Port, t.levels[p] = ⟨false, none, .shut, -900, -900, 0⟩) ∧ t.queue = [] ∧ (∀ l : Lane, t.lanes[l] = none) ∧
    (∀ n : ProfileNo, t.profiles[n] = Profile.default) ∧
    (∀ p : Port, t.ports[p] = { PortState.reset with xfer := abandoned s.ports[p].xfer }) ∧
    t.store.erased = [] ∧ t.store.dirty = (List.range 16383).map (· + 1) ∧
    t.store.array = .erasing 0 .background false ∧ t.store.sweep = true ∧ freeCount t.store = 16384 ∧
    (∀ i : Fin 2, t.store.buffers[i] = .free) ∧ cycleAfter t.store.loadedStream = [0, 1, 2, 3] ∧
    cycleAfter t.store.loadedLane = [0, 1] ∧ cycleAfter t.store.last1 = [0, 1, 2, 3] ∧
    cycleAfter t.store.last3 = [0, 1, 2, 3, 4, 5] ∧ cycleAfter t.store.last4 = [0, 1] ∧
    (∀ a : Nat, readByte t.store.mem a = 0) ∧ t.pending = s.pending

/-! ### What no command does -/

/-- Only PROFILE_SET and DEVICE_RESET change the profile table (R149). Only a NOTICES transaction removes notices
from a queue, apart from port reset and device reset: under every other command a port's queue keeps its records and
only grows at its tail (R190, R191). -/
def Obligations.OnlyTheirOwnCommandsChange : Prop :=
  (∀ (i : Instr) (s t : State), exec i s = .next t → (∀ p ps, i ≠ .profileSet p ps) → i ≠ .deviceReset →
      t.profiles = s.profiles) ∧
  ∀ (i : Instr) (s t : State) (p : Port), exec i s = .next t → i ≠ .noticeRecordSent p → (∀ n, i ≠ .portReset p n) →
    i ≠ .deviceReset → s.ports[p].notices <+: t.ports[p].notices

/-- What an event leads to in the store, and the attention that follows it, reach no title, profile, live level
entry or byte of the array, of a take only its chain, of a stream only its FIFO, of a chapter only state and result
group while the render unit holds it, and of a port only its notices, LOST flag, pending bits and stream. A
completion in the array or a step of a lane reaches no title, profile or live level entry, no script and no claim,
no chapter outside the queue and the lanes, of a take only its chain, and no port's request, subscription, mask,
mode or transaction. Every request but PURGE, TAKE_START, GATE_SET, TAKE_STOP and SUBSCRIBE leaves the capture
unit's streams but for their FIFOs, the live level entries, the array's contents, and every port's subscriptions,
mask, mode and transaction bytes (its own too, where its port had passed it on). -/
def Obligations.EventFrames : Prop :=
  (∀ b s t : State, t = commit b s →
      t.titles = s.titles ∧ t.profiles = s.profiles ∧ t.levels = s.levels ∧ t.store.mem = s.store.mem ∧ t.pending = s.pending ∧
      (∀ c : ChapterId, t.chapters[c].map (fun r => (r.title, r.position, r.editor, r.slots, r.cursor, r.assembled)) =
        s.chapters[c].map fun r => (r.title, r.position, r.editor, r.slots, r.cursor, r.assembled)) ∧
      (∀ c : ChapterId, NotHeld s c → t.chapters[c] = s.chapters[c]) ∧
      (∀ k : TakeId, t.takes[k].map (fun r => { r with chain := [] }) = s.takes[k].map fun r => { r with chain := [] }) ∧
      (∀ q : Port, t.captures[q].map (fun st => { st with fifo := [] }) =
        s.captures[q].map fun st => { st with fifo := [] }) ∧
      ∀ p : Port, t.ports[p].exec = s.ports[p].exec ∧ t.ports[p].subs = s.ports[p].subs ∧
        t.ports[p].mask = s.ports[p].mask ∧ t.ports[p].mode = s.ports[p].mode ∧ t.ports[p].xfer = s.ports[p].xfer ∧
        t.ports[p].sent = s.ports[p].sent) ∧
  (∀ (i : Instr) (s t : State), exec i s = .next t →
      (i = .pageReadComplete ∨ i = .outputPageProgrammed ∨ i = .backgroundEraseComplete ∨ i = .builtInEraseComplete ∨
        i = .pageLoad ∨ i = .waitingAllocationServed ∨ (∃ l, i = .measureSample l) ∨ (∃ l, i = .meterBlock l) ∨
        (∃ l, i = .measureEnd l) ∨ (∃ l, i = .encodeFrame l) ∨ ∃ l, i = .encodeEnd l) →
        t.titles = s.titles ∧ t.profiles = s.profiles ∧ t.levels = s.levels ∧
        (∀ c : ChapterId, t.chapters[c].map (fun r => (r.title, r.position, r.editor, r.slots, r.cursor, r.assembled)) =
          s.chapters[c].map fun r => (r.title, r.position, r.editor, r.slots, r.cursor, r.assembled)) ∧
        (∀ c : ChapterId, NotHeld s c → t.chapters[c] = s.chapters[c]) ∧
        (∀ k : TakeId, t.takes[k].map (fun r => { r with chain := [] }) = s.takes[k].map fun r => { r with chain := [] }) ∧
        ∀ p : Port, t.ports[p].exec = s.ports[p].exec ∧ t.ports[p].subs = s.ports[p].subs ∧
          t.ports[p].mask = s.ports[p].mask ∧ t.ports[p].mode = s.ports[p].mode ∧ t.ports[p].xfer = s.ports[p].xfer ∧
          t.ports[p].sent = s.ports[p].sent) ∧
  ∀ (i : Instr) (s t : State) (p : Port) (k : ReqKind) (ps : List Byte) (act : State → Reply),
    requestRow i = some (p, k, ps, act) → exec i s = .next t → k ≠ .purge → k ≠ .takeStart → k ≠ .gateSet → k ≠ .takeStop →
    k ≠ .subscribe →
      t.levels = s.levels ∧ t.store.mem = s.store.mem ∧
      (∀ q : Port, t.captures[q].map (fun st => { st with fifo := [] }) =
        s.captures[q].map fun st => { st with fifo := [] }) ∧
      ∀ q : Port, t.ports[q].subs = s.ports[q].subs ∧ t.ports[q].mask = s.ports[q].mask ∧
        t.ports[q].mode = s.ports[q].mode ∧ (q ≠ p → t.ports[q].exec = s.ports[q].exec) ∧
        (q ≠ p ∨ (∃ d, s.ports[p].exec = .executing k ps d) → t.ports[q].sent = s.ports[q].sent)

/-! ### The laws that every step keeps -/

/-- The law of the queue (R87), kept by every step from every state that has it. -/
def Obligations.StepKeepsQueueLaw : Prop := ∀ s t : State, QueueLaw s → step s = .next t → QueueLaw t

/-- The law of the port (R186, R190): at most 16 notices in each queue. A level-mode source's pending bit is its
condition (R195). A read-ahead of at most two segments, and no fetch while it has two (R176, R177). -/
def Obligations.StepKeepsPortLevelAndSegmentLaws : Prop :=
  (∀ s t : State, PortLaw s → step s = .next t → PortLaw t) ∧
  (∀ s t : State, LevelLaw s → step s = .next t → LevelLaw t) ∧
  ∀ s t : State, SegmentLaw s → step s = .next t → SegmentLaw t

/-- The law of streams (R26). -/
def Obligations.StepKeepsStreamLaw : Prop := ∀ s t : State, StreamLaw s → step s = .next t → StreamLaw t

/-- The law of marks, and a FIFO of at most 4,096 samples (R34, R32). -/
def Obligations.StepKeepsMarksAndFifoLaws : Prop :=
  ∀ s t : State, MarksLaw s → FifoLaw s → step s = .next t → MarksLaw t ∧ FifoLaw t

/-- Every profile within its ranges, its pairs of limits in order (R149). The canonical form of the array's contents
(R63; the form is the model's). -/
def Obligations.StepKeepsProfilesAndMemoryLaws : Prop :=
  (∀ s t : State, ProfilesLaw s → step s = .next t → ProfilesLaw t) ∧
  ∀ s t : State, MemoryLaw s → step s = .next t → MemoryLaw t

/-- The law of claims and the range of the cursor (R13, R45). -/
def Obligations.StepKeepsClaimAndCursorLaws : Prop :=
  ∀ s t : State, QueueLaw s → ClaimLaw s → CursorLaw s → step s = .next t → ClaimLaw t ∧ CursorLaw t

/-- The law of positions (R6). -/
def Obligations.StepKeepsPositionLaw : Prop := ∀ s t : State, PositionLaw s → step s = .next t → PositionLaw t

/-- The law of references (R9). -/
def Obligations.StepKeepsReferenceLaw : Prop :=
  ∀ s t : State, QueueLaw s → StreamLaw s → ReferenceLaw s → step s = .next t → ReferenceLaw t

/-- The law of blocks (R64): ERASED, DIRTY, the block under an erase, and the chains of takes, outputs and lanes
hold each of the 16,384 blocks once; every step keeps it, and with it the law of pages (R72, R75, R76, R79), in
every state that has the laws of the queue (R87), of streams (R26) and of presence (R10, R11). -/
def Obligations.StepKeepsBlockAndPageLaws : Prop :=
  ∀ s t : State, QueueLaw s → StreamLaw s → PresenceLaw s → PageLaw s → BlockLaw s → step s = .next t →
    BlockLaw t ∧ PageLaw t

/-- The law of lengths (R57, R36): a take holds at most 2^28 samples, a CAPTURING one fewer, and a chapter that has
passed close is from one meter block to 2^28 samples long. The presence column of R11's table with R10: an assembled
length outside ASSEMBLING only, a result group in RENDERED, REJECTED and PUBLISHED only, output in RENDERED and
PUBLISHED. Every step keeps both, in every state that has the laws of the queue, of streams and of positions. -/
def Obligations.StepKeepsLengthAndPresenceLaws : Prop :=
  ∀ s t : State, QueueLaw s → StreamLaw s → PositionLaw s → LengthLaw s → PresenceLaw s → step s = .next t →
    LengthLaw t ∧ PresenceLaw t

/-- The law of publication (R164, R85): a PUBLISHED chapter keeps its state, assembled length, result group and with
it its output's chain under every command but its own COLLECT and DEVICE_RESET. -/
def Obligations.PublishedChapterIsLocked : Prop :=
  ∀ (i : Instr) (s t : State) (c : ChapterId) (r : Chapter), QueueLaw s → s.chapters[c] = some r → r.state = .published →
    exec i s = .next t → (∀ p ps, i = .collect p ps → chapterAt ps 0 ≠ some c) → i ≠ .deviceReset →
      ∃ r', t.chapters[c] = some r' ∧ r'.state = .published ∧ r'.assembled = r.assembled ∧ r'.result = r.result ∧
        r'.title = r.title

/-- Every law holds right after device reset. -/
def Obligations.LawsHoldAtReset : Prop :=
  QueueLaw State.reset ∧ PortLaw State.reset ∧ LevelLaw State.reset ∧ StreamLaw State.reset ∧ MarksLaw State.reset ∧
    FifoLaw State.reset ∧ ProfilesLaw State.reset ∧ MemoryLaw State.reset ∧ ClaimLaw State.reset ∧
    CursorLaw State.reset ∧ PositionLaw State.reset ∧ ReferenceLaw State.reset ∧ SegmentLaw State.reset ∧
    BlockLaw State.reset ∧ PageLaw State.reset ∧ LengthLaw State.reset ∧ PresenceLaw State.reset

/-! ### The arithmetic -/

/-- The loudness and amplitude codes of R110 and R111 against their tables' formulas over the reals: the code's
entry does not exceed the value, the next one does, and a value below the first entry has the code −900. The gain,
reduction and amplitude tables are their formulas over the reals (R127, R111, R133). -/
def Obligations.TablesFollowTheirFormulas : Prop :=
  ((∀ (ms : Nat) (c : Int), c = loudnessCode ms → -900 ≤ c ∧ c ≤ 60 ∧
      (⌈(2 : ℝ) ^ 30 * 10 ^ (-(9 : ℝ))⌉₊ ≤ ms → ⌈(2 : ℝ) ^ 30 * 10 ^ ((c : ℝ) / 100)⌉₊ ≤ ms) ∧
      (ms < ⌈(2 : ℝ) ^ 30 * 10 ^ (-(9 : ℝ))⌉₊ → c = -900) ∧
      (c < 60 → ms < ⌈(2 : ℝ) ^ 30 * 10 ^ (((c : ℝ) + 1) / 100)⌉₊)) ∧
    ∀ (p : Nat) (c : Int), c = amplitudeCode p → -900 ≤ c ∧ c ≤ 0 ∧
      (⌈(2 : ℝ) ^ 23 * 10 ^ (-(9 : ℝ) / 2)⌉₊ ≤ p → ⌈(2 : ℝ) ^ 23 * 10 ^ ((c : ℝ) / 200)⌉₊ ≤ p) ∧
      (p < ⌈(2 : ℝ) ^ 23 * 10 ^ (-(9 : ℝ) / 2)⌉₊ → c = -900) ∧
      (c < 0 → p < ⌈(2 : ℝ) ^ 23 * 10 ^ (((c : ℝ) + 1) / 200)⌉₊)) ∧
  (∀ g : Int, -240 ≤ g → g ≤ 240 → (gainEntry g : Int) = ⌊(2 : ℝ) ^ 14 * 10 ^ ((g : ℝ) / 200) + 1 / 2⌋) ∧
  (∀ r : Nat, r ≤ 240 → reductionEntry r = gainEntry (-r)) ∧
  ∀ pr : Profile, -120 ≤ pr.ceiling → pr.ceiling ≤ -10 →
    ceilingValue pr = ⌈(2 : ℝ) ^ 23 * 10 ^ ((pr.ceiling : ℝ) / 200)⌉₊

/-- A meter fed from clear completes a block at every N-th sample and no sooner, each completed block is in the
histogram once, and the peak is the largest magnitude fed (R114 to R117). -/
def Obligations.MeterCountsItsBlocks : Prop :=
  ∀ (n : Nat) (qs : Option Int) (xs : List Sample) (m : Meter), 0 < n → m = xs.foldl (meterStep n qs) Meter.clear →
    m.blocks = xs.length / n ∧ m.count = xs.length % n ∧ (m.hist.toList.map (·.count)).sum = xs.length / n ∧
      (∀ x ∈ xs, x.natAbs ≤ m.peak) ∧ (m.peak = 0 ∨ ∃ x ∈ xs, m.peak = x.natAbs)

/-- The limiter's reduction is the least that brings the frame's peak within C, or LB where none up to LB does
(R133), and never above LB from frame to frame (R134, R129). The step exponent is the least k in 0..23 for which D
does not exceed Qmax · 2^k, and every residual lies in −Qmax..Qmax (R138 to R140). The law of the ceiling (R136,
R141): the decoded samples of a frame, and the last limited one it hands on, lie within ±C. A frame from its samples
to the chain's next state: y1 is the product with G in units of 2^−14, halves rounded upward (R132); the multiplier
moves from the previous reduction's to the present one's across the frame, truncated toward zero, and y2 is y1 times
it, rounded as y1 is (R135); the samples of y2 outside ±C are set to ±C and counted, up to 65,535 (R136); the largest
reduction and the previous one follow (R137); k is that of the largest step of y2 (R139); each residual is the nearest
multiple of 2^k, halves upward, within ±Qmax, and the decoded sample follows it (R140, R141). -/
def Obligations.LimiterCoderAndCeiling : Prop :=
  ((∀ c lb pk r : Nat, r = reductionNeeded c lb pk →
      (pk ≤ c → r = 0) ∧
      (c < pk → (∃ k, 1 ≤ k ∧ k ≤ lb ∧ scaled pk (reductionEntry k) ≤ c) →
        1 ≤ r ∧ r ≤ lb ∧ scaled pk (reductionEntry r) ≤ c ∧ ∀ k, 1 ≤ k → k < r → c < scaled pk (reductionEntry k)) ∧
      (c < pk → (∀ k, 1 ≤ k → k ≤ lb → c < scaled pk (reductionEntry k)) → r = lb)) ∧
    (∀ need rPrev rel : Nat, (reductionNow need rPrev rel : Int) = max (max (need : Int) (rPrev - rel)) 0) ∧
    ∀ (pr : Profile) (gain : Int) (total len : Nat) (ch : Chain) (xs : List Sample), ch.rPrev ≤ pr.lb →
      (codeFrame pr gain total len ch xs).1.rPrev ≤ pr.lb) ∧
  ((∀ m d k : Nat, 3 ≤ m → d < 2 ^ 24 → k = stepExponent m d →
      k ≤ 23 ∧ d ≤ (2 ^ (m - 1) - 1) * 2 ^ k ∧ ∀ j, j < k → (2 ^ (m - 1) - 1) * 2 ^ j < d) ∧
    ∀ (m k c : Nat) (r : Sample) (ys : List Sample), ∀ q ∈ (coded m k c r ys).map (·.1),
      -(2 ^ (m - 1) - 1 : Int) ≤ q ∧ q ≤ 2 ^ (m - 1) - 1) ∧
  (∀ (m k c : Nat) (r y : Sample) (rest : List Sample) (most q r' : Int), most = ((2 ^ (m - 1) - 1 : Nat) : Int) →
    q = max (-most) (min most (if k = 0 then y - r else (y - r + 2 ^ (k - 1)) / 2 ^ k)) →
    r' = max (-(c : Int)) (min c (r + q * 2 ^ k)) → coded m k c r (y :: rest) = (q, r') :: coded m k c r' rest) ∧
  (∀ (pr : Profile) (gain : Int) (total len c pk cur k : Nat) (ch : Chain) (xs y1 raw y2 : List Sample)
    (codes : List (Int × Sample)) (bytes : List Byte), c = ceilingValue pr →
    y1 = xs.map (fun x : Sample => (x * (gainEntry gain : Int) + 2 ^ 13) / 2 ^ 14) →
    (∀ y ∈ y1, y.natAbs ≤ pk) → (pk = 0 ∨ ∃ y ∈ y1, pk = y.natAbs) →
    cur = reductionNow (reductionNeeded c pr.lb pk) ch.rPrev pr.rel →
    raw = y1.zipIdx.map (fun w : Sample × Nat => (w.1 * ((reductionEntry ch.rPrev : Int) + Int.tdiv
      (((reductionEntry cur : Int) - reductionEntry ch.rPrev) * (w.2 + 1)) xs.length) + 2 ^ 13) / 2 ^ 14) →
    y2 = raw.map (fun y : Sample => max (-(c : Int)) (min (c : Int) y)) →
    k = stepExponent pr.m (((ch.lastLimited :: y2).zipWith (fun a b => (b - a).natAbs) y2).foldl max 0) →
    codes = coded pr.m k c ch.lastDecoded y2 →
    bytes = frameBytes pr.m k (decide (0 < cur)) (decide (ch.framesDone = 0))
      (decide (ch.framesDone + 1 = frameCount total len)) (codes.map (·.1)) →
      codeFrame pr gain total len ch xs = ({ ch with
        rPrev := cur, largest := max ch.largest cur
        clips := min 65535 (ch.clips + (raw.filter fun y => decide (y < -(c : Int) ∨ (c : Int) < y)).length)
        lastLimited := y2.getLastD ch.lastLimited, lastDecoded := (codes.map (·.2)).getLastD ch.lastDecoded
        framesDone := ch.framesDone + 1, byteTotal := ch.byteTotal + bytes.length }, codes.map (·.2), bytes)) ∧
  ∀ (pr : Profile) (gain : Int) (total len : Nat) (ch ch' : Chain) (xs rs : List Sample) (bytes : List Byte),
    codeFrame pr gain total len ch xs = (ch', rs, bytes) →
      rs.length = xs.length ∧ (∀ r ∈ rs, -(ceilingValue pr : Int) ≤ r ∧ r ≤ ceilingValue pr) ∧
        (xs ≠ [] → -(ceilingValue pr : Int) ≤ ch'.lastLimited ∧ ch'.lastLimited ≤ ceilingValue pr)

/-- A decoder that has only a frame's bytes, C and the last decoded sample reproduces the coder's decoded samples
(R142, R143, R169): the first byte gives k and the flags, the rest the codes, most significant bit first, padded
with zero bits. -/
def Obligations.FramesDecodeToTheMeteredSamples : Prop :=
  ∀ (pr : Profile) (gain : Int) (total len : Nat) (ch ch' : Chain) (xs rs : List Sample) (bytes : List Byte),
    3 ≤ pr.m → pr.m ≤ 8 → codeFrame pr gain total len ch xs = (ch', rs, bytes) →
      ∃ b rest, bytes = b :: rest ∧ rest.length = (xs.length * pr.m + 7) / 8 ∧
        decoded (b.toNat % 32) (ceilingValue pr) ch.lastDecoded
          (readCodes pr.m xs.length (rest.flatMap bitsOf)) = rs ∧
        (∀ bit ∈ (rest.flatMap bitsOf).drop (xs.length * pr.m), bit = false) ∧
        b.toNat % 32 ≤ 23 ∧ b.getLsbD 5 = decide (0 < ch'.rPrev) ∧ b.getLsbD 6 = decide (ch.framesDone = 0) ∧
        b.getLsbD 7 = decide (ch.framesDone + 1 = frameCount total len)

/-- The sequence x that a lane produces sample by sample is the one that R60 lays down step by step, for a script
whose crossfades pass R56; its length is the sum of the net contributions (R58 to R62). -/
def Obligations.AssembledSequenceIsLaidDown : Prop :=
  ∀ (raw : Nat → Nat → Sample) (steps : List Step), crossfadesFit 0 steps →
    (laidDown raw 0 [] steps).length = (steps.map netContribution).sum ∧
      ∀ n, assembledSample (fun k i => some (raw k i)) steps n = (laidDown raw 0 [] steps)[n]?

end
end

