-- ==== Sys2Proof/Laws/Memory.lean ====
section
/-! SUPPORT. The canonical form of the array's contents, kept by both operations that change them (R63, R68). -/

namespace Sys2Proof.Machine

/-- The canonical form, as two facts about the list. -/
theorem Memory.wf_iff (mem : List Host.Cell) :
    Memory.wf mem = true ↔ mem.Pairwise (fun c d => c.1 < d.1) ∧ ∀ c ∈ mem, c.2 ≠ unlisted := by
  induction mem with
  | nil => simp [Memory.wf]
  | cons c rest ih =>
    cases rest with
    | nil => simp [Memory.wf]
    | cons d rest =>
      rw [Memory.wf, Bool.and_eq_true, Bool.and_eq_true, ih, List.pairwise_cons (a := c)]
      constructor
      · rintro ⟨⟨hc, hd⟩, hp, hn⟩
        have hd : c.1 < d.1 := by simpa using hd
        refine ⟨⟨fun x hx => ?_, hp⟩, fun x hx => ?_⟩
        · rcases List.mem_cons.mp hx with rfl | hx
          · exact hd
          · exact hd.trans ((List.pairwise_cons.mp hp).1 x hx)
        · rcases List.mem_cons.mp hx with rfl | hx
          · simpa using hc
          · exact hn x hx
      · rintro ⟨⟨hlt, hp⟩, hn⟩
        exact ⟨⟨by simpa using hn c (by simp), by simpa using hlt d (by simp)⟩, hp,
          fun x hx => hn x (List.mem_cons_of_mem _ hx)⟩

/-- The cells of a run of bytes lie in the run and are not 0x00. -/
theorem mem_cellsFrom {a : Nat} {bs : List Byte} {c : Host.Cell} (h : c ∈ cellsFrom a bs) :
    a ≤ c.1 ∧ c.1 < a + bs.length ∧ c.2 ≠ unlisted := by
  induction bs generalizing a with
  | nil => simp [cellsFrom] at h
  | cons b rest ih =>
    rw [cellsFrom] at h
    split at h
    · obtain ⟨h1, h2, h3⟩ := ih h
      exact ⟨by omega, by simp only [List.length_cons]; omega, h3⟩
    · rcases List.mem_cons.mp h with rfl | h
      · exact ⟨le_refl _, by simp, ‹_›⟩
      · obtain ⟨h1, h2, h3⟩ := ih h
        exact ⟨by omega, by simp only [List.length_cons]; omega, h3⟩

/-- The cells of a run of bytes rise. -/
theorem pairwise_cellsFrom (a : Nat) (bs : List Byte) : (cellsFrom a bs).Pairwise fun c d => c.1 < d.1 := by
  induction bs generalizing a with
  | nil => simp [cellsFrom]
  | cons b rest ih =>
    rw [cellsFrom]
    split
    · exact ih _
    · refine List.pairwise_cons.mpr ⟨fun c hc => ?_, ih _⟩
      have := (mem_cellsFrom hc).1
      show a < c.1
      omega

/-- Erasing a block keeps the canonical form (R68). -/
theorem Memory.wf_eraseBlock {mem : List Host.Cell} (h : Memory.wf mem = true) (b : Nat) :
    Memory.wf (eraseBlock mem b) = true := by
  rw [Memory.wf_iff] at *
  exact ⟨h.1.filter _, fun c hc => h.2 c (List.mem_of_mem_filter hc)⟩

/-- Programming a page keeps the canonical form (R68). -/
theorem Memory.wf_programPage {mem : List Host.Cell} (h : Memory.wf mem = true) (slot : Nat) (bytes : List Byte) :
    Memory.wf (programPage mem slot bytes) = true := by
  rw [Memory.wf_iff] at *
  have hlen : (bytes.take Config.pageBytes).length ≤ Config.pageBytes := List.length_take_le _ _
  have hpage : pageBase (slot + 1) = pageBase slot + Config.pageBytes := by simp [pageBase, Nat.add_mul]
  refine ⟨?_, ?_⟩
  · rw [programPage, List.pairwise_append, List.pairwise_append]
    refine ⟨⟨h.1.filter _, pairwise_cellsFrom _ _, ?_⟩, h.1.filter _, ?_⟩
    · intro c hc d hd
      have h1 : c.1 < pageBase slot := by simpa using (List.mem_filter.mp hc).2
      have h2 := (mem_cellsFrom hd).1
      omega
    · intro c hc d hd
      have h2 : pageBase (slot + 1) ≤ d.1 := by simpa using (List.mem_filter.mp hd).2
      rcases List.mem_append.mp hc with hc | hc
      · have h1 : c.1 < pageBase slot := by simpa using (List.mem_filter.mp hc).2
        omega
      · have := (mem_cellsFrom hc).2.1
        omega
  · intro c hc
    rw [programPage] at hc
    rcases List.mem_append.mp hc with hc | hc
    · rcases List.mem_append.mp hc with hc | hc
      · exact h.2 c (List.mem_of_mem_filter hc)
      · exact (mem_cellsFrom hc).2.2
    · exact h.2 c (List.mem_of_mem_filter hc)

/-- The array's contents right after device reset have the canonical form. -/
theorem Memory.wf_reset : Memory.wf State.reset.store.mem = true := rfl

/-- An address no cell is listed at reads as unlisted. -/
theorem readByte_of_forall_ne {mem : List Host.Cell} {a : Nat} (h : ∀ c ∈ mem, c.1 ≠ a) :
    readByte mem a = unlisted := by
  induction mem with
  | nil => rfl
  | cons c rest ih =>
    rw [readByte, if_neg (h c (by simp)), ih fun d hd => h d (List.mem_cons_of_mem _ hd)]

/-- A read skips a part of the list that lists nothing at the address. -/
theorem readByte_append_right {mem mem' : List Host.Cell} {a : Nat} (h : ∀ c ∈ mem, c.1 ≠ a) :
    readByte (mem ++ mem') a = readByte mem' a := by
  induction mem with
  | nil => rfl
  | cons c rest ih =>
    rw [List.cons_append, readByte, if_neg (h c (by simp)), ih fun d hd => h d (List.mem_cons_of_mem _ hd)]

/-- A read ends in the first part of the list when the second lists nothing at the address. -/
theorem readByte_append_left {mem mem' : List Host.Cell} {a : Nat} (h : ∀ c ∈ mem', c.1 ≠ a) :
    readByte (mem ++ mem') a = readByte mem a := by
  induction mem with
  | nil => simpa [readByte] using readByte_of_forall_ne h
  | cons c rest ih => rw [List.cons_append, readByte, readByte, ih]

/-- A read of an address that a filter keeps is the read without the filter. -/
theorem readByte_filter {mem : List Host.Cell} {a : Nat} {f : Host.Cell → Bool} (h : ∀ b, f (a, b) = true) :
    readByte (mem.filter f) a = readByte mem a := by
  induction mem with
  | nil => rfl
  | cons c rest ih =>
    obtain ⟨x, b⟩ := c
    by_cases hx : x = a
    · subst hx
      simp [h b, readByte]
    · rw [List.filter_cons]
      split
      · simp [readByte, hx, ih]
      · simp [readByte, hx, ih]

/-- A read of a run of bytes. -/
theorem readByte_cellsFrom (a i : Nat) (bs : List Byte) : readByte (cellsFrom a bs) (a + i) = bs.getD i unlisted := by
  induction bs generalizing a i with
  | nil => simp [cellsFrom, readByte]
  | cons b rest ih =>
    rw [cellsFrom]
    cases i with
    | zero =>
      split
      · rename_i hb
        rw [readByte_of_forall_ne fun c hc => by have := (mem_cellsFrom hc).1; omega]
        simp [hb]
      · simp [readByte]
    | succ i =>
      have hi : a + (i + 1) = (a + 1) + i := by omega
      split
      · rw [hi, ih]; simp
      · rw [readByte, if_neg (by simp), hi, ih]; simp

end Sys2Proof.Machine
end

