-- ==== Sys2Proof/Laws/State.lean ====
section
/-! SUPPORT. One lemma per field per update of the state: what each named update of Ops.lean leaves, and what a record
reads as after an update of it or of another. -/

namespace Sys2Proof.Machine

variable (s : State)

/-! ### modPort -/

@[simp] theorem modPort_titles (p : Port) (f : PortState → PortState) : (modPort p f s).titles = s.titles := rfl
@[simp] theorem modPort_takes (p : Port) (f : PortState → PortState) : (modPort p f s).takes = s.takes := rfl
@[simp] theorem modPort_chapters (p : Port) (f : PortState → PortState) : (modPort p f s).chapters = s.chapters := rfl
@[simp] theorem modPort_captures (p : Port) (f : PortState → PortState) : (modPort p f s).captures = s.captures := rfl
@[simp] theorem modPort_levels (p : Port) (f : PortState → PortState) : (modPort p f s).levels = s.levels := rfl
@[simp] theorem modPort_store (p : Port) (f : PortState → PortState) : (modPort p f s).store = s.store := rfl
@[simp] theorem modPort_queue (p : Port) (f : PortState → PortState) : (modPort p f s).queue = s.queue := rfl
@[simp] theorem modPort_lanes (p : Port) (f : PortState → PortState) : (modPort p f s).lanes = s.lanes := rfl
@[simp] theorem modPort_profiles (p : Port) (f : PortState → PortState) : (modPort p f s).profiles = s.profiles := rfl
@[simp] theorem modPort_pending (p : Port) (f : PortState → PortState) : (modPort p f s).pending = s.pending := rfl

/-! ### modTitle -/

@[simp] theorem modTitle_takes (t : TitleNo) (f : Title → Title) : (modTitle t f s).takes = s.takes := rfl
@[simp] theorem modTitle_chapters (t : TitleNo) (f : Title → Title) : (modTitle t f s).chapters = s.chapters := rfl
@[simp] theorem modTitle_captures (t : TitleNo) (f : Title → Title) : (modTitle t f s).captures = s.captures := rfl
@[simp] theorem modTitle_levels (t : TitleNo) (f : Title → Title) : (modTitle t f s).levels = s.levels := rfl
@[simp] theorem modTitle_store (t : TitleNo) (f : Title → Title) : (modTitle t f s).store = s.store := rfl
@[simp] theorem modTitle_queue (t : TitleNo) (f : Title → Title) : (modTitle t f s).queue = s.queue := rfl
@[simp] theorem modTitle_lanes (t : TitleNo) (f : Title → Title) : (modTitle t f s).lanes = s.lanes := rfl
@[simp] theorem modTitle_profiles (t : TitleNo) (f : Title → Title) : (modTitle t f s).profiles = s.profiles := rfl
@[simp] theorem modTitle_ports (t : TitleNo) (f : Title → Title) : (modTitle t f s).ports = s.ports := rfl
@[simp] theorem modTitle_pending (t : TitleNo) (f : Title → Title) : (modTitle t f s).pending = s.pending := rfl

/-! ### setTitle -/

@[simp] theorem setTitle_takes (t : TitleNo) (r : Option Title) : (setTitle t r s).takes = s.takes := rfl
@[simp] theorem setTitle_chapters (t : TitleNo) (r : Option Title) : (setTitle t r s).chapters = s.chapters := rfl
@[simp] theorem setTitle_captures (t : TitleNo) (r : Option Title) : (setTitle t r s).captures = s.captures := rfl
@[simp] theorem setTitle_levels (t : TitleNo) (r : Option Title) : (setTitle t r s).levels = s.levels := rfl
@[simp] theorem setTitle_store (t : TitleNo) (r : Option Title) : (setTitle t r s).store = s.store := rfl
@[simp] theorem setTitle_queue (t : TitleNo) (r : Option Title) : (setTitle t r s).queue = s.queue := rfl
@[simp] theorem setTitle_lanes (t : TitleNo) (r : Option Title) : (setTitle t r s).lanes = s.lanes := rfl
@[simp] theorem setTitle_profiles (t : TitleNo) (r : Option Title) : (setTitle t r s).profiles = s.profiles := rfl
@[simp] theorem setTitle_ports (t : TitleNo) (r : Option Title) : (setTitle t r s).ports = s.ports := rfl
@[simp] theorem setTitle_pending (t : TitleNo) (r : Option Title) : (setTitle t r s).pending = s.pending := rfl

/-! ### modTake -/

@[simp] theorem modTake_titles (t : TakeId) (f : Take → Take) : (modTake t f s).titles = s.titles := rfl
@[simp] theorem modTake_chapters (t : TakeId) (f : Take → Take) : (modTake t f s).chapters = s.chapters := rfl
@[simp] theorem modTake_captures (t : TakeId) (f : Take → Take) : (modTake t f s).captures = s.captures := rfl
@[simp] theorem modTake_levels (t : TakeId) (f : Take → Take) : (modTake t f s).levels = s.levels := rfl
@[simp] theorem modTake_store (t : TakeId) (f : Take → Take) : (modTake t f s).store = s.store := rfl
@[simp] theorem modTake_queue (t : TakeId) (f : Take → Take) : (modTake t f s).queue = s.queue := rfl
@[simp] theorem modTake_lanes (t : TakeId) (f : Take → Take) : (modTake t f s).lanes = s.lanes := rfl
@[simp] theorem modTake_profiles (t : TakeId) (f : Take → Take) : (modTake t f s).profiles = s.profiles := rfl
@[simp] theorem modTake_ports (t : TakeId) (f : Take → Take) : (modTake t f s).ports = s.ports := rfl
@[simp] theorem modTake_pending (t : TakeId) (f : Take → Take) : (modTake t f s).pending = s.pending := rfl

/-! ### setTake -/

@[simp] theorem setTake_titles (t : TakeId) (r : Option Take) : (setTake t r s).titles = s.titles := rfl
@[simp] theorem setTake_chapters (t : TakeId) (r : Option Take) : (setTake t r s).chapters = s.chapters := rfl
@[simp] theorem setTake_captures (t : TakeId) (r : Option Take) : (setTake t r s).captures = s.captures := rfl
@[simp] theorem setTake_levels (t : TakeId) (r : Option Take) : (setTake t r s).levels = s.levels := rfl
@[simp] theorem setTake_store (t : TakeId) (r : Option Take) : (setTake t r s).store = s.store := rfl
@[simp] theorem setTake_queue (t : TakeId) (r : Option Take) : (setTake t r s).queue = s.queue := rfl
@[simp] theorem setTake_lanes (t : TakeId) (r : Option Take) : (setTake t r s).lanes = s.lanes := rfl
@[simp] theorem setTake_profiles (t : TakeId) (r : Option Take) : (setTake t r s).profiles = s.profiles := rfl
@[simp] theorem setTake_ports (t : TakeId) (r : Option Take) : (setTake t r s).ports = s.ports := rfl
@[simp] theorem setTake_pending (t : TakeId) (r : Option Take) : (setTake t r s).pending = s.pending := rfl

/-! ### modChapter -/

@[simp] theorem modChapter_titles (c : ChapterId) (f : Chapter → Chapter) : (modChapter c f s).titles = s.titles := rfl
@[simp] theorem modChapter_takes (c : ChapterId) (f : Chapter → Chapter) : (modChapter c f s).takes = s.takes := rfl
@[simp] theorem modChapter_captures (c : ChapterId) (f : Chapter → Chapter) : (modChapter c f s).captures = s.captures := rfl
@[simp] theorem modChapter_levels (c : ChapterId) (f : Chapter → Chapter) : (modChapter c f s).levels = s.levels := rfl
@[simp] theorem modChapter_store (c : ChapterId) (f : Chapter → Chapter) : (modChapter c f s).store = s.store := rfl
@[simp] theorem modChapter_queue (c : ChapterId) (f : Chapter → Chapter) : (modChapter c f s).queue = s.queue := rfl
@[simp] theorem modChapter_lanes (c : ChapterId) (f : Chapter → Chapter) : (modChapter c f s).lanes = s.lanes := rfl
@[simp] theorem modChapter_profiles (c : ChapterId) (f : Chapter → Chapter) : (modChapter c f s).profiles = s.profiles := rfl
@[simp] theorem modChapter_ports (c : ChapterId) (f : Chapter → Chapter) : (modChapter c f s).ports = s.ports := rfl
@[simp] theorem modChapter_pending (c : ChapterId) (f : Chapter → Chapter) : (modChapter c f s).pending = s.pending := rfl

/-! ### setChapter -/

@[simp] theorem setChapter_titles (c : ChapterId) (r : Option Chapter) : (setChapter c r s).titles = s.titles := rfl
@[simp] theorem setChapter_takes (c : ChapterId) (r : Option Chapter) : (setChapter c r s).takes = s.takes := rfl
@[simp] theorem setChapter_captures (c : ChapterId) (r : Option Chapter) : (setChapter c r s).captures = s.captures := rfl
@[simp] theorem setChapter_levels (c : ChapterId) (r : Option Chapter) : (setChapter c r s).levels = s.levels := rfl
@[simp] theorem setChapter_store (c : ChapterId) (r : Option Chapter) : (setChapter c r s).store = s.store := rfl
@[simp] theorem setChapter_queue (c : ChapterId) (r : Option Chapter) : (setChapter c r s).queue = s.queue := rfl
@[simp] theorem setChapter_lanes (c : ChapterId) (r : Option Chapter) : (setChapter c r s).lanes = s.lanes := rfl
@[simp] theorem setChapter_profiles (c : ChapterId) (r : Option Chapter) : (setChapter c r s).profiles = s.profiles := rfl
@[simp] theorem setChapter_ports (c : ChapterId) (r : Option Chapter) : (setChapter c r s).ports = s.ports := rfl
@[simp] theorem setChapter_pending (c : ChapterId) (r : Option Chapter) : (setChapter c r s).pending = s.pending := rfl

/-! ### modStream -/

@[simp] theorem modStream_titles (p : Port) (f : Stream → Stream) : (modStream p f s).titles = s.titles := rfl
@[simp] theorem modStream_takes (p : Port) (f : Stream → Stream) : (modStream p f s).takes = s.takes := rfl
@[simp] theorem modStream_chapters (p : Port) (f : Stream → Stream) : (modStream p f s).chapters = s.chapters := rfl
@[simp] theorem modStream_levels (p : Port) (f : Stream → Stream) : (modStream p f s).levels = s.levels := rfl
@[simp] theorem modStream_store (p : Port) (f : Stream → Stream) : (modStream p f s).store = s.store := rfl
@[simp] theorem modStream_queue (p : Port) (f : Stream → Stream) : (modStream p f s).queue = s.queue := rfl
@[simp] theorem modStream_lanes (p : Port) (f : Stream → Stream) : (modStream p f s).lanes = s.lanes := rfl
@[simp] theorem modStream_profiles (p : Port) (f : Stream → Stream) : (modStream p f s).profiles = s.profiles := rfl
@[simp] theorem modStream_ports (p : Port) (f : Stream → Stream) : (modStream p f s).ports = s.ports := rfl
@[simp] theorem modStream_pending (p : Port) (f : Stream → Stream) : (modStream p f s).pending = s.pending := rfl

/-! ### setStream -/

@[simp] theorem setStream_titles (p : Port) (r : Option Stream) : (setStream p r s).titles = s.titles := rfl
@[simp] theorem setStream_takes (p : Port) (r : Option Stream) : (setStream p r s).takes = s.takes := rfl
@[simp] theorem setStream_chapters (p : Port) (r : Option Stream) : (setStream p r s).chapters = s.chapters := rfl
@[simp] theorem setStream_levels (p : Port) (r : Option Stream) : (setStream p r s).levels = s.levels := rfl
@[simp] theorem setStream_store (p : Port) (r : Option Stream) : (setStream p r s).store = s.store := rfl
@[simp] theorem setStream_queue (p : Port) (r : Option Stream) : (setStream p r s).queue = s.queue := rfl
@[simp] theorem setStream_lanes (p : Port) (r : Option Stream) : (setStream p r s).lanes = s.lanes := rfl
@[simp] theorem setStream_profiles (p : Port) (r : Option Stream) : (setStream p r s).profiles = s.profiles := rfl
@[simp] theorem setStream_ports (p : Port) (r : Option Stream) : (setStream p r s).ports = s.ports := rfl
@[simp] theorem setStream_pending (p : Port) (r : Option Stream) : (setStream p r s).pending = s.pending := rfl

/-! ### modLevel -/

@[simp] theorem modLevel_titles (p : Port) (f : LevelEntry → LevelEntry) : (modLevel p f s).titles = s.titles := rfl
@[simp] theorem modLevel_takes (p : Port) (f : LevelEntry → LevelEntry) : (modLevel p f s).takes = s.takes := rfl
@[simp] theorem modLevel_chapters (p : Port) (f : LevelEntry → LevelEntry) : (modLevel p f s).chapters = s.chapters := rfl
@[simp] theorem modLevel_captures (p : Port) (f : LevelEntry → LevelEntry) : (modLevel p f s).captures = s.captures := rfl
@[simp] theorem modLevel_store (p : Port) (f : LevelEntry → LevelEntry) : (modLevel p f s).store = s.store := rfl
@[simp] theorem modLevel_queue (p : Port) (f : LevelEntry → LevelEntry) : (modLevel p f s).queue = s.queue := rfl
@[simp] theorem modLevel_lanes (p : Port) (f : LevelEntry → LevelEntry) : (modLevel p f s).lanes = s.lanes := rfl
@[simp] theorem modLevel_profiles (p : Port) (f : LevelEntry → LevelEntry) : (modLevel p f s).profiles = s.profiles := rfl
@[simp] theorem modLevel_ports (p : Port) (f : LevelEntry → LevelEntry) : (modLevel p f s).ports = s.ports := rfl
@[simp] theorem modLevel_pending (p : Port) (f : LevelEntry → LevelEntry) : (modLevel p f s).pending = s.pending := rfl

/-! ### modStore -/

@[simp] theorem modStore_titles (f : Store → Store) : (modStore f s).titles = s.titles := rfl
@[simp] theorem modStore_takes (f : Store → Store) : (modStore f s).takes = s.takes := rfl
@[simp] theorem modStore_chapters (f : Store → Store) : (modStore f s).chapters = s.chapters := rfl
@[simp] theorem modStore_captures (f : Store → Store) : (modStore f s).captures = s.captures := rfl
@[simp] theorem modStore_levels (f : Store → Store) : (modStore f s).levels = s.levels := rfl
@[simp] theorem modStore_queue (f : Store → Store) : (modStore f s).queue = s.queue := rfl
@[simp] theorem modStore_lanes (f : Store → Store) : (modStore f s).lanes = s.lanes := rfl
@[simp] theorem modStore_profiles (f : Store → Store) : (modStore f s).profiles = s.profiles := rfl
@[simp] theorem modStore_ports (f : Store → Store) : (modStore f s).ports = s.ports := rfl
@[simp] theorem modStore_pending (f : Store → Store) : (modStore f s).pending = s.pending := rfl

/-! ### modJob -/

@[simp] theorem modJob_titles (l : Lane) (f : Job → Job) : (modJob l f s).titles = s.titles := rfl
@[simp] theorem modJob_takes (l : Lane) (f : Job → Job) : (modJob l f s).takes = s.takes := rfl
@[simp] theorem modJob_chapters (l : Lane) (f : Job → Job) : (modJob l f s).chapters = s.chapters := rfl
@[simp] theorem modJob_captures (l : Lane) (f : Job → Job) : (modJob l f s).captures = s.captures := rfl
@[simp] theorem modJob_levels (l : Lane) (f : Job → Job) : (modJob l f s).levels = s.levels := rfl
@[simp] theorem modJob_store (l : Lane) (f : Job → Job) : (modJob l f s).store = s.store := rfl
@[simp] theorem modJob_queue (l : Lane) (f : Job → Job) : (modJob l f s).queue = s.queue := rfl
@[simp] theorem modJob_profiles (l : Lane) (f : Job → Job) : (modJob l f s).profiles = s.profiles := rfl
@[simp] theorem modJob_ports (l : Lane) (f : Job → Job) : (modJob l f s).ports = s.ports := rfl
@[simp] theorem modJob_pending (l : Lane) (f : Job → Job) : (modJob l f s).pending = s.pending := rfl

/-! ### setLane -/

@[simp] theorem setLane_titles (l : Lane) (j : Option Job) : (setLane l j s).titles = s.titles := rfl
@[simp] theorem setLane_takes (l : Lane) (j : Option Job) : (setLane l j s).takes = s.takes := rfl
@[simp] theorem setLane_chapters (l : Lane) (j : Option Job) : (setLane l j s).chapters = s.chapters := rfl
@[simp] theorem setLane_captures (l : Lane) (j : Option Job) : (setLane l j s).captures = s.captures := rfl
@[simp] theorem setLane_levels (l : Lane) (j : Option Job) : (setLane l j s).levels = s.levels := rfl
@[simp] theorem setLane_store (l : Lane) (j : Option Job) : (setLane l j s).store = s.store := rfl
@[simp] theorem setLane_queue (l : Lane) (j : Option Job) : (setLane l j s).queue = s.queue := rfl
@[simp] theorem setLane_profiles (l : Lane) (j : Option Job) : (setLane l j s).profiles = s.profiles := rfl
@[simp] theorem setLane_ports (l : Lane) (j : Option Job) : (setLane l j s).ports = s.ports := rfl
@[simp] theorem setLane_pending (l : Lane) (j : Option Job) : (setLane l j s).pending = s.pending := rfl

/-! ### setQueue -/

@[simp] theorem setQueue_titles (q : List Entry) : (setQueue q s).titles = s.titles := rfl
@[simp] theorem setQueue_takes (q : List Entry) : (setQueue q s).takes = s.takes := rfl
@[simp] theorem setQueue_chapters (q : List Entry) : (setQueue q s).chapters = s.chapters := rfl
@[simp] theorem setQueue_captures (q : List Entry) : (setQueue q s).captures = s.captures := rfl
@[simp] theorem setQueue_levels (q : List Entry) : (setQueue q s).levels = s.levels := rfl
@[simp] theorem setQueue_store (q : List Entry) : (setQueue q s).store = s.store := rfl
@[simp] theorem setQueue_lanes (q : List Entry) : (setQueue q s).lanes = s.lanes := rfl
@[simp] theorem setQueue_profiles (q : List Entry) : (setQueue q s).profiles = s.profiles := rfl
@[simp] theorem setQueue_ports (q : List Entry) : (setQueue q s).ports = s.ports := rfl
@[simp] theorem setQueue_pending (q : List Entry) : (setQueue q s).pending = s.pending := rfl

/-! ### setProfile -/

@[simp] theorem setProfile_titles (n : ProfileNo) (pr : Profile) : (setProfile n pr s).titles = s.titles := rfl
@[simp] theorem setProfile_takes (n : ProfileNo) (pr : Profile) : (setProfile n pr s).takes = s.takes := rfl
@[simp] theorem setProfile_chapters (n : ProfileNo) (pr : Profile) : (setProfile n pr s).chapters = s.chapters := rfl
@[simp] theorem setProfile_captures (n : ProfileNo) (pr : Profile) : (setProfile n pr s).captures = s.captures := rfl
@[simp] theorem setProfile_levels (n : ProfileNo) (pr : Profile) : (setProfile n pr s).levels = s.levels := rfl
@[simp] theorem setProfile_store (n : ProfileNo) (pr : Profile) : (setProfile n pr s).store = s.store := rfl
@[simp] theorem setProfile_queue (n : ProfileNo) (pr : Profile) : (setProfile n pr s).queue = s.queue := rfl
@[simp] theorem setProfile_lanes (n : ProfileNo) (pr : Profile) : (setProfile n pr s).lanes = s.lanes := rfl
@[simp] theorem setProfile_ports (n : ProfileNo) (pr : Profile) : (setProfile n pr s).ports = s.ports := rfl
@[simp] theorem setProfile_pending (n : ProfileNo) (pr : Profile) : (setProfile n pr s).pending = s.pending := rfl

/-! ### Reading the record that was updated -/

@[simp] theorem modStore_store (f : Store → Store) : (modStore f s).store = f s.store := rfl
@[simp] theorem setQueue_queue (q : List Entry) : (setQueue q s).queue = q := rfl

/-- A change that leaves the port as it is leaves the state as it is. -/
theorem modPort_eq_self {p : Port} {f : PortState → PortState} (h : f s.ports[p.val] = s.ports[p.val]) :
    modPort p f s = s := by
  have h : f s.ports[p] = s.ports[p] := h
  unfold modPort
  rw [h]
  simp

@[simp] theorem modPort_ports_self (p : Port) (f : PortState → PortState) : (modPort p f s).ports[p.val] = f s.ports[p.val] := by
  simp [modPort]

theorem modPort_ports_ne (p k : Port) (f : PortState → PortState) (h : k ≠ p) : (modPort p f s).ports[k.val] = s.ports[k.val] := by
  have h' : p.val ≠ k.val := fun e => h (Fin.ext e.symm)
  simp [modPort, h']

@[simp] theorem modLevel_levels_self (p : Port) (f : LevelEntry → LevelEntry) : (modLevel p f s).levels[p.val] = f s.levels[p.val] := by
  simp [modLevel]

theorem modLevel_levels_ne (p k : Port) (f : LevelEntry → LevelEntry) (h : k ≠ p) : (modLevel p f s).levels[k.val] = s.levels[k.val] := by
  have h' : p.val ≠ k.val := fun e => h (Fin.ext e.symm)
  simp [modLevel, h']

@[simp] theorem setProfile_profiles_self (n : ProfileNo) (pr : Profile) : (setProfile n pr s).profiles[n.val] = pr := by
  simp [setProfile]

theorem setProfile_profiles_ne (n k : ProfileNo) (pr : Profile) (h : k ≠ n) : (setProfile n pr s).profiles[k.val] = s.profiles[k.val] := by
  have h' : n.val ≠ k.val := fun e => h (Fin.ext e.symm)
  simp [setProfile, h']

@[simp] theorem modTitle_titles_self (t : TitleNo) (f : Title → Title) : (modTitle t f s).titles[t.val] = s.titles[t.val].map f := by
  simp [modTitle]

theorem modTitle_titles_ne (t k : TitleNo) (f : Title → Title) (h : k ≠ t) : (modTitle t f s).titles[k.val] = s.titles[k.val] := by
  have h' : t.val ≠ k.val := fun e => h (Fin.ext e.symm)
  simp [modTitle, h']

@[simp] theorem setTitle_titles_self (t : TitleNo) (r : Option Title) : (setTitle t r s).titles[t.val] = r := by
  simp [setTitle]

theorem setTitle_titles_ne (t k : TitleNo) (r : Option Title) (h : k ≠ t) : (setTitle t r s).titles[k.val] = s.titles[k.val] := by
  have h' : t.val ≠ k.val := fun e => h (Fin.ext e.symm)
  simp [setTitle, h']

@[simp] theorem modTake_takes_self (t : TakeId) (f : Take → Take) : (modTake t f s).takes[t.val] = s.takes[t.val].map f := by
  simp [modTake]

theorem modTake_takes_ne (t k : TakeId) (f : Take → Take) (h : k ≠ t) : (modTake t f s).takes[k.val] = s.takes[k.val] := by
  have h' : t.val ≠ k.val := fun e => h (Fin.ext e.symm)
  simp [modTake, h']

@[simp] theorem setTake_takes_self (t : TakeId) (r : Option Take) : (setTake t r s).takes[t.val] = r := by
  simp [setTake]

theorem setTake_takes_ne (t k : TakeId) (r : Option Take) (h : k ≠ t) : (setTake t r s).takes[k.val] = s.takes[k.val] := by
  have h' : t.val ≠ k.val := fun e => h (Fin.ext e.symm)
  simp [setTake, h']

@[simp] theorem modChapter_chapters_self (c : ChapterId) (f : Chapter → Chapter) : (modChapter c f s).chapters[c.val] = s.chapters[c.val].map f := by
  simp [modChapter]

theorem modChapter_chapters_ne (c k : ChapterId) (f : Chapter → Chapter) (h : k ≠ c) : (modChapter c f s).chapters[k.val] = s.chapters[k.val] := by
  have h' : c.val ≠ k.val := fun e => h (Fin.ext e.symm)
  simp [modChapter, h']

@[simp] theorem setChapter_chapters_self (c : ChapterId) (r : Option Chapter) : (setChapter c r s).chapters[c.val] = r := by
  simp [setChapter]

theorem setChapter_chapters_ne (c k : ChapterId) (r : Option Chapter) (h : k ≠ c) : (setChapter c r s).chapters[k.val] = s.chapters[k.val] := by
  have h' : c.val ≠ k.val := fun e => h (Fin.ext e.symm)
  simp [setChapter, h']

@[simp] theorem modStream_captures_self (p : Port) (f : Stream → Stream) : (modStream p f s).captures[p.val] = s.captures[p.val].map f := by
  simp [modStream]

theorem modStream_captures_ne (p k : Port) (f : Stream → Stream) (h : k ≠ p) : (modStream p f s).captures[k.val] = s.captures[k.val] := by
  have h' : p.val ≠ k.val := fun e => h (Fin.ext e.symm)
  simp [modStream, h']

@[simp] theorem setStream_captures_self (p : Port) (r : Option Stream) : (setStream p r s).captures[p.val] = r := by
  simp [setStream]

theorem setStream_captures_ne (p k : Port) (r : Option Stream) (h : k ≠ p) : (setStream p r s).captures[k.val] = s.captures[k.val] := by
  have h' : p.val ≠ k.val := fun e => h (Fin.ext e.symm)
  simp [setStream, h']

@[simp] theorem modJob_lanes_self (l : Lane) (f : Job → Job) : (modJob l f s).lanes[l.val] = s.lanes[l.val].map f := by
  simp [modJob]

theorem modJob_lanes_ne (l k : Lane) (f : Job → Job) (h : k ≠ l) : (modJob l f s).lanes[k.val] = s.lanes[k.val] := by
  have h' : l.val ≠ k.val := fun e => h (Fin.ext e.symm)
  simp [modJob, h']

@[simp] theorem setLane_lanes_self (l : Lane) (j : Option Job) : (setLane l j s).lanes[l.val] = j := by
  simp [setLane]

theorem setLane_lanes_ne (l k : Lane) (j : Option Job) (h : k ≠ l) : (setLane l j s).lanes[k.val] = s.lanes[k.val] := by
  have h' : l.val ≠ k.val := fun e => h (Fin.ext e.symm)
  simp [setLane, h']

end Sys2Proof.Machine
end

