-- ==== Sys2Proof/Laws/Ports.lean ====
section
/-! SUPPORT. What the port's operations do: attention, notices, the service of a request, and the start of a
transaction. -/

namespace Sys2Proof.Machine

variable (s t : State)

/-- A change of every port, each by its own function. -/
theorem foldl_modPort_ports (g : Port → PortState → PortState) (p : Port) :
    (allPorts.foldl (fun s p => modPort p (g p) s) s).ports[p.val] = g p s.ports[p.val] := by
  fin_cases p <;> simp [allPorts, modPort]

/-! ### Attention -/

@[simp] theorem attend_titles : (attend s t).titles = t.titles := rfl
@[simp] theorem attend_takes : (attend s t).takes = t.takes := rfl
@[simp] theorem attend_chapters : (attend s t).chapters = t.chapters := rfl
@[simp] theorem attend_captures : (attend s t).captures = t.captures := rfl
@[simp] theorem attend_levels : (attend s t).levels = t.levels := rfl
@[simp] theorem attend_store : (attend s t).store = t.store := rfl
@[simp] theorem attend_queue : (attend s t).queue = t.queue := rfl
@[simp] theorem attend_lanes : (attend s t).lanes = t.lanes := rfl
@[simp] theorem attend_profiles : (attend s t).profiles = t.profiles := rfl
@[simp] theorem attend_pending : (attend s t).pending = t.pending := rfl

/-- Attention after an event, port by port (R195). -/
@[simp] theorem attend_ports (p : Port) :
    (attend s t).ports[p.val] = attendPort s.ports[p.val] t.ports[p.val] :=
  foldl_modPort_ports t (fun p => attendPort s.ports[p]) p

@[simp] theorem attendPort_exec (a b : PortState) : (attendPort a b).exec = b.exec := rfl
@[simp] theorem attendPort_notices (a b : PortState) : (attendPort a b).notices = b.notices := rfl
@[simp] theorem attendPort_lost (a b : PortState) : (attendPort a b).lost = b.lost := rfl
@[simp] theorem attendPort_subs (a b : PortState) : (attendPort a b).subs = b.subs := rfl
@[simp] theorem attendPort_mask (a b : PortState) : (attendPort a b).mask = b.mask := rfl
@[simp] theorem attendPort_mode (a b : PortState) : (attendPort a b).mode = b.mode := rfl
@[simp] theorem attendPort_stream (a b : PortState) : (attendPort a b).stream = b.stream := rfl
@[simp] theorem attendPort_xfer (a b : PortState) : (attendPort a b).xfer = b.xfer := rfl
@[simp] theorem attendPort_sent (a b : PortState) : (attendPort a b).sent = b.sent := rfl
@[simp] theorem attendPort_latched (a b : PortState) :
    (attendPort a b).latched = latch b.mode b.latched (conditions a) (conditions b) := rfl

/-! ### Notices -/

/-- A post never makes a queue of at most 16 longer than 16 (R190). -/
theorem length_pushNotice (n : Notice) (ps : PortState) (h : ps.notices.length ≤ Config.noticePlaces) :
    (pushNotice n ps).notices.length ≤ Config.noticePlaces := by
  unfold pushNotice
  split
  · simp only [List.length_append, List.length_cons, List.length_nil]
    omega
  · exact h

/-- A broadcast reaches every port that subscribes to its kind, and no other (R192). -/
theorem broadcast_ports (n : Notice) (p : Port) :
    (broadcast n s).ports[p.val] =
      if subscribed n.kind s.ports[p.val] then pushNotice n s.ports[p.val] else s.ports[p.val] :=
  foldl_modPort_ports s (fun _ ps => if subscribed n.kind ps then pushNotice n ps else ps) p

@[simp] theorem broadcast_titles (n : Notice) : (broadcast n s).titles = s.titles := rfl
@[simp] theorem broadcast_takes (n : Notice) : (broadcast n s).takes = s.takes := rfl
@[simp] theorem broadcast_chapters (n : Notice) : (broadcast n s).chapters = s.chapters := rfl
@[simp] theorem broadcast_captures (n : Notice) : (broadcast n s).captures = s.captures := rfl
@[simp] theorem broadcast_levels (n : Notice) : (broadcast n s).levels = s.levels := rfl
@[simp] theorem broadcast_store (n : Notice) : (broadcast n s).store = s.store := rfl
@[simp] theorem broadcast_queue (n : Notice) : (broadcast n s).queue = s.queue := rfl
@[simp] theorem broadcast_lanes (n : Notice) : (broadcast n s).lanes = s.lanes := rfl
@[simp] theorem broadcast_profiles (n : Notice) : (broadcast n s).profiles = s.profiles := rfl
@[simp] theorem broadcast_pending (n : Notice) : (broadcast n s).pending = s.pending := rfl

/-! ### Requests -/

/-- A port that executes exactly this request: its block takes it, and the response fills the slot (R185). -/
theorem request_executing {p : Port} {k : ReqKind} {params : List Byte} (act : State → Reply)
    (h : s.ports[p.val].exec = .executing k params false) :
    request p k params act s =
      .next (attend s (fillSlot p ⟨kindCode k, (act s).result, (act s).payload⟩ (act s).state)) := by
  simp [request, h, answer]

/-- A port that was reset meanwhile: the request is carried out and its response discarded (R199). -/
theorem request_discarded {p : Port} {k : ReqKind} {params : List Byte} (act : State → Reply)
    (h : s.ports[p.val].exec = .executing k params true) :
    request p k params act s = .next (attend s (modPort p (fun ps => { ps with exec := .idle }) (act s).state)) := by
  simp [request, h, answer]

/-- A port that executes another request: the row is one more REQUEST transaction (log 1). -/
theorem request_other {p : Port} {k k' : ReqKind} {params params' : List Byte} {discard : Bool} (act : State → Reply)
    (h : s.ports[p.val].exec = .executing k' params' discard) (hne : ¬(k' = k ∧ params' = params)) :
    request p k params act s = .next (wholeRequest p (requestBytes k params) s) := by
  simp [request, h, hne]

/-! ### Transactions -/

/-- With no transaction in progress, the start of one finds the state as it is but for the attention law of R195. -/
theorem ended_none {p : Port} (h : s.ports[p.val].xfer = .none) : ended p s = attend s s := by
  have hs : setTransfer p .none s = s := modPort_eq_self s (by
    show { s.ports[p.val] with xfer := Transfer.none } = s.ports[p.val]
    rw [← h])
  unfold ended endTransaction
  simp [h, hs]

/-- After the transaction byte the port keeps what the kind has fixed. -/
@[simp] theorem opened_xfer (p : Port) (kept : State → Transfer) :
    (opened p kept s).ports[p.val].xfer = kept (ended p s) := by
  simp [opened, setTransfer]

/-- A kind acts in the transaction of its own that is in progress. -/
theorem later_kept {α : Type} {p : Port} {kind : Byte} {kept : Transfer → Option α} (opening : State → State)
    (act : α → State → State) {a : α} (hk : kept s.ports[p.val].xfer = some a)
    (hn : s.ports[p.val].xfer ≠ .abandoned kind) :
    later p kind kept opening act s = .next (attend s (act a s)) := by
  simp [later, hk, hn]

/-- With none of its kind in progress, a whole transaction: the transaction byte comes first. -/
theorem later_whole {α : Type} {p : Port} {kind : Byte} {kept : Transfer → Option α} {opening : State → State}
    (act : α → State → State) {a : α} (hk : kept s.ports[p.val].xfer = none)
    (hn : s.ports[p.val].xfer ≠ .abandoned kind) (ho : kept (opening s).ports[p.val].xfer = some a) :
    later p kind kept opening act s = .next (attend (opening s) (act a (opening s))) := by
  simp [later, hk, hn, ho]

end Sys2Proof.Machine
end

