-- ==== Sys2Proof/Laws/Settle.lean ====
section
/-! SUPPORT. What the consequences of an event in the store can change (`settle`, and with it every command but those that
end in `attend` alone): the store, the lanes and the queue, the chains of takes, the FIFOs, the notice queues and fetches
of the ports, and the chapters that the queue or a lane holds. Everything else stays. `settle_work` says it once. -/

namespace Sys2Proof.Machine

/-- A take record without its chain. -/
def takeRest (r : Take) : Take := { r with chain := [] }

/-- A capture stream without its FIFO. -/
def streamRest (st : Stream) : Stream := { st with fifo := [] }

/-- A port stream without its fetch. -/
def fetchless (st : PortStream) : PortStream :=
  match st with
  | .active a => .active { a with fetch := none }
  | st => st

/-- A port without its notices, its LOST flag and its fetch. -/
def portRest (ps : PortState) : PortState := { ps with notices := [], lost := false, stream := fetchless ps.stream }

/-- A chapter record without its state and its result group. -/
def chapterRest (r : Chapter) : Chapter := { r with state := .assembling, result := none }

/-- The chapters of the queue's entries and of the lanes' jobs are all in `T`. -/
structure Within (T : ChapterId → Prop) (s : State) : Prop where
  queue : ∀ e ∈ s.queue, T e.chapter
  lanes : ∀ l : Lane, ∀ j ∈ s.lanes[l.val], T j.chapter

/-- `t` comes from `s` by work in the store that reaches no chapter outside `T`. -/
structure Work (T : ChapterId → Prop) (s t : State) : Prop where
  titles : t.titles = s.titles
  levels : t.levels = s.levels
  profiles : t.profiles = s.profiles
  pending : t.pending = s.pending
  takes : ∀ k : TakeId, t.takes[k.val].map takeRest = s.takes[k.val].map takeRest
  captures : ∀ p : Port, t.captures[p.val].map streamRest = s.captures[p.val].map streamRest
  ports : ∀ p : Port, portRest t.ports[p.val] = portRest s.ports[p.val]
  records : ∀ c : ChapterId, t.chapters[c.val].map chapterRest = s.chapters[c.val].map chapterRest
  chapters : ∀ c : ChapterId, ¬ T c → t.chapters[c.val] = s.chapters[c.val]
  within : Within T t

variable {T : ChapterId → Prop} {s t u : State}

theorem Work.refl (h : Within T s) : Work T s s :=
  ⟨rfl, rfl, rfl, rfl, fun _ => rfl, fun _ => rfl, fun _ => rfl, fun _ => rfl, fun _ _ => rfl, h⟩

theorem Work.trans (h : Work T s t) (k : Work T t u) : Work T s u :=
  ⟨k.titles.trans h.titles, k.levels.trans h.levels, k.profiles.trans h.profiles, k.pending.trans h.pending,
    fun i => (k.takes i).trans (h.takes i), fun i => (k.captures i).trans (h.captures i),
    fun i => (k.ports i).trans (h.ports i), fun i => (k.records i).trans (h.records i),
    fun i hi => (k.chapters i hi).trans (h.chapters i hi), k.within⟩

/-- Work followed by work. -/
theorem Work.andThen (h : Work T s t) (k : Within T t → Work T t u) : Work T s u := h.trans (k h.within)

/-! ### Primitive updates -/

theorem work_modStore (f : Store → Store) (h : Within T s) : Work T s (modStore f s) :=
  ⟨rfl, rfl, rfl, rfl, fun _ => rfl, fun _ => rfl, fun _ => rfl, fun _ => rfl, fun _ _ => rfl, ⟨h.queue, h.lanes⟩⟩

theorem work_modPort (p : Port) (f : PortState → PortState) (hf : ∀ ps, portRest (f ps) = portRest ps)
    (h : Within T s) : Work T s (modPort p f s) :=
  ⟨rfl, rfl, rfl, rfl, fun _ => rfl, fun _ => rfl, fun q => by
    by_cases hq : q = p
    · subst hq; simp [hf]
    · rw [modPort_ports_ne s p q f hq], fun _ => rfl, fun _ _ => rfl, ⟨h.queue, h.lanes⟩⟩

theorem work_modTake (k : TakeId) (f : Take → Take) (hf : ∀ r, takeRest (f r) = takeRest r) (h : Within T s) :
    Work T s (modTake k f s) :=
  ⟨rfl, rfl, rfl, rfl, fun q => by
    by_cases hq : q = k
    · subst hq; rw [modTake_takes_self]; cases s.takes[q.val] <;> simp [hf]
    · rw [modTake_takes_ne s k q f hq], fun _ => rfl, fun _ => rfl, fun _ => rfl, fun _ _ => rfl,
    ⟨h.queue, h.lanes⟩⟩

theorem work_modStream (p : Port) (f : Stream → Stream) (hf : ∀ r, streamRest (f r) = streamRest r) (h : Within T s) :
    Work T s (modStream p f s) :=
  ⟨rfl, rfl, rfl, rfl, fun _ => rfl, fun q => by
    by_cases hq : q = p
    · subst hq; rw [modStream_captures_self]; cases s.captures[q.val] <;> simp [hf]
    · rw [modStream_captures_ne s p q f hq], fun _ => rfl, fun _ => rfl, fun _ _ => rfl, ⟨h.queue, h.lanes⟩⟩

theorem work_modChapter (c : ChapterId) (f : Chapter → Chapter) (hf : ∀ r, chapterRest (f r) = chapterRest r)
    (hc : T c) (h : Within T s) : Work T s (modChapter c f s) :=
  ⟨rfl, rfl, rfl, rfl, fun _ => rfl, fun _ => rfl, fun _ => rfl, fun q => by
    by_cases hq : q = c
    · subst hq; rw [modChapter_chapters_self]; cases s.chapters[q.val] <;> simp [hf]
    · rw [modChapter_chapters_ne s c q f hq], fun q hq => by
      rw [modChapter_chapters_ne s c q f fun e => hq (e ▸ hc)], ⟨h.queue, h.lanes⟩⟩

theorem work_setQueue (q : List Entry) (hq : ∀ e ∈ q, e ∈ s.queue) (h : Within T s) : Work T s (setQueue q s) :=
  ⟨rfl, rfl, rfl, rfl, fun _ => rfl, fun _ => rfl, fun _ => rfl, fun _ => rfl, fun _ _ => rfl,
    ⟨fun e he => h.queue e (hq e he), h.lanes⟩⟩

theorem work_setLane (l : Lane) (j : Option Job) (hj : ∀ x ∈ j, T x.chapter) (h : Within T s) :
    Work T s (setLane l j s) :=
  ⟨rfl, rfl, rfl, rfl, fun _ => rfl, fun _ => rfl, fun _ => rfl, fun _ => rfl, fun _ _ => rfl, ⟨h.queue, fun k => by
    by_cases hk : k = l
    · subst hk; rw [setLane_lanes_self]; exact hj
    · rw [setLane_lanes_ne s l k j hk]; exact h.lanes k⟩⟩

theorem work_modJob (l : Lane) (f : Job → Job) (hf : ∀ j, (f j).chapter = j.chapter) (h : Within T s) :
    Work T s (modJob l f s) :=
  ⟨rfl, rfl, rfl, rfl, fun _ => rfl, fun _ => rfl, fun _ => rfl, fun _ => rfl, fun _ _ => rfl, ⟨h.queue, fun k => by
    by_cases hk : k = l
    · subst hk
      rw [modJob_lanes_self]
      intro j hj
      obtain ⟨i, hi, rfl⟩ := Option.map_eq_some_iff.mp hj
      rw [hf]
      exact h.lanes k i hi
    · rw [modJob_lanes_ne s l k f hk]; exact h.lanes k⟩⟩

/-! ### Notices -/

theorem portRest_pushNotice (n : Notice) (ps : PortState) : portRest (pushNotice n ps) = portRest ps := by
  unfold pushNotice
  split <;> rfl

/-- A fold whose every step is work. -/
theorem work_foldl {α : Type} (f : State → α → State) (hf : ∀ (s : State) (a : α), Within T s → Work T s (f s a))
    (as : List α) (h : Within T s) : Work T s (as.foldl f s) := by
  induction as generalizing s with
  | nil => exact Work.refl h
  | cons a as ih => exact (hf s a h).trans (ih (hf s a h).within)

theorem work_broadcast (n : Notice) (h : Within T s) : Work T s (broadcast n s) :=
  work_foldl _ (fun _ p h => work_modPort p _ (fun ps => by split <;> simp [portRest_pushNotice]) h) _ h

theorem work_chapterNotice (c : ChapterId) (code : Nat) (cause : Cause) (h : Within T s) :
    Work T s (chapterNotice c code cause s) := work_broadcast _ h

theorem work_enterState (c : ChapterId) (st : ChapterState) (cause : Cause) (hc : T c) (h : Within T s) :
    Work T s (enterState c st cause s) :=
  have k := work_modChapter c (fun r => { r with state := st }) (fun _ => rfl) hc h
  k.trans (work_chapterNotice c _ cause k.within)

theorem work_writeResult (c : ChapterId) (g : ResultGroup) (hc : T c) (h : Within T s) :
    Work T s (writeResult c g s) := work_modChapter c _ (fun _ => rfl) hc h

/-! ### Pools, lanes and jobs -/

theorem work_release (chain : List Nat) (h : Within T s) : Work T s (release chain s) := work_modStore _ h

theorem work_lowCheck (before detail : Nat) (h : Within T s) : Work T s (lowCheck before detail s) := by
  unfold lowCheck
  split
  · exact work_broadcast _ h
  · exact Work.refl h

theorem work_sweptCheck (h : Within T s) : Work T s (sweptCheck s) := by
  unfold sweptCheck
  split
  · have k := work_modStore (fun st => { st with sweep := false }) h
    exact k.trans (work_broadcast _ k.within)
  · exact Work.refl h

theorem work_clearLane (l : Lane) (h : Within T s) : Work T s (clearLane l s) := by
  unfold clearLane
  split
  · exact Work.refl h
  · have k := work_modStore (fun st => orphanRead (.lane l) (abandonSource (.lane l) st)) h
    have m := work_setLane l none (by simp) k.within
    exact (k.trans m).trans (work_release _ m.within)

theorem work_beginJob (l : Lane) (c : ChapterId) (origin : Port) (hc : T c) (h : Within T s) :
    Work T s (beginJob l c origin s) := by
  unfold beginJob
  split
  · exact Work.refl h
  · dsimp only
    split
    · refine Work.andThen (Work.andThen ?_ fun h => work_writeResult c _ hc h) fun h => work_enterState c _ _ hc h
      exact work_setLane l none (by simp) h
    · exact work_setLane l _ (by rintro x ⟨⟩; exact hc) h

theorem work_takeEntries (n : Nat) (h : Within T s) : Work T s (takeEntries n s) := by
  induction n generalizing s with
  | zero => exact Work.refl h
  | succ n ih =>
    unfold takeEntries
    split
    · rename_i l e rest _ hq
      have hc : T e.chapter := h.queue e (by simp [hq])
      have k := work_setQueue rest (by simp [hq]; intro e he; exact .inr he) h
      have m := k.trans (work_enterState e.chapter .rendering .started hc k.within)
      have w := m.trans (work_beginJob l e.chapter e.origin hc m.within)
      exact w.trans (ih w.within)
    · exact Work.refl h

theorem work_lanesTake (h : Within T s) : Work T s (lanesTake s) := work_takeEntries _ h

theorem work_storeFull (l : Lane) (h : Within T s) : Work T s (storeFull l s) := by
  unfold storeFull
  split
  · exact Work.refl h
  · rename_i j hj
    have hc : T j.chapter := h.lanes l j (by simpa using hj)
    have k := work_clearLane l h
    have m := k.trans (work_enterState j.chapter .ready .storeFull hc k.within)
    exact m.trans (work_lanesTake m.within)

theorem work_encodeEndDue (l : Lane) (h : Within T s) : Work T s (encodeEndDue l s) := by
  unfold encodeEndDue
  split
  · exact Work.refl h
  · rename_i j hj
    have hc : T j.chapter := h.lanes l j (by simpa using hj)
    split
    · dsimp only
      split
      · exact work_modJob l _ (fun _ => rfl) h
      · refine Work.andThen (Work.andThen (Work.andThen (work_clearLane l h) fun h => ?_)
          fun h => work_enterState j.chapter _ _ hc h) fun h => work_lanesTake h
        exact work_writeResult j.chapter _ hc h
    · exact Work.refl h

/-! ### Readers -/

theorem chapter_gather (s : State) (n : Nat) (j : Job) : (gather s n j).chapter = j.chapter := by
  induction n generalizing j with
  | zero => rfl
  | succ n ih =>
    unfold gather
    split
    · split
      · rw [ih]
      · rfl
    · rfl

theorem chapter_postRead (s : State) (j : Job) : (postRead s j).chapter = j.chapter := by
  unfold postRead
  split
  · rfl
  · dsimp only
    split
    · rfl
    · split <;> rfl

theorem work_lanesAdvance (h : Within T s) : Work T s (lanesAdvance s) :=
  work_foldl _ (fun _ l h => work_modJob l _ (fun j => by rw [advanceJob, chapter_postRead, chapter_gather]) h) _ h

theorem portRest_postFetch (s : State) (ps : PortState) : portRest (postFetch s ps) = portRest ps := by
  unfold postFetch
  split
  · rename_i a ha
    split
    · simp [portRest, fetchless, ha]
    · rfl
  · rfl

theorem work_readersAdvance (h : Within T s) : Work T s (readersAdvance s) := by
  have k := work_lanesAdvance h
  exact k.trans (work_foldl _ (fun s p h => work_modPort p _ (portRest_postFetch s) h) _ k.within)

/-! ### Allocations and loads -/

theorem work_appendBlock (src : Source) (b : Nat) (h : Within T s) : Work T s (appendBlock src b s) := by
  have k := work_modStore (setTarget src .placed) h
  unfold appendBlock
  cases src with
  | stream p =>
    dsimp only
    split
    · exact k.trans (work_modTake _ _ (fun _ => rfl) k.within)
    · exact k
  | lane l => exact k.trans (work_modJob l _ (fun _ => rfl) k.within)

theorem work_takeErased (src : Source) (h : Within T s) : Work T s (takeErased src s) := by
  unfold takeErased
  split
  · exact Work.refl h
  · rename_i b rest _
    have k := work_modStore (fun st => { st with erased := rest }) h
    have m := k.trans (work_appendBlock src b k.within)
    exact m.trans (work_lowCheck _ _ m.within)

theorem work_startBackground (h : Within T s) : Work T s (startBackground s) := by
  unfold startBackground
  split
  · exact Work.refl h
  · exact Work.andThen (work_modStore _ h) fun h => work_sweptCheck h

theorem work_eraseNotices (before detail : Nat) (h : Within T s) : Work T s (eraseNotices before detail s) := by
  unfold eraseNotices
  split
  · have k := work_lowCheck before detail h
    exact k.trans (work_sweptCheck k.within)
  · have k := work_sweptCheck h
    exact k.trans (work_lowCheck before detail k.within)

theorem work_startBuiltIn (src : Source) (h : Within T s) : Work T s (startBuiltIn src s) := by
  unfold startBuiltIn
  split
  · exact Work.refl h
  · exact Work.andThen (work_modStore _ h) fun h => work_eraseNotices _ _ h

theorem work_captureAllocation (p : Port) (h : Within T s) : Work T s (captureAllocation p s) := by
  unfold captureAllocation
  dsimp only
  split
  · exact work_takeErased _ h
  · split <;> exact work_modStore _ h

theorem work_renderAllocation (l : Lane) (h : Within T s) : Work T s (renderAllocation l s) := by
  unfold renderAllocation
  dsimp only
  split
  · exact work_storeFull l h
  · split
    · exact work_takeErased _ h
    · exact work_modStore _ h

theorem work_waitingDue (h : Within T s) : ∀ t ∈ waitingDue s, Work T s t := by
  intro t ht
  unfold waitingDue at ht
  split at ht
  · simp at ht
  · split at ht
    · cases ht
      exact work_takeErased _ h
    · split at ht
      · cases ht
        split
        · exact work_storeFull _ h
        · exact work_takeErased _ h
      · simp at ht

theorem work_loadStream (p : Port) (i : Fin 2) (h : Within T s) : Work T s (loadStream p i s) := by
  unfold loadStream
  dsimp only
  have k : Work T s (modStream p (fun st => { st with fifo := st.fifo.drop Config.pageSamples }) s) :=
    work_modStream p _ (fun _ => rfl) h
  split
  · exact Work.andThen (Work.andThen k fun h => work_modStore _ h) fun h => work_captureAllocation p h
  · exact Work.andThen k fun h => work_modStore _ h

theorem work_loadLane (l : Lane) (i : Fin 2) (h : Within T s) : Work T s (loadLane l i s) := by
  unfold loadLane
  split
  · exact Work.refl h
  · split
    · exact Work.refl h
    · rename_i j _ pg _
      dsimp only
      refine Work.andThen (Work.andThen ?_ fun h => work_modJob l (fun j => placeBytes j.waiting j) (fun _ => rfl) h)
        fun h => work_encodeEndDue l h
      split <;> split
      · exact Work.andThen (work_modStore _ h) fun h => work_renderAllocation l h
      · refine Work.andThen (Work.andThen ?_ fun h => work_modJob l
          (fun j => { j with assembly := [], pageIndex := j.pageIndex + 1 }) (fun _ => rfl) h)
          fun h => work_renderAllocation l h
        exact work_modStore _ h
      · exact work_modStore _ h
      · refine Work.andThen ?_ fun h => work_modJob l
          (fun j => { j with assembly := [], pageIndex := j.pageIndex + 1 }) (fun _ => rfl) h
        exact work_modStore _ h

theorem work_loadDue (h : Within T s) : ∀ t ∈ loadDue s, Work T s t := by
  intro t ht
  unfold loadDue at ht
  split at ht
  · simp at ht
  · split at ht
    · cases ht
      exact work_loadStream _ _ h
    · split at ht
      · cases ht
        exact work_loadLane _ _ h
      · simp at ht

theorem work_loadAll (n : Nat) (h : Within T s) : Work T s (loadAll n s) := by
  induction n generalizing s with
  | zero => exact Work.refl h
  | succ n ih =>
    unfold loadAll
    split
    · rename_i t ht
      have k : Work T s t := by
        rcases hw : waitingDue s with _ | w
        · rw [hw, Option.none_or] at ht
          exact work_loadDue h t ht
        · rw [hw, Option.some_or] at ht
          obtain rfl := Option.some.inj ht
          exact work_waitingDue h _ hw
      exact k.trans (ih k.within)
    · exact Work.refl h

/-! ### The arbiter's choice -/

theorem work_startProgram (i : Fin 2) (h : Within T s) : Work T s (startProgram i s) := by
  unfold startProgram
  split
  · exact work_modStore _ h
  · exact Work.refl h

theorem work_startRead (who : Reader) (slot : Nat) (h : Within T s) : Work T s (startRead who slot s) := by
  unfold startRead
  have k := work_modStore (fun st => { st with array := .reading who false slot }) h
  cases who with
  | lane l => exact k.trans (work_modJob l _ (fun _ => rfl) k.within)
  | port p =>
    refine k.trans (work_modPort p _ (fun ps => ?_) k.within)
    split
    · rename_i a ha
      simp [portRest, fetchless, ha]
    · rfl

theorem work_serveStream (p : Port) (h : Within T s) : Work T s (serveStream p s) := by
  unfold serveStream
  split
  · exact Work.andThen (work_startProgram _ h) fun h => work_modStore _ h
  · split
    · exact work_modStore _ h
    · exact Work.andThen (work_startBuiltIn _ h) fun h => work_modStore _ h
  · exact Work.refl h

theorem work_serveLane (l : Lane) (h : Within T s) : Work T s (serveLane l s) := by
  unfold serveLane
  split
  · exact Work.andThen (work_startProgram _ h) fun h => work_modStore _ h
  · split
    · exact work_modStore _ h
    · split
      · exact work_storeFull l h
      · exact Work.andThen (work_startBuiltIn _ h) fun h => work_modStore _ h
  · exact Work.refl h

theorem work_chooseOnce (h : Within T s) : ∀ t ∈ chooseOnce s, Work T s t := by
  intro t ht
  unfold chooseOnce at ht
  split at ht
  · cases ht
    exact work_serveStream _ h
  · split at ht
    · cases ht
      exact work_startBackground h
    · split at ht
      · cases ht
        exact Work.andThen (work_startRead _ _ h) fun h => work_modStore _ h
      · split at ht
        · cases ht
          exact work_serveLane _ h
        · split at ht
          · simp at ht
          · cases ht
            exact work_startBackground h

theorem work_settleRounds (n : Nat) (h : Within T s) : Work T s (settleRounds n s) := by
  induction n generalizing s with
  | zero => exact Work.refl h
  | succ n ih =>
    unfold settleRounds
    dsimp only
    have k := work_loadAll 16 h
    have m := k.trans (work_readersAdvance k.within)
    split
    · split
      · rename_i t ht
        have w := m.trans (work_chooseOnce m.within t ht)
        exact w.trans (ih w.within)
      · exact m
    · exact m

/-- Settling is work in the store that reaches only chapters the queue or a lane holds. -/
theorem settle_work (h : Within T s) : Work T s (settle s) := work_settleRounds 16 h

/-- Any chapter may be reached where nothing is said of the queue and the lanes. -/
theorem within_true (s : State) : Within (fun _ => True) s := ⟨fun _ _ => trivial, fun _ _ _ => trivial⟩

/-- The chapters outside the queue and the lanes are those all held ones differ from. -/
theorem within_ne {c : ChapterId} (hq : ∀ e ∈ s.queue, e.chapter ≠ c)
    (hl : ∀ l : Lane, ∀ j ∈ s.lanes[l.val], j.chapter ≠ c) : Within (· ≠ c) s := ⟨hq, hl⟩

end Sys2Proof.Machine
end

