-- ==== Sys2Proof/WellFormed.lean ====
section
/-! DEFINITION. What a command's operands must be for it to be one that the part's pins and blocks can bring about. -/

namespace Sys2Proof

/-- A request that was passed on carried at most 60 parameter bytes (R185). -/
def WellFormed.params (ps : List Byte) : Bool := decide (ps.length ≤ 60)

/-- The transaction bytes that name a kind (R184). -/
def knownTransactions : List Byte := [0xA1, 0xA2, 0xA3, 0xA4, 0xA5, 0xA6, 0xA7]

/-- An ATTENTION operation with an effect has been received when its row acts: one byte at least (R196). -/
def WellFormed.operation (n : Nat) : Bool := decide (1 ≤ n)

/-- A well-formed command: a request has at most 60 parameter bytes, an ignored transaction's byte names no kind, three
bytes of a CAPTURE are a row of their own and so at most two are left at its rise, and the ATTENTION operations 1, 2 and 3 are named together with the value byte they were sent with, which `n` counts only when it
was received in full. -/
def WellFormed (i : Instr) : Bool :=
  match i with
  | .titleDefine _ ps => WellFormed.params ps
  | .titleDrop _ ps => WellFormed.params ps
  | .titleProfile _ ps => WellFormed.params ps
  | .titleInfo _ ps => WellFormed.params ps
  | .chapterCreate _ ps => WellFormed.params ps
  | .chapterOpen _ ps => WellFormed.params ps
  | .chapterClose _ ps => WellFormed.params ps
  | .chapterDiscard _ ps => WellFormed.params ps
  | .chapterMove _ ps => WellFormed.params ps
  | .chapterInfo _ ps => WellFormed.params ps
  | .takeStart _ ps => WellFormed.params ps
  | .gateSet _ ps => WellFormed.params ps
  | .takeStop _ ps => WellFormed.params ps
  | .takeRetire _ ps => WellFormed.params ps
  | .takeInfo _ ps => WellFormed.params ps
  | .levels _ ps => WellFormed.params ps
  | .scriptPoint _ ps => WellFormed.params ps
  | .scriptWrite _ ps => WellFormed.params ps
  | .scriptRead _ ps => WellFormed.params ps
  | .storeInfo _ ps => WellFormed.params ps
  | .purge _ ps => WellFormed.params ps
  | .render _ ps => WellFormed.params ps
  | .renderSet _ ps => WellFormed.params ps
  | .renderCancel _ ps => WellFormed.params ps
  | .queueInfo _ ps => WellFormed.params ps
  | .publish _ ps => WellFormed.params ps
  | .collect _ ps => WellFormed.params ps
  | .profileSet _ ps => WellFormed.params ps
  | .profileGet _ ps => WellFormed.params ps
  | .streamOpen _ ps => WellFormed.params ps
  | .streamClose _ ps => WellFormed.params ps
  | .subscribe _ ps => WellFormed.params ps
  | .deviceInfo _ ps => WellFormed.params ps
  | .request _ _ => true
  | .fetch _ _ => true
  | .notices _ => true
  | .noticeRecordSent _ => true
  | .capture _ _ => true
  | .captureSample _ _ => true
  | .captureEnd rise => decide (rise.trailing ≤ 2)
  | .takeFull _ => true
  | .positionLimit _ => true
  | .takeClosed _ => true
  | .liveBlock _ => true
  | .streamData _ => true
  | .dataByteDelivered _ => true
  | .streamDataEnd _ => true
  | .attentionRead _ _ => true
  | .attentionClear _ _ n => WellFormed.operation n
  | .attentionMask _ _ n => WellFormed.operation n
  | .attentionMode _ _ n => WellFormed.operation n
  | .portReset _ _ => true
  | .ignoredTransaction _ tb _ => !knownTransactions.contains tb
  | .deviceReset => true
  | .pageReadComplete => true
  | .capturePageProgrammed => true
  | .outputPageProgrammed => true
  | .backgroundEraseComplete => true
  | .builtInEraseComplete => true
  | .pageLoad => true
  | .waitingAllocationServed => true
  | .measureSample _ => true
  | .meterBlock _ => true
  | .measureEnd _ => true
  | .encodeFrame _ => true
  | .encodeEnd _ => true

end Sys2Proof
end

