-- ==== Sys2Proof/Tests/Slice0.lean ====
section
/-! SUPPORT. Tests on small states: the checks of WellFormed, the manual's worked figures, one event per command, and for
every statement about some states a state and operands that meet its hypotheses. Expected values come from the manual
(the worked sessions, the examples of its chapters, its tables), never from the model. -/

namespace Sys2Proof.Tests

open Sys2Proof.Machine

/- One theorem after another: each asks the kernel for its evaluation. -/
set_option Elab.async false

/-! ### States -/

/-- The state a command answers; the state itself where it answers none. -/
def after (i : Instr) (s : State) : State :=
  match exec i s with
  | .next t => t
  | _ => s

/-- A port's execution state after a command. -/
def slot (p : Port) (i : Instr) (s : State) : Exec := (after i s).ports[p].exec

/-- A small store: two ERASED and three DIRTY blocks, and the array busy with a background erase. -/
def desk : State :=
  { State.reset with store := { Store.reset with
      erased := [3, 4], dirty := [5, 6, 7], array := .erasing 9 .background false, sweep := false } }

/-- Take 0 of the worked sessions. -/
def narration : Take :=
  ⟨3, .closed, none, 480000, -90, false, false, some .requested, 0, [⟨.cutIn, 0, 48000⟩, ⟨.cutOut, 480000, 528000⟩],
    [20, 21, 22, 23, 24, 25, 26, 27], 0⟩

/-- Take 1 of the worked sessions. -/
def pickup : Take :=
  ⟨3, .closed, none, 200000, -200, true, false, some .requested, 300, [⟨.dropout, 150528, 300⟩], [30, 31, 32, 33], 0⟩

/-- The script of session 2. -/
def script : Vector Step 32 :=
  (((((Vector.replicate 32 Step.blank).set 0 ⟨.tone, 1, 1000, 4800, 24000, 0, 0⟩).set 1
    ⟨.splice, 0, 0, 480000, 0, 480, 0⟩).set 2 ⟨.splice, 1, 48000, 100000, 0, 960, 0⟩).set 3
    ⟨.tone, 1, 1000, 4800, 48000, 480, 0⟩)

/-- Title 3 of the worked sessions with its two takes and the given auto flag. -/
def room (auto : Bool) : State :=
  setTitle 3 (some ⟨3, 0, auto, [0], 2⟩) (setTake 0 (some narration) (setTake 1 (some pickup) desk))

/-- Chapter 0 in a state of its life. -/
def chapter0 (st : ChapterState) : Chapter := ⟨3, 1, st, none, script, 4, some 650080, false, none⟩

/-- The room with chapter 0 in a state, its takes referenced. -/
def book (st : ChapterState) : State :=
  setChapter 0 (some (chapter0 st)) (takeReferences (namedTakes script) (room false))

/-- The editing station at P2 holds chapter 0, its script written. -/
def editing (auto : Bool) : State :=
  setChapter 0 (some { chapter0 .assembling with editor := some 2, assembled := none }) (room auto)

/-- Booth A's stream at p 12,288 with an empty FIFO, on take 2 with 0 samples. -/
def booth : State :=
  setStream 0 (some ⟨2, false, 12288, false, .shut, 0, 0, 0, [], none, 0, 0, 0, 0⟩)
    (setTake 2 (some ⟨3, .capturing, some 0, 0, -900, false, false, none, 0, [], [], 0⟩) (room false))

/-- The result group of a job that has passed, its output two blocks long. -/
def passed : ResultGroup :=
  ⟨0, 2, some (-214), some (-90), some 14, some (-201), some (-76), some 0, some 0, some (-690), some 5, some 11, [],
    some ⟨330560, 688, 0xCBF43926, [40, 41]⟩⟩

/-- Chapter 0 RENDERED or PUBLISHED with its output. -/
def delivered (st : ChapterState) : State :=
  setChapter 0 (some { chapter0 st with result := some passed }) (takeReferences (namedTakes script) (room false))

/-- A job on chapter 0 at its start, its first page read posted. -/
def job : Job :=
  { freshJob (book .rendering) 0 (chapter0 .rendering) 0 2 with read := some ⟨0, 0, 30 * 64, false⟩ }

/-- Lane 0 at work on chapter 0. -/
def rendering (j : Job) : State := setLane 0 (some j) (book .rendering)

/-! ### WellFormed refuses each kind of ill-formed command -/

theorem test_wellFormed_request : WellFormed (.levels 0 []) = true := by decide
theorem test_wellFormed_longRequest : WellFormed (.renderSet 0 (List.replicate 61 0)) = false := by decide
theorem test_wellFormed_clearWithoutOperation : WellFormed (.attentionClear 0 7 0) = false := by decide
theorem test_wellFormed_maskWithoutOperation : WellFormed (.attentionMask 0 7 0) = false := by decide
theorem test_wellFormed_modeWithoutOperation : WellFormed (.attentionMode 0 7 0) = false := by decide
theorem test_wellFormed_clear : WellFormed (.attentionClear 0 7 1) = true := by decide
theorem test_wellFormed_captureEndWithSample : WellFormed (.captureEnd ⟨0, 3⟩) = false := by decide
theorem test_wellFormed_ignoredKnownByte : WellFormed (.ignoredTransaction 0 0xA4 3) = false := by decide
theorem test_wellFormed_ignoredUnknownByte : WellFormed (.ignoredTransaction 0 0x55 3) = true := by decide

/-! ### The worked figures -/

/-- 11 session 3: A(−90), the code of 3,000,000, Gm(14), and y1 at the peak. -/
theorem test_session3_gain : amplitudeEntry (-90) = 2976391 ∧ amplitudeCode 3000000 = -90 ∧ gainEntry 14 = 19250 ∧
    scaled 3000000 19250 = 3524780 ∧ renderGain Profile.default (-214) (-90) = 14 := by decide +kernel

/-- 07, a gain that needs no limiting. -/
theorem test_gain_example : gainEntry (-9) = 14771 ∧ scaled 6000000 14771 = 5409302 ∧
    ceilingValue Profile.default = 5938680 ∧ renderGain Profile.default (-191) (-30) = -9 := by decide +kernel

/-- 07, an attack frame. -/
theorem test_attack_example : reductionNeeded 5938680 30 6200000 = 4 ∧ reductionEntry 4 = 15647 ∧
    scaled 6200000 15647 = 5921106 := by decide +kernel

/-- 07, coding a frame. -/
theorem test_frame_example : stepExponent 4 720 = 7 ∧
    (coded 4 7 5938680 0 [300, 650, 620, -100]) = [(2, 256), (3, 640), (0, 640), (-6, -128)] := by decide +kernel

/-- R144: the digest of the nine bytes 0x31 to 0x39. -/
theorem test_digest : digestOf (crcBytes 0xFFFFFFFF [0x31, 0x32, 0x33, 0x34, 0x35, 0x36, 0x37, 0x38, 0x39]) = 0xCBF43926 := by
  decide +kernel

/-- 06, gating six blocks: the integrated loudness is −191. -/
theorem test_gating_example :
    gated (-700) 100 ([2000, 12000000, 8000000, 20000000, 400000, 1500].foldl histAdd Meter.clear.hist) = some (-191) := by
  decide +kernel

/-- 06, floor, head and tail of an output. -/
theorem test_edges_example : (fun m => (m.floor, m.head, m.tail)) ([-720, -690, -650, -520, -240, -205, -198, -212, -480,
    -610, -640, -700].foldl (fun m c => meterEdges (-500) c m) Meter.clear) = (some (-720), 4, 3) := by decide +kernel

/-- 11 session 2: the second validation. -/
theorem test_validation_example : validate (room true) 3 script = .ok 650080 := by decide +kernel

/-- 11 session 3: the frame counts. -/
theorem test_frameCount_example : frameCount 650080 960 = 678 ∧ frameSize 650080 960 677 = 160 := by decide

/-- 02, repeating punch windows, at p = 1,000 and p = 3,000. -/
theorem test_punch_example :
    compared ⟨0, false, 1000, false, .shut, 1000, 4294966296, 4000, [], none, 0, 0, 0, 0⟩ = (.opened, 1000, 3000) ∧
    compared ⟨0, false, 3000, false, .opened, 1000, 3000, 4000, [], none, 0, 0, 0, 0⟩ = (.shut, 5000, 3000) := by decide

/-! ### Titles and chapters -/

theorem test_titleDefine : slot 3 (.titleDefine 3 [3, 3, 0, 1]) State.reset = .answered ⟨0x10, .accepted, []⟩ := by
  decide +kernel
theorem test_titleDefine_exists : slot 3 (.titleDefine 3 [3, 0, 0, 0]) desk = .answered ⟨0x10, .accepted, []⟩ ∧
    slot 3 (.titleDefine 3 [3, 0, 0, 0]) (room true) = .answered ⟨0x10, .existing, []⟩ := by decide +kernel
theorem test_titleDrop_content : slot 3 (.titleDrop 3 [3]) (room true) = .answered ⟨0x11, .hasContent, []⟩ := by
  decide +kernel
theorem test_titleProfile : (after (.titleProfile 0 [3, 0xFF, 0]) (room true)).titles[(3 : TitleNo)] =
    some ⟨3, 0, false, [0], 2⟩ := by decide +kernel
/-- Title 3 with one RENDERED chapter: the duration is its sample count (11, session 4, with session 2's length). -/
theorem test_titleInfo : slot 0 (.titleInfo 0 [3]) (delivered .rendered) =
    .answered ⟨0x13, .accepted, [3, 3, 0, 0, 1, 2, 0, 0x60, 0xEB, 0x09, 0]⟩ := by decide +kernel
theorem test_chapterCreate : slot 2 (.chapterCreate 2 [3, 1]) (setTitle 3 (some ⟨3, 0, true, [], 0⟩) desk) =
    .answered ⟨0x30, .accepted, [0, 1]⟩ := by decide +kernel
theorem test_chapterCreate_notice :
    (after (.chapterCreate 2 [3, 9]) (setTitle 3 (some ⟨3, 0, true, [], 0⟩) desk)).ports[(1 : Port)].notices =
      [⟨.chapterState, 0, 1, 0⟩] := by decide +kernel
/-- 11 session 4: CHAPTER_OPEN by P2 on a finished chapter. -/
theorem test_chapterOpen : (fun s => (s.chapters[(0 : ChapterId)].map fun r => (r.state, r.editor, r.cursor),
    s.takes[(1 : TakeId)].map (·.refs))) (after (.chapterOpen 2 [0]) (book .rejected)) =
      (some (.assembling, some 2, 0), some 0) := by decide +kernel
/-- 11 session 2: the close while take 1 is still CLOSING. -/
theorem test_chapterClose_takeOpen :
    slot 2 (.chapterClose 2 [0]) (setTake 1 (some { pickup with state := .closing, port := some 1 }) (editing true)) =
      .answered ⟨0x32, .scriptBad, [0, 3, 0x40, 0x0D, 3, 0]⟩ := by decide +kernel
/-- 11 session 2: the valid close; L0 takes the entry within the event. -/
theorem test_chapterClose_auto : slot 2 (.chapterClose 2 [0]) (editing true) =
    .answered ⟨0x32, .accepted, [4, 0x60, 0xEB, 0x09, 0]⟩ := by decide +kernel
theorem test_chapterDiscard : (after (.chapterDiscard 0 [0]) (book .ready)).chapters[(0 : ChapterId)] = none := by
  decide +kernel
theorem test_chapterMove : slot 0 (.chapterMove 0 [0, 9]) (book .ready) = .answered ⟨0x34, .clamped, [1]⟩ := by
  decide +kernel
theorem test_chapterInfo : slot 0 (.chapterInfo 0 [0]) (book .ready) =
    .answered ⟨0x35, .accepted, [0, 3, 1, 2, 0xFF, 4, 2, 0x60, 0xEB, 0x09, 0, 0, 0, 0, 0]⟩ := by decide +kernel

/-! ### Scripts -/

theorem test_scriptPoint : slot 2 (.scriptPoint 2 [0, 40]) (editing true) = .answered ⟨0x38, .clamped, [31]⟩ := by
  decide +kernel
/-- 03, the example's slot 2: xf 30,000 is stored as 9,600. -/
theorem test_scriptWrite_clamp : (fun s => s.chapters[(0 : ChapterId)].map fun r => (r.slots[4], r.cursor))
    (after (.scriptWrite 2 ([0, 1, 6] ++ u32 0 ++ u32 96000 ++ u32 77 ++ u16 30000 ++ s8 (-15))) (editing true)) =
      some (⟨.splice, 6, 0, 96000, 0, 9600, -15⟩, 5) := by decide +kernel
/-- R50: an END step is stored blank, whatever take byte was sent. -/
theorem test_scriptWrite_end : (fun s => s.chapters[(0 : ChapterId)].map fun r => (r.slots[4], r.cursor))
    (after (.scriptWrite 2 ([0, 0, 0xFF] ++ List.replicate 15 0xFF)) (editing true)) = some (Step.blank, 5) := by
  decide +kernel
theorem test_scriptRead_end :
    slot 2 (.scriptRead 2 [0]) (modChapter 0 (fun r => { r with cursor := 32 }) (editing true)) =
      .answered ⟨0x3A, .accepted, 32 :: List.replicate 17 0⟩ := by decide +kernel

/-! ### Captures -/

theorem test_takeStart : slot 1 (.takeStart 1 ([3, 1] ++ List.replicate 12 0)) (room true) =
    .answered ⟨0x20, .accepted, [2]⟩ := by decide +kernel
/-- 11 session 1: GATE_SET answers p 12,288 and SHUT. -/
theorem test_gateSet : slot 0 (.gateSet 0 (u32 48000 ++ u32 528000 ++ u32 0 ++ [0xFF])) booth =
    .answered ⟨0x21, .accepted, [0, 0x30, 0, 0, 0]⟩ := by decide +kernel
/-- A stop with samples left to drain is CLOSING (11, session 1, with 5 samples). -/
theorem test_takeStop : slot 0 (.takeStop 0 []) (modTake 2 (fun t => { t with length := 480000 })
    (modStream 0 (fun st => { st with fifo := [1, 2, 3, 4, 5] }) booth)) =
      .answered ⟨0x22, .accepted, [2, 2, 0x00, 0x53, 0x07, 0]⟩ := by decide +kernel
theorem test_takeRetire_inUse : slot 0 (.takeRetire 0 [1]) (book .ready) = .answered ⟨0x23, .inUse, []⟩ := by
  decide +kernel
/-- 11 session 2: TAKE_INFO 1 from P2, page 0. -/
theorem test_takeInfo : slot 2 (.takeInfo 2 [1, 0]) (room true) = .answered ⟨0x24, .accepted,
    [1, 3, 3, 0xFF, 0, 1, 1, 0, 0x40, 0x0D, 3, 0, 0x00, 0x4C, 0x02, 0x30, 0x2C, 1, 0, 0]⟩ := by decide +kernel
theorem test_levels : (match slot 0 (.levels 0 []) State.reset with
    | .answered r => r.payload.take 11
    | _ => []) = [0, 0xFF, 0, 0x7C, 0xFC, 0x7C, 0xFC, 0, 0, 0, 0] := by decide +kernel
/-- R28: the free space goes out with the count byte and the first sample's first byte, then 0x00. -/
theorem test_capture_sent : (after (.captureSample 0 (1, 2, 3)) (after (.capture 0 (.acts 2)) booth)).ports[(0 : Port)].sent =
    [0x00, 0x10, 0, 0] := by decide +kernel
/-- R28: a CAPTURE of which one byte of the first sample came, or two, has sent the free space whole, then 0x00. -/
theorem test_capture_trailing : (fun n => (after (.captureEnd ⟨0, n⟩) (after (.capture 0 (.acts 2)) booth)).ports[(0 : Port)].sent)
    1 = [0x00, 0x10] ∧ (after (.captureEnd ⟨0, 2⟩) (after (.capture 0 (.acts 2)) booth)).ports[(0 : Port)].sent =
      [0x00, 0x10, 0] := by decide +kernel
/-- R28: a CAPTURE cut off before its count byte on an empty slot posts nothing. -/
theorem test_capture_cut : (after (.captureEnd ⟨1, 0⟩) (after (.capture 1 .opens) desk)).ports[(1 : Port)].notices = [] := by
  decide +kernel
/-- R184: a CAPTURE that ends by another transaction's start has reached its count byte, so its notice is posted. -/
theorem test_capture_ended : (after (.request 1 .opens) (after (.capture 1 (.acts 2)) desk)).ports[(1 : Port)].notices =
    [⟨.captureIgnored, 0xFF, 0, 0⟩] := by decide +kernel

/-- Booth A in a CAPTURE transaction of 3 samples, its gate OPEN. -/
def streaming : State :=
  setTransfer 0 (.capture 4096 3 0 none 0) (modStream 0 (fun st => { st with gate := .opened }) booth)

/-- A kept sample: the FIFO, the take's length and peak, and the position. −8,388,608 has amplitude code 0 (R39). -/
theorem test_captureSample_kept : (fun s => (s.captures[(0 : Port)].map fun st => (st.fifo, st.pos),
    s.takes[(2 : TakeId)].map fun t => (t.length, t.peak))) (after (.captureSample 0 (0x00, 0x00, 0x80)) streaming) =
      (some ([-8388608], 12289), some (1, 0)) := by decide +kernel
/-- R28: the end of a CAPTURE transaction that found no stream. -/
theorem test_captureEnd_ignored :
    (after (.captureEnd ⟨1, 2⟩) (setTransfer 1 (.capture 0 2 2 (some (0xFF, 0)) 2) desk)).ports[(1 : Port)].notices =
      [⟨.captureIgnored, 0xFF, 0, 2⟩] := by decide +kernel
/-- R36: a take of 2^28 samples is stopped, with its notice. -/
theorem test_takeFull : (fun s => (s.takes[(2 : TakeId)].map (·.state), s.ports[(0 : Port)].notices))
    (after (.takeFull 0) (modTake 2 (fun t => { t with length := 2 ^ 28 })
      (modStream 0 (fun st => { st with fifo := [1] }) booth))) =
        (some .closing, [⟨.takeStopped, 2, 2, 0x10000000⟩]) := by decide +kernel
theorem test_positionLimit : (fun s => (s.captures[(0 : Port)].map (·.pos), s.ports[(0 : Port)].notices))
    (after (.positionLimit 0) (modStream 0 (fun st => { st with pos := 0xFFFFFFFF, atLimit := true, fifo := [1] }) booth)) =
      (some 0xFFFFFFFF, [⟨.takeStopped, 2, 3, 0⟩]) := by decide +kernel
theorem test_takeClosed : (fun s => (s.captures[(0 : Port)], s.ports[(0 : Port)].notices))
    (after (.takeClosed 0) (modTake 2 (fun t => { t with state := .closing, stopReason := some .requested, length := 1024 })
      (modStream 0 (fun st => { st with closing := true }) booth))) = (none, [⟨.takeClosed, 2, 0, 1024⟩]) := by
  decide +kernel
/-- 06: a block whose mean square is 20,000,000 has the code −173 (N is 4,800 here). -/
theorem test_liveBlock : (after (.liveBlock 0) (modStream 0
    (fun st => { st with energy := 20000000 * 4800, count := 4800 }) booth)).levels[(0 : Port)].lastBlock = -173 := by
  decide +kernel

/-! ### The store -/

theorem test_storeInfo : slot 0 (.storeInfo 0 []) (room true) =
    .answered ⟨0x60, .accepted, [2, 0, 3, 0, 1, 12, 0, 0, 0, 2]⟩ := by decide +kernel
/-- 11 session 6: the purge's payload, the published chapter kept with its script cleared. -/
def lastNight : State :=
  setTitle 3 (some ⟨3, 0, true, [0, 1], 3⟩)
    (setChapter 1 (some { chapter0 .rendering with position := 2 })
      (setLane 0 (some { job with chapter := 1, blocks := [42] })
        (setTake 2 (some ⟨3, .capturing, some 0, 70000, -30, false, false, none, 0, [], [34, 35], 0⟩)
          (setStream 0 (some ⟨2, false, 70000, false, .opened, 0, 0, 0, [1], none, 0, 0, 0, 0⟩)
            (takeReferences (namedTakes script) (delivered .published))))))
theorem test_purge_payload : slot 3 (.purge 3 []) lastNight = .answered ⟨0x61, .accepted, [3, 1, 1, 0, 15, 0]⟩ := by
  decide +kernel
theorem test_purge_notices : (fun s => (s.ports[(0 : Port)].notices, s.store.dirty.drop 3))
    (after (.purge 3 []) lastNight) =
      ([⟨.takeStopped, 2, 4, 70000⟩, ⟨.chapterState, 1, 0, 16⟩],
        [42, 20, 21, 22, 23, 24, 25, 26, 27, 30, 31, 32, 33, 34, 35]) := by decide +kernel

/-- 04, the example: the free count is 20, P2's page 128 and L1's page 64 wait with posted erases, and the array falls
free at the end of a page read. -/
def nearlyFull (dirty : Nat) : State :=
  setChapter 0 (some (chapter0 .rendering)) (setLane 1 (some { job with
      phase := .encode, inHand := [], assembly := [], pageIndex := 65, blocks := [42], inPeak := -90
      waiting := [1] })
    (setStream 2 (some ⟨8, false, 0, false, .opened, 0, 0, 0, [], none, 0, 0, 0, 0⟩)
      (setTake 8 (some ⟨3, .capturing, some 2, 131072, -30, false, false, none, 0, [], [50, 51], 0⟩)
        (setTitle 3 (some ⟨3, 0, true, [0], 1⟩)
          { State.reset with store := { Store.reset with
              erased := [], dirty := (List.range dirty).map (· + 100), sweep := false, array := .reading (.port 0) true 0
              buffers := #v[.loaded (.stream 2) 128 [] .posted, .loaded (.lane 1) 64 [] .posted] } }))))

/-- 09: a take of 1,000 samples opened at byte 1,000: after the read of page 0 the segment holds bytes 1,000 to 2,999. -/
def fetching : State :=
  modStore (fun st => { st with array := .reading (.port 3) false 1920 })
    (modPort 3 (fun ps => { ps with stream := .active ⟨.take 1, 3000, 1000, [], some ⟨0, 1920, true⟩⟩ })
      (setTake 1 (some { pickup with length := 1000 }) (room true)))
theorem test_pageReadComplete : (match (after .pageReadComplete fetching).ports[(3 : Port)].stream with
    | .active a => a.segments.map fun g => (g.page, g.first, g.bytes.length)
    | _ => []) = [(0, 1000, 2000)] := by decide +kernel
/-- 04, the example: at a free count of 19 the background erase's block reaches L1's allocation. -/
theorem test_backgroundEraseComplete : (fun s => (s.lanes[(1 : Lane)].map (·.blocks), freeCount s.store))
    (after .backgroundEraseComplete (modStore (fun st => { st with
      array := .erasing 77 .background false, buffers := st.buffers.set 0 .free }) (nearlyFull 18))) =
        (some [42, 77], 18) := by decide +kernel
/-- 04, the example's other end: at a free count of 16 L1's allocation fails, and its chapter is READY. -/
theorem test_backgroundEraseComplete_storeFull : (fun s => (s.lanes[(1 : Lane)].isNone,
    s.chapters[(0 : ChapterId)].map (·.state))) (after .backgroundEraseComplete (modStore (fun st => { st with
      array := .erasing 77 .background false, buffers := st.buffers.set 0 .free }) (nearlyFull 15))) =
        (true, some .ready) := by decide +kernel
/-- 04, the example: the erase for P2 completes, its block is appended, and its program starts. -/
theorem test_builtInEraseComplete : (fun s => (s.takes[(8 : TakeId)].map (·.chain), s.store.array))
    (after .builtInEraseComplete (modStore (fun st => { st with
      array := .erasing 100 (.builtIn (.stream 2)) false
      buffers := st.buffers.set 0 (.loaded (.stream 2) 128 [] .erasing) }) (nearlyFull 19))) =
        (some [50, 51, 100], .programming 0) := by decide +kernel
/-- 11 session 1: the last page of a CLOSING take programs, and the take is CLOSED. -/
def lastPage : State :=
  modStore (fun st => { st with array := .programming 0, buffers := st.buffers.set 0 (.programming (.stream 0) false 0 64 [7]) })
    (modTake 2 (fun t => { t with state := .closing, stopReason := some .requested, length := 1, chain := [1] })
      (modStream 0 (fun st => { st with closing := true }) booth))
theorem test_capturePageProgrammed : (fun s => (s.takes[(2 : TakeId)].map (·.state), readByte s.store.mem (64 * 3072)))
    (after .capturePageProgrammed lastPage) = (some .closed, 7) := by decide +kernel
/-- 04, the example's first event: P0's page 0 is loaded into X, and block 3, the oldest ERASED one, joins the chain. -/
def firstPage : State := modStream 0 (fun st => { st with fifo := List.replicate 1024 5 }) booth
theorem test_pageLoad : (fun s => (s.takes[(2 : TakeId)].map (·.chain), s.store.erased,
    s.captures[(0 : Port)].map (·.fifo))) (after .pageLoad firstPage) = (some [3], [4], some []) := by decide +kernel
theorem test_waitingAllocation : (after .waitingAllocationServed (modStore (fun st => { st with
    erased := [3], buffers := st.buffers.set 0 (.loaded (.stream 2) 128 [] .unposted) }) (nearlyFull 20))).takes[(8 : TakeId)].map
      (·.chain) = some [50, 51, 3] := by decide +kernel

/-! ### The render unit and the lanes -/

/-- 05, the example: RENDER 14 from P2 while it is QUEUED. -/
theorem test_render_queued : slot 2 (.render 2 [0]) (setQueue [⟨0, 3, .set⟩] (book .queued)) =
    .answered ⟨0x40, .alreadyQueued, []⟩ := by decide +kernel
/-- 05, the example: RENDER 12 from P2 while L0 renders it: RESTARTED, lane 0. -/
theorem test_render_restarted : slot 2 (.render 2 [0]) (rendering job) = .answered ⟨0x40, .restarted, [4, 0]⟩ := by
  decide +kernel
theorem test_renderSet_index : slot 3 (.renderSet 3 [0, 0]) (book .ready) = .answered ⟨0x41, .badParam, [1]⟩ := by
  decide +kernel
theorem test_renderCancel : (fun s => (s.chapters[(0 : ChapterId)].map (·.state), s.queue,
    s.ports[(1 : Port)].notices)) (after (.renderCancel 0 [0]) (setQueue [⟨0, 3, .set⟩] (book .queued))) =
      (some .ready, [], [⟨.chapterState, 0, 2, 11⟩]) := by decide +kernel
/-- 05, the example's QUEUE_INFO with one entry (origin P3, SET) is 15 bytes long. -/
theorem test_queueInfo : (match slot 0 (.queueInfo 0 []) (setQueue [⟨14, 3, .set⟩] (rendering job)) with
    | .answered r => (r.payload.length, r.payload.take 9)
    | _ => (0, [])) = (15, [1, 14, 7, 0, 1, 0, 0, 0, 0]) := by decide +kernel
theorem test_publish : (fun s => (s.chapters[(0 : ChapterId)].map (·.state), s.ports[(0 : Port)].notices))
    (after (.publish 3 [0]) (delivered .rendered)) = (some .published, [⟨.chapterState, 0, 7, 13⟩]) := by decide +kernel
/-- 11 session 7: COLLECT after a purge frees the record: payload FREE. -/
theorem test_collect_cleared : slot 3 (.collect 3 [0])
    (modChapter 0 (fun r => { r with slots := Vector.replicate 32 Step.blank, scriptCleared := true }) (delivered .published)) =
      .answered ⟨0x45, .accepted, [0]⟩ := by decide +kernel
theorem test_collect_ready : slot 3 (.collect 3 [0]) (delivered .published) = .answered ⟨0x45, .accepted, [2]⟩ := by
  decide +kernel
/-- R99: a SILENT pass rejects the chapter. -/
theorem test_measureEnd_silent : (after (.measureEnd 0) (rendering { job with done := 650080 })).chapters[(0 : ChapterId)].map
    (·.state) = some .rejected := by decide +kernel
/-- 11 session 3: LI −214 and c_pk −90 give the gain 14; 8,000,000 has the code −213, so the target gain is 13 here. -/
theorem test_measureEnd_gain : (after (.measureEnd 0) (rendering { job with
    done := 650080, input := { Meter.clear with hist := histAdd Meter.clear.hist 8000000, peak := 3000000 } })).lanes[(0 : Lane)].map
      (fun j => (j.phase, j.li, j.inPeak, j.gain)) = some (.encode, -213, -90, 13) := by decide +kernel
/-- A job whose two first samples are in one held page. -/
def measuring : Job := { job with pages := [⟨0, 0, List.replicate 3072 1⟩] }
theorem test_measureSample : (after (.measureSample 0) (rendering measuring)).lanes[(0 : Lane)].map
    (fun j => (j.done, j.input.count, j.input.peak)) = some (1, 1, 0x010101) := by decide +kernel
theorem test_meterBlock : (after (.meterBlock 0) (rendering { job with
    input := { Meter.clear with energy := 1500 * 4800, count := 4800 } })).lanes[(0 : Lane)].map
      (fun j => (j.input.blocks, j.input.count, (j.input.hist.toList.map (·.count)).idxOf 1)) = some (1, 0, 900 - 586) := by
  decide +kernel
/-- 07, coding a frame, in a lane whose last frame has these four samples: the FIRST and LAST flags, k = 7. -/
def encoding : Job :=
  { job with phase := .encode, total := 4, gain := 0, inHand := [300, 650, 620, -100] }
theorem test_encodeFrame : (after (.encodeFrame 0) (rendering encoding)).lanes[(0 : Lane)].isNone = true ∧
    (codeFrame Profile.default 0 4 960 Chain.start [300, 650, 620, -100]).2 =
      ([256, 640, 640, -128], [7 + 64 + 128, 0x23, 0x0A]) := by decide +kernel
/-- R103: an output that fails and is not kept rejects the chapter at the end of the pass. -/
theorem test_encodeEnd_failed : (after (.encodeEnd 0) (rendering { job with
    phase := .encode, chain := { Chain.start with framesDone := 678 } })).chapters[(0 : ChapterId)].map (·.state) =
      some .rejected := by decide +kernel
/-- R158 and R159: the ends of the default window, a floor code of −590, and an output with no block at or above Ga. -/
theorem test_verify : verify .default (some (-180)) 0 (some (-720)) 5 10 = [] ∧
    verify .default (some (-179)) 0 (some (-590)) 5 10 = [.loudHigh, .floor] ∧
    verify .default none 1 (some (-900)) 5 10 = [.clips, .silent] := by decide +kernel
/-- R102: the header page's program completes with an empty verify: RENDERED, the lane IDLE. -/
def headerPage : State :=
  modStore (fun st => { st with array := .programming 1, buffers := st.buffers.set 1 (.programming (.lane 0) false 0 128 [1]) })
    (rendering { job with phase := .encode, blocks := [2], finishing := some ⟨[], 0, -201, -76, none, 5, 11⟩ })
theorem test_outputPageProgrammed : (fun s => (s.chapters[(0 : ChapterId)].map (·.state), s.lanes[(0 : Lane)].isNone))
    (after .outputPageProgrammed headerPage) = (some .rendered, true) := by decide +kernel

/-! ### Profiles -/

/-- R151's table: tolerance 2, ceiling 0, Rel 0, floor_max −300, m 12, max length 100, keep-rejected 5. -/
theorem test_profileSet_clamps : (fun s => (s.profiles[(1 : ProfileNo)].tolerance, s.profiles[(1 : ProfileNo)].ceiling,
    s.profiles[(1 : ProfileNo)].rel, s.profiles[(1 : ProfileNo)].floorMax, s.profiles[(1 : ProfileNo)].m,
    s.profiles[(1 : ProfileNo)].maxLen, s.profiles[(1 : ProfileNo)].keep)) (after (.profileSet 0 ([1] ++ s16 (-200) ++ [2] ++
      s16 0 ++ [30, 0] ++ u16 65535 ++ s16 (-300) ++ s16 (-500) ++ [12, 8, 10, 50] ++ s16 (-700) ++ [100, 12, 5] ++ u16 100))
        State.reset) = (5, -10, 1, -400, 8, 600, true) := by decide +kernel
/-- R149's defaults in the form of R150. -/
theorem test_profileGet : slot 0 (.profileGet 0 [0]) State.reset = .answered ⟨0x51, .accepted,
    [0] ++ s16 (-200) ++ [20] ++ s16 (-30) ++ [30, 3] ++ u16 0 ++ s16 (-600) ++ s16 (-500) ++ [5, 10, 10, 50] ++
      s16 (-700) ++ [100, 4, 0] ++ u16 36000⟩ := by decide +kernel

/-! ### Streams -/

/-- 09: a take of 1,000 samples opened at offset 7,000 answers CLAMPED with cursor 1,000. -/
theorem test_streamOpen : slot 3 (.streamOpen 3 ([1, 1] ++ u32 7000)) (setTake 1 (some { pickup with length := 1000 }) (room true)) =
    .answered ⟨0x62, .clamped, u32 3000 ++ u32 1000 ++ [3]⟩ := by decide +kernel
/-- P3 reads chapter 0's output with three bytes at hand. -/
def readerIn (st : ChapterState) : State :=
  modPort 3 (fun ps => { ps with stream := .active ⟨.output 0, 330560, 330559, [⟨107, 330559, [9]⟩, ⟨0, 0, [1, 4]⟩], none⟩ })
    (delivered st)
def reader : State := readerIn .published
theorem test_streamClose : slot 3 (.streamClose 3 []) reader = .answered ⟨0x63, .accepted, [1]⟩ := by decide +kernel
theorem test_streamData : (after (.streamData 3) reader).ports[(3 : Port)].sent = [1, 3, 0] := by decide +kernel
/-- 11 session 5: after byte 330,559 the cursor wraps to 0. -/
theorem test_dataByteDelivered : (match (after (.dataByteDelivered 3) (after (.streamData 3) reader)).ports[(3 : Port)].stream with
    | .active a => (a.cursor, a.segments.map (·.page))
    | _ => (1, [])) = (0, [0]) := by decide +kernel
theorem test_streamDataEnd : (after (.streamDataEnd 3) (after (.streamData 3) reader)).ports[(3 : Port)].xfer = .none := by
  decide +kernel

/-! ### The ports -/

theorem test_subscribe : slot 0 (.subscribe 0 [5]) State.reset = .answered ⟨0x70, .accepted, [5]⟩ := by decide +kernel
theorem test_deviceInfo : slot 3 (.deviceInfo 3 []) State.reset = .answered ⟨0x71, .accepted, [0x74, 2, 3]⟩ := by
  decide +kernel
/-- R185 case 5: the port executes a padded request with its L parameter bytes. -/
theorem test_request_executing : slot 0 (.request 0 (.acts [0x13, 1, 3, 0xEE])) desk = .executing .titleInfo [3] false := by
  decide +kernel
/-- R188: a REQUEST cut off after its length byte is dropped SHORT. -/
theorem test_request_short : (after (.request 2 (.acts [0x25, 4])) desk).ports[(2 : Port)].notices =
    [⟨.requestDropped, 0x25, 1, 2⟩] := by decide +kernel
/-- 10, the example: P2 with a full slot and a queue of 16, its LOST flag set. -/
def missed : State :=
  modPort 2 (fun ps => { ps with
    exec := .answered ⟨0x22, .accepted, [0, 2, 0, 0, 0, 0]⟩, notices := List.replicate 16 ⟨.chapterState, 0, 1, 0⟩, lost := true
    latched := 7 }) desk
/-- 10, the example: a clear of 0x07 releases the line in edge mode, and the LOST flag is clear. -/
theorem test_attentionClear : (fun s => (s.ports[(2 : Port)].latched, s.ports[(2 : Port)].lost, s.ports[(2 : Port)].sent,
    attentionLow s.ports[(2 : Port)])) (after (.attentionClear 2 7 4) missed) = (0, false, [7, 7, 7, 0], false) := by
  decide +kernel
/-- R196: a source that latches between the transaction byte and the clear loses the new latch unseen: the byte that was
sent shows no NOTICE, and the pending bit is clear. -/
theorem test_attentionClear_unseen : (fun s => (s.ports[(1 : Port)].sent, s.ports[(1 : Port)].latched,
    s.ports[(1 : Port)].notices.length)) (after (.attentionClear 1 2 4) (after (.publish 3 [0])
      (after (.attentionRead 1 .opens) (delivered .rendered)))) = ([0, 0, 7, 0], 0, 1) := by decide +kernel
theorem test_attentionRead : (fun s => (s.ports[(2 : Port)].latched, s.ports[(2 : Port)].sent))
    (after (.attentionRead 2 (.acts 4)) missed) = (7, [7, 7, 7, 0]) := by decide +kernel
theorem test_attentionMask : (after (.attentionMask 2 0x0F 2) missed).ports[(2 : Port)].mask = 15 := by decide +kernel
/-- R195: in level mode a source's pending bit is its condition. -/
theorem test_attentionMode : (after (.attentionMode 0 0x0F 2) (modPort 0 (fun ps => { ps with latched := 4 }) desk)).ports[(0 : Port)].latched =
    0 := by decide +kernel
/-- 10, the example: FETCH clocks 9 bytes and empties the slot. -/
theorem test_fetch : (fun s => (s.ports[(2 : Port)].exec, s.ports[(2 : Port)].sent)) (after (.fetch 2 (.acts 9)) missed) =
    (.idle, [0x22, 0, 6, 0, 2, 0, 0, 0, 0]) := by decide +kernel
/-- R187: a response formed during a FETCH that found the slot empty stays for the next one. -/
theorem test_fetch_formed : (fun s => (s.ports[(0 : Port)].sent, isAnswered s.ports[(0 : Port)].exec))
    (after (.fetch 0 (.acts 4)) (after (.levels 0 []) (after (.fetch 0 .opens) (after (.request 0 (.acts [0x25, 0])) desk)))) =
      ([0, 0, 0, 0], true) := by decide +kernel
theorem test_fetch_cut : slot 2 (.fetch 2 (.acts 8)) missed = .answered ⟨0x22, .accepted, [0, 2, 0, 0, 0, 0]⟩ := by decide +kernel
theorem test_notices_removesNothing : (after (.notices 2) missed).ports[(2 : Port)].notices.length = 16 := by decide +kernel
theorem test_noticeRecordSent : (fun s => (s.ports[(2 : Port)].notices.length, s.ports[(2 : Port)].sent))
    (after (.noticeRecordSent 2) (after (.notices 2) missed)) = (15, [8, 0, 1, 0, 0, 0, 0, 0]) := by decide +kernel
/-- R199: a port reset gives the port's slot, queue, LOST flag and claims their defaults. -/
theorem test_portReset : (fun s => (s.ports[(2 : Port)], s.chapters[(0 : ChapterId)].map (·.editor)))
    (after (.portReset 2 0) (modPort 2 (fun _ => missed.ports[(2 : Port)]) (editing true))) =
      (PortState.reset, some none) := by decide +kernel
theorem test_portReset_ignored : (after (.portReset 2 8) missed).ports[(2 : Port)].notices.length = 16 := by decide +kernel
theorem test_ignoredTransaction : (after (.ignoredTransaction 1 0x55 2) desk).ports[(1 : Port)].sent = [0, 0] := by
  decide +kernel
/-- R200 and R81: after device reset the sweep erases block 0. -/
theorem test_deviceReset : (fun s => (s.titles[(3 : TitleNo)], s.store.array, s.store.dirty.head?)) (after .deviceReset (room true)) =
    (none, .erasing 0 .background false, some 1) := by decide +kernel
/-- R184: a CAPTURE that a device reset abandons is ignored to the rise of chip-select. -/
theorem test_deviceReset_abandons : (fun s => (s.ports[(0 : Port)].xfer, (after (.captureEnd ⟨0, 0⟩) s).ports[(0 : Port)].xfer))
    (after .deviceReset streaming) = (.abandoned 0xA4, .none) := by decide +kernel
/-- A request through the queue: step runs the front command with the queue's rest. -/
theorem test_step : (match step { desk with pending := [.levels 0 [], .deviceReset] } with
    | .next t => t.pending
    | _ => []) = [.deviceReset] := by decide +kernel
/-- The table gives no row any bits. -/
theorem test_decodeTableWord : decodeTableWord 16 0x1234 = none := rfl

/-! ### Witnesses: a state and operands that meet the hypotheses of each statement, clause by clause

A hypothesis that only names a value (`x = …`) is met by that value and is not repeated. -/

/-- A property of what a slot holds, from its check. -/
theorem of_check {α : Type} {P : α → Prop} [DecidablePred P] {o : Option α} (h : o.all (fun a => decide (P a)) = true) :
    ∀ a, o = some a → P a := by
  rintro a rfl
  simpa using h

/-- An executing port, its request passed on by the port or discarded after a port reset. -/
def waiting (p : Port) (k : ReqKind) (ps : List Byte) (discarded : Bool) : State :=
  modPort p (fun r => { r with exec := .executing k ps discarded }) (room true)

/-- The port has passed a request on to its block. -/
def passedOn (p : Port) (k : ReqKind) (ps : List Byte) (s : State) : State :=
  modPort p (fun r => { r with exec := .executing k ps false }) s

/-- With the request passed on, its block takes it. -/
def Offered (s : State) (p : Port) (k : ReqKind) (ps : List Byte) : Prop := Takes (passedOn p k ps s) p k ps

/-- Passing a request on touches nothing but the port's execution state: what a witness says of a state's records holds
of that state with the request passed on, and so do the laws of the records. -/
theorem passedOn_records (p : Port) (k : ReqKind) (ps : List Byte) (s : State) :
    passedOn p k ps s = { s with ports := (passedOn p k ps s).ports } ∧ (QueueLaw (passedOn p k ps s) ↔ QueueLaw s) ∧
      (PositionLaw (passedOn p k ps s) ↔ PositionLaw s) ∧ (StreamLaw (passedOn p k ps s) ↔ StreamLaw s) :=
  ⟨rfl, Iff.rfl, Iff.rfl, Iff.rfl⟩

/-- All 64 chapters in use; all 128 takes in use; title 3 with 32 chapters. -/
def fullBook : State := { room true with chapters := Vector.replicate 64 (some (chapter0 .ready)) }
def fullShelf : State := { room true with takes := Vector.replicate 128 (some narration) }
def fullTitle : State := setTitle 3 (some ⟨3, 0, true, (List.finRange 64).take 32, 2⟩) (room true)

/-- Title 3 with no content. -/
def emptyTitle : State := setTitle 3 (some ⟨3, 0, true, [], 0⟩) desk

/-- The reader's page read in progress. -/
def readerFetching : State :=
  modStore (fun st => { st with array := .reading (.port 3) false 1920 }) reader

/-- A render queue of `n` entries. -/
def queueOf (n : Nat) : List Entry := ((List.finRange 64).drop 1).take n |>.map fun c => ⟨c, 3, .set⟩

/-- Chapter 0 as a record of a life's stage, its result group that of a passed job. -/
def finished (st : ChapterState) : Chapter := { chapter0 st with result := some passed }

theorem witness_StepRunsFrontCommand : State.reset.pending = [] := rfl

theorem witness_RequestIsServed :
    requestRow (.levels 0 []) = some (0, .levels, [], reportLevels []) ∧ Takes (waiting 0 .levels [] false) 0 .levels [] ∧
    (waiting 0 .levels [] true).ports[(0 : Port)].exec = .executing .levels [] true ∧
    desk.ports[(0 : Port)].exec = .idle ∧ (List.replicate 60 (0 : Byte)).length ≤ 60 ∧
    requestRow (.levels 0 (List.replicate 60 0)) = some (0, .levels, List.replicate 60 0, reportLevels (List.replicate 60 0)) ∧
    60 < (List.replicate 61 (0 : Byte)).length ∧
    requestRow (.fetch 0 (.acts 3)) = none ∧ requestRow (.levels 2 []) = some (2, .levels, [], reportLevels []) ∧
    missed.ports[(2 : Port)].exec = .answered ⟨0x22, .accepted, [0, 2, 0, 0, 0, 0]⟩ ∧
    ¬(ReqKind.levels = .takeInfo ∧ ([] : List Byte) = [1, 0]) := by
  refine ⟨rfl, ?_, ?_, ?_, ?_, rfl, ?_, rfl, rfl, ?_⟩
  case refine_1 =>
    unfold Takes
    decide +kernel
  all_goals decide +kernel

theorem witness_RefusalChangesNothing :
    requestRow (.takeRetire 0 [1]) = some (0, .takeRetire, [1], retireTake [1]) ∧ Offered (book .ready) 0 .takeRetire [1] ∧
    Refused (retireTake [1] (book .ready)).result ∧ (retireTake [1] (book .ready)).result ≠ .scriptBad := by
  refine ⟨rfl, ?_⟩
  unfold Offered Takes Refused
  decide +kernel

theorem witness_RequestChecksRefuse :
    requestRow (.takeInfo 0 [1, 11]) = some (0, .takeInfo, [1, 11], reportTake [1, 11]) ∧
    Offered (room true) 0 .takeInfo [1, 11] ∧ lengthFits .takeInfo 2 = true ∧ valuesFit .takeInfo [1, 11] = false ∧
    requestRow (.takeInfo 0 [1]) = some (0, .takeInfo, [1], reportTake [1]) ∧ Offered (room true) 0 .takeInfo [1] ∧
    lengthFits .takeInfo 1 = false ∧ Offered (room true) 0 .takeInfo [128, 0] ∧ firstIdLimit .takeInfo = some 128 ∧
    128 ≤ paramAt [128, 0] 0 := by
  refine ⟨rfl, ?_, rfl, rfl, rfl, ?_, rfl, ?_, rfl, by decide⟩ <;> unfold Offered Takes <;> decide +kernel

theorem witness_RequestChecksRefuse_script :
    requestRow (.scriptRead 2 [63]) = some (2, .scriptRead, [63], readScript 2 [63]) ∧
    Offered (room true) 2 .scriptRead [63] ∧ lengthFits .scriptRead 1 = true ∧ chapterAt [63] 0 = some 63 ∧
    (room true).chapters[(63 : ChapterId)] = none ∧ chapterAt [0] 0 = some 0 ∧ Offered (book .ready) 2 .scriptRead [0] ∧
    (book .ready).chapters[(0 : ChapterId)] = some (chapter0 .ready) ∧ Offered (editing true) 3 .scriptRead [0] ∧
    ((editing true).chapters[(0 : ChapterId)].map fun r => (r.state, r.editor)) = some (.assembling, some 2) ∧
    stepSent ([0, 2, 127] ++ List.replicate 15 0) ≠ none := by
  refine ⟨rfl, ?_⟩
  unfold Offered Takes
  decide +kernel

theorem witness_TitleRequestsAndChapterCreate :
    Offered desk 3 .titleDefine [7, 3, 3, 1] ∧ desk.titles[(7 : TitleNo)] = none ∧
    Offered (room true) 3 .titleDefine [3, 0, 0, 0] ∧ (room true).titles[(3 : TitleNo)] = some ⟨3, 0, true, [0], 2⟩ ∧
    Offered desk 3 .titleDrop [7] ∧ Offered (room true) 3 .titleDrop [3] ∧ Offered emptyTitle 3 .titleDrop [3] ∧
    emptyTitle.titles[(3 : TitleNo)] = some ⟨3, 0, true, [], 0⟩ ∧ Offered desk 0 .titleProfile [7, 3, 0xFF] ∧
    Offered (room true) 0 .titleProfile [3, 0xFF, 0] := by
  unfold Offered Takes
  decide +kernel

theorem witness_ReportsChangeNothing :
    Offered desk 0 .titleInfo [7] ∧ desk.titles[(7 : TitleNo)] = none ∧
    Offered (delivered .rendered) 0 .titleInfo [3] ∧
    (delivered .rendered).titles[(3 : TitleNo)] = some ⟨3, 0, false, [0], 2⟩ ∧
    Offered desk 0 .chapterInfo [63] ∧ desk.chapters[(63 : ChapterId)] = none ∧ Offered (delivered .rendered) 0 .chapterInfo [0] ∧
    (delivered .rendered).chapters[(0 : ChapterId)] = some (finished .rendered) ∧ (finished .rendered).assembled = some 650080 ∧
    (0 : ChapterId) ∈ [(0 : ChapterId)] ∧ (book .ready).chapters[(0 : ChapterId)] = some (chapter0 .ready) ∧
    (∀ i ∈ [(0 : Byte), 10, 255], Offered desk 2 .takeInfo [127, i]) ∧ desk.takes[(127 : TakeId)] = none ∧
    (∀ i : Fin 11, Offered (room true) 2 .takeInfo [1, BitVec.ofNat 8 i.val]) ∧ Offered (room true) 2 .takeInfo [1, 255] ∧
    Offered (room true) 2 .takeInfo [1, 11] ∧ Offered (room true) 2 .takeInfo [1, 254] ∧
    (room true).takes[(1 : TakeId)] = some pickup ∧ Offered desk 0 .levels [] ∧ Offered desk 0 .storeInfo [] ∧
    Offered (rendering job) 0 .queueInfo [] := by
  unfold Offered Takes
  decide +kernel

theorem witness_TitleRequestsAndChapterCreate_create :
    Offered desk 2 .chapterCreate [3, 1] ∧ desk.titles[(3 : TitleNo)] = none ∧
    Offered fullTitle 2 .chapterCreate [3, 1] ∧
    fullTitle.titles[(3 : TitleNo)] = some ⟨3, 0, true, (List.finRange 64).take 32, 2⟩ ∧
    Offered fullBook 2 .chapterCreate [3, 1] ∧ (∀ c : ChapterId, fullBook.chapters[c] ≠ none) ∧
    Offered (book .ready) 2 .chapterCreate [3, 255] ∧ (book .ready).titles[(3 : TitleNo)] = some ⟨3, 0, false, [0], 2⟩ ∧
    (book .ready).chapters[(1 : ChapterId)] = none ∧ (∀ d : ChapterId, d < 1 → (book .ready).chapters[d] ≠ none) := by
  unfold Offered Takes
  decide +kernel

theorem witness_ChapterOpenRequest :
    Offered (room true) 2 .chapterOpen [63] ∧ (room true).chapters[(63 : ChapterId)] = none ∧
    (∀ p : Port, Offered (editing true) p .chapterOpen [0]) ∧
    ((editing true).chapters[(0 : ChapterId)].map fun r => (r.state, r.editor)) = some (.assembling, some 2) ∧
    Offered (book .assembling) 2 .chapterOpen [0] ∧ (chapter0 .assembling).editor = none ∧
    (book .assembling).chapters[(0 : ChapterId)] = some (chapter0 .assembling) ∧
    Offered (delivered .published) 2 .chapterOpen [0] ∧
    (delivered .published).chapters[(0 : ChapterId)] = some (finished .published) ∧
    Offered (rendering job) 2 .chapterOpen [0] ∧ (rendering job).chapters[(0 : ChapterId)] = some (chapter0 .rendering) ∧
    (∀ q : Port, (rendering job).ports[q].subs.getLsbD 0 = true ∧ (rendering job).ports[q].notices.length < 16) ∧
    Offered (readerIn .rendered) 2 .chapterOpen [0] ∧
    (readerIn .rendered).chapters[(0 : ChapterId)] = some (finished .rendered) ∧ ownedOutput (finished .rendered) ≠ none ∧
    activeSource (readerIn .rendered).ports[(3 : Port)] = some (.output 0) := by
  unfold Offered Takes
  decide +kernel

theorem witness_ChapterCloseRequest :
    Offered (room true) 2 .chapterClose [63] ∧ (room true).chapters[(63 : ChapterId)] = none ∧
    Offered (book .ready) 2 .chapterClose [0] ∧ (book .ready).chapters[(0 : ChapterId)] = some (chapter0 .ready) ∧
    (∀ p : Port, Offered (editing true) p .chapterClose [0]) ∧
    ((editing true).chapters[(0 : ChapterId)].map fun r => (r.state, r.editor, r.slots)) = some (.assembling, some 2, script) ∧
    validate (editing true) 3 script = .ok 650080 ∧ autoTitle (editing true) 3 = true ∧
    (editing true).queue.length < 16 ∧ autoTitle (setQueue (queueOf 16) (editing true)) 3 = true ∧
    (setQueue (queueOf 16) (editing true)).queue.length = 16 ∧ autoTitle (editing false) 3 = false ∧
    validate (setTake 1 (some { pickup with state := .closing, port := some 1 }) (editing true)) 3 script =
      .error ⟨0, 3, 200000⟩ := by
  unfold Offered Takes
  decide +kernel

/-- Step 1 of the script alone fails where take 0 is not in use; every step of the script passes in the room. -/
theorem witness_ValidationFindsFirstFailure :
    (scriptSteps script).length = 4 ∧ stepBad (setTake 0 none (room true)) 3 (some 24000) ⟨.splice, 0, 0, 480000, 0, 480, 0⟩ ≠ none ∧
    stepBad (setTake 0 none (room true)) 3 none ⟨.tone, 1, 1000, 4800, 24000, 0, 0⟩ = none ∧
    (List.range 4).all (fun j => ((scriptSteps script)[j]?).all fun st => (stepBad (room true) 3
      (if j = 0 then none else ((scriptSteps script)[j - 1]?).map netContribution) st).isNone) = true ∧
    scriptSteps (Vector.replicate 32 Step.blank) = [] ∧ ((scriptSteps script).map netContribution).sum = 650080 ∧
    blockLength (titleRate (room true) 3) ≤ 650080 := by decide +kernel

/-- Take 1, 200,000 samples long, named at and past the bounds of R54 to R56. -/
theorem witness_ValidationFindsFirstFailure_step :
    (room true).takes[(1 : TakeId)] = some pickup ∧ pickup.title ≠ 4 ∧ pickup.title = 3 ∧ pickup.state = .closed ∧
    booth.takes[(2 : TakeId)] = some ⟨3, .capturing, some 0, 0, -900, false, false, none, 0, [], [], 0⟩ ∧
    (fun st : Step => pickup.length < st.start + st.len) ⟨.splice, 1, 1, 200000, 0, 0, 0⟩ ∧
    (fun st : Step => st.kind = .tone ∧ 2 ^ 28 - 1 < st.fill) ⟨.tone, 1, 0, 200000, 2 ^ 28, 0, 0⟩ ∧
    (fun st : Step => ¬(2 ^ 28 - 1 < st.start ∨ 2 ^ 28 - 1 < st.len ∨ st.len = 0 ∨ pickup.length < st.start + st.len ∨
      (st.kind = .tone ∧ (2 ^ 28 - 1 < st.fill ∨ st.fill = 0))) ∧ 0 < st.xf ∧ st.fill < st.xf ∧ st.xf ≤ 9)
        ⟨.tone, 1, 199999, 1, 8, 9, 0⟩ ∧
    (fun st : Step => ¬(2 ^ 28 - 1 < st.start ∨ 2 ^ 28 - 1 < st.len ∨ st.len = 0 ∨ pickup.length < st.start + st.len ∨
      (st.kind = .tone ∧ (2 ^ 28 - 1 < st.fill ∨ st.fill = 0))) ∧ st.xf ≤ st.len ∧ 8 < st.xf ∧ st.xf ≤ 9)
        ⟨.splice, 1, 199991, 9, 0, 9, 0⟩ := by decide +kernel

theorem witness_ChapterDiscardAndMove :
    Offered (room true) 0 .chapterDiscard [63] ∧ (room true).chapters[(63 : ChapterId)] = none ∧
    Offered (delivered .published) 0 .chapterDiscard [0] ∧
    (delivered .published).chapters[(0 : ChapterId)] = some (finished .published) ∧
    (∀ p : Port, Offered (editing true) p .chapterDiscard [0]) ∧
    ((editing true).chapters[(0 : ChapterId)].map fun r => (r.state, r.editor)) = some (.assembling, some 2) ∧
    Offered (rendering job) 0 .chapterDiscard [0] ∧
    (rendering job).chapters[(0 : ChapterId)] = some (chapter0 .rendering) ∧
    Offered (readerIn .rendered) 0 .chapterDiscard [0] ∧
    (readerIn .rendered).chapters[(0 : ChapterId)] = some (finished .rendered) ∧ ownedOutput (finished .rendered) ≠ none ∧
    activeSource (readerIn .rendered).ports[(3 : Port)] = some (.output 0) ∧
    Offered (room true) 0 .chapterMove [63, 1] ∧ Offered (book .ready) 0 .chapterMove [0, 0] ∧
    Offered (book .ready) 0 .chapterMove [0, 1] ∧ Offered (book .ready) 0 .chapterMove [0, 255] ∧
    chapterList (book .ready) 3 = [0] := by
  unfold Offered Takes
  decide +kernel

theorem queueLaw_editing : QueueLaw (editing true) := by
  unfold QueueLaw
  decide +kernel

theorem queueLaw_readerIn : QueueLaw (readerIn .rendered) := by
  unfold QueueLaw
  decide +kernel

/-- P3's stream and its page read in progress; the take it reads. -/
theorem witness_ReleasedSourceDetaches :
    activeSource readerFetching.ports[(3 : Port)] = some (.output 0) ∧
    readerFetching.store.array = .reading (.port 3) false 1920 ∧ activeSource reader.ports[(0 : Port)] ≠ some (.output 0) ∧
    (∀ p : Port, reader.store.array ≠ .reading (.port p) false 1920) ∧
    reader.chapters[(0 : ChapterId)] = some (finished .published) ∧
    ownedOutput (finished .published) = some ⟨330560, 688, 0xCBF43926, [40, 41]⟩ ∧
    (book .ready).chapters[(0 : ChapterId)] = some (chapter0 .ready) ∧ ownedOutput (chapter0 .ready) = none ∧
    fetching.takes[(1 : TakeId)] = some { pickup with length := 1000 } ∧
    activeSource fetching.ports[(3 : Port)] = some (.take 1) := by decide +kernel

theorem queueLaw_rendering : QueueLaw (rendering job) := by
  unfold QueueLaw
  decide +kernel

/-- Chapter 0 held by P2 with its cursor at a slot. -/
def heldAt (k : Nat) : State := setChapter 0 (some { chapter0 .assembling with editor := some 2, cursor := k }) (room true)

theorem witness_ScriptPointAndRead :
    Offered (heldAt 4) 2 .scriptPoint [0, 31] ∧ Offered (heldAt 4) 2 .scriptPoint [0, 32] ∧
    ((heldAt 4).chapters[(0 : ChapterId)].map fun r => (r.state, r.editor)) = some (.assembling, some 2) := by
  unfold Offered Takes
  decide +kernel

theorem witness_ScriptWriteStoresStep :
    (∀ k : StepKind, Offered (heldAt 31) 2 .scriptWrite ([0] ++ u8 (stepCode k) ++ u8 127 ++ u32 0 ++ u32 1 ++ u32 0 ++ u16 9601 ++ [0x88])) ∧
    Offered (heldAt 31) 2 .scriptWrite ([0] ++ u8 (stepCode .finish) ++ [0xFF] ++ u32 0 ++ u32 1 ++ u32 0 ++ u16 9601 ++ [0x88]) ∧
    Offered (heldAt 32) 2 .scriptWrite ([0] ++ u8 0 ++ u8 0 ++ u32 0 ++ u32 0 ++ u32 0 ++ u16 9600 ++ [0x78]) ∧
    ((heldAt 31).chapters[(0 : ChapterId)].map fun r => (r.state, r.editor, r.cursor)) = some (.assembling, some 2, 31) ∧
    ((heldAt 32).chapters[(0 : ChapterId)].map fun r => (r.state, r.editor, r.cursor)) = some (.assembling, some 2, 32) := by
  refine ⟨fun k => by cases k <;> unfold Offered Takes <;> decide +kernel, ?_⟩
  unfold Offered Takes
  decide +kernel

theorem witness_ScriptPointAndRead_read :
    Offered (heldAt 31) 2 .scriptRead [0] ∧ Offered (heldAt 32) 2 .scriptRead [0] ∧
    ((heldAt 31).chapters[(0 : ChapterId)].map fun r => (r.state, r.editor, r.cursor)) = some (.assembling, some 2, 31) ∧
    ((heldAt 32).chapters[(0 : ChapterId)].map fun r => (r.state, r.editor, r.cursor)) = some (.assembling, some 2, 32) := by
  unfold Offered Takes
  decide +kernel


theorem witness_TakeStartAndGateSet :
    (∀ g : Fin 2, Offered booth 0 .takeStart ([3, BitVec.ofNat 8 g.val] ++ u32 0 ++ u32 0xFFFFFFFF ++ u32 1)) ∧
    booth.captures[(0 : Port)] ≠ none ∧ Offered desk 1 .takeStart ([7, 1] ++ List.replicate 12 0) ∧
    desk.captures[(1 : Port)] = none ∧ desk.titles[(7 : TitleNo)] = none ∧
    Offered fullShelf 1 .takeStart ([3, 1] ++ List.replicate 12 0) ∧ fullShelf.captures[(1 : Port)] = none ∧
    fullShelf.titles[(3 : TitleNo)] = some ⟨3, 0, true, [0], 2⟩ ∧ (∀ k : TakeId, fullShelf.takes[k] ≠ none) ∧
    Offered (room true) 1 .takeStart ([3, 1] ++ List.replicate 12 0xFF) ∧ (room true).captures[(1 : Port)] = none ∧
    (room true).titles[(3 : TitleNo)] = some ⟨3, 0, true, [0], 2⟩ ∧ (room true).takes[(2 : TakeId)] = none ∧
    (∀ j : TakeId, j < 2 → (room true).takes[j] ≠ none) := by
  unfold Offered Takes
  decide +kernel

/-- Booth A's stream as it stands, and the same stream CLOSING. -/
def boothStream : Stream := ⟨2, false, 12288, false, .shut, 0, 0, 0, [], none, 0, 0, 0, 0⟩
def boothTake : Take := ⟨3, .capturing, some 0, 0, -900, false, false, none, 0, [], [], 0⟩
def closingBooth : State := modStream 0 (fun st => { st with closing := true }) booth

theorem witness_TakeStartAndGateSet_gate :
    (∀ w : Fin 3, Offered booth 0 .gateSet (List.replicate 12 0xFF ++ [#v[0, 1, 0xFF][w]])) ∧
    booth.captures[(0 : Port)] = some boothStream ∧ boothStream.closing = false ∧
    booth.takes[(2 : TakeId)] = some boothTake ∧ Offered closingBooth 0 .gateSet (List.replicate 13 0) ∧
    closingBooth.captures[(0 : Port)] = some { boothStream with closing := true } ∧
    Offered booth 1 .gateSet (List.replicate 13 0) ∧ booth.captures[(1 : Port)] = none := by
  unfold Offered Takes
  decide +kernel

/-- A stream in a dropout run with one sample in its FIFO. -/
def runStream : Stream := { boothStream with fifo := [1], run := some 3 }

theorem witness_TakeStopAndRetire :
    booth.captures[(0 : Port)] = some boothStream ∧ booth.takes[(2 : TakeId)] = some boothTake ∧
    inStore (.stream 0) booth.store = false ∧
    (setStream 0 (some runStream) booth).captures[(0 : Port)] = some runStream ∧
    ¬(runStream.fifo = [] ∧ inStore (.stream 0) (setStream 0 (some runStream) booth).store = false) ∧
    Offered booth 0 .takeStop [] ∧ Offered booth 1 .takeStop [] ∧ booth.captures[(1 : Port)] = none ∧
    Offered closingBooth 0 .takeStop [] ∧ Offered desk 0 .takeRetire [127] ∧ desk.takes[(127 : TakeId)] = none ∧
    Offered booth 0 .takeRetire [2] ∧ boothTake.state ≠ .closed ∧ Offered (book .ready) 0 .takeRetire [1] ∧
    (book .ready).takes[(1 : TakeId)] = some { pickup with refs := 1 } ∧ Offered (room true) 0 .takeRetire [1] ∧
    (room true).takes[(1 : TakeId)] = some pickup ∧ pickup.state = .closed ∧ pickup.refs = 0 := by
  unfold Offered Takes
  decide +kernel

theorem witness_CaptureTransaction :
    (ended 0 booth).captures[(0 : Port)] = some boothStream ∧ boothStream.closing = false ∧
    (ended 0 closingBooth).captures[(0 : Port)] = some { boothStream with closing := true } ∧
    (ended 1 booth).captures[(1 : Port)] = none ∧
    (∀ s ∈ [booth, closingBooth], (setTransfer 0 (.captureOpened 4096) s).ports[(0 : Port)].xfer = .captureOpened 4096) ∧
    (setTransfer 0 (.captureOpened 4096) booth).captures[(0 : Port)] = some boothStream ∧
    (setTransfer 0 (.captureOpened 0) closingBooth).captures[(0 : Port)] = some { boothStream with closing := true } ∧
    (setTransfer 1 (.captureOpened 0) booth).captures[(1 : Port)] = none ∧
    streaming.ports[(0 : Port)].xfer = .capture 4096 3 0 none 0 ∧
    (setTransfer 1 (.capture 0 256 256 (some (0xFF, 0)) 256) booth).ports[(1 : Port)].xfer =
      .capture 0 256 256 (some (0xFF, 0)) 256 := by decide +kernel

/-- The rows of R29's table: A and B at the position 7 or not, after the first match too. -/
def rowStream (a b inc : Word32) : Stream := { boothStream with pos := 7, a := a, b := b, inc := inc }

theorem witness_CaptureSampleIsGated_rows :
    (fun st : Stream => st.a = st.pos ∧ st.b ≠ st.pos ∧ st.b + st.inc ≠ st.pos) (rowStream 7 9 1) ∧
    (fun st : Stream => st.a = st.pos ∧ st.inc = 0 ∧ st.b = st.pos) (rowStream 7 7 0) ∧
    (fun st : Stream => st.a = st.pos ∧ st.inc ≠ 0 ∧ st.b = st.pos) (rowStream 7 7 0xFFFFFFFF) ∧
    (fun st : Stream => st.a ≠ st.pos ∧ st.b = st.pos) (rowStream 6 7 1) ∧
    (fun st : Stream => st.a = st.pos ∧ st.inc ≠ 0 ∧ st.b + st.inc = st.pos) (rowStream 7 6 1) ∧
    (fun st : Stream => st.a ≠ st.pos ∧ st.b ≠ st.pos) (rowStream 6 8 0) := by decide

/-- Booth A in a CAPTURE transaction with `n` samples in its FIFO; the take and the stream at the last sample before
their limits. -/
def brimStream (n : Nat) : Stream :=
  { boothStream with gate := .opened, pos := 0xFFFFFFFF, fifo := List.replicate n 1, run := some 2, count := 4799 }
def brimming (n : Nat) : State :=
  setTransfer 0 (.capture 0 256 255 none 0) (setStream 0 (some (brimStream n))
    (modTake 2 (fun t => { t with length := 2 ^ 28 - 1 }) booth))

theorem witness_CaptureSampleIsGated :
    (∀ n, (brimming n).captures[(0 : Port)] = some (brimStream n)) ∧ (∀ n, (brimStream n).closing = false) ∧
    (∀ n, (brimming n).ports[(0 : Port)].xfer = .capture 0 256 255 none 0) ∧ 255 < 256 ∧
    (∀ n, (brimming n).takes[(2 : TakeId)] = some { boothTake with length := 2 ^ 28 - 1 }) ∧
    (List.replicate 4095 (1 : Sample)).length < 4096 ∧ 4096 ≤ (List.replicate 4096 (1 : Sample)).length ∧
    blockLength (titleRate (room true) 3) = 4799 + 1 ∧
    streaming.ports[(0 : Port)].xfer = .capture 4096 3 0 none 0 ∧ 0 < 3 ∧
    (setTransfer 0 (.capture 0 256 255 none 0) closingBooth).captures[(0 : Port)] = some { boothStream with closing := true } ∧
    (setTransfer 1 (.capture 0 256 255 none 0) booth).captures[(1 : Port)] = none ∧
    (setTransfer 1 (.capture 0 256 256 none 0) booth).ports[(1 : Port)].xfer = .capture 0 256 256 none 0 := by
  refine ⟨fun n => rfl, fun n => rfl, fun n => rfl, by decide, fun n => rfl,
    (List.length_replicate ..).trans_lt (by decide), (List.length_replicate ..).ge, by decide +kernel, rfl, by decide,
    by decide +kernel, by decide +kernel, by decide +kernel⟩

/-- A take and a stream at their limits, and a full live block. -/
def fullBooth : State := modTake 2 (fun t => { t with length := 2 ^ 28 }) booth
def limitStream : Stream := { boothStream with pos := 0xFFFFFFFF, atLimit := true, count := 4800, energy := 4800 }
def limitBooth : State := setStream 0 (some limitStream) booth
def drained : State := setTake 2 (some { boothTake with state := .closing, stopReason := some .requested }) closingBooth

theorem witness_CaptureStepsWhenDue :
    fullBooth.captures[(0 : Port)] = some boothStream ∧
    fullBooth.takes[(2 : TakeId)] = some { boothTake with length := 2 ^ 28 } ∧
    limitBooth.captures[(0 : Port)] = some limitStream ∧ limitBooth.takes[(2 : TakeId)] = some boothTake ∧
    blockLength (titleRate limitBooth 3) = 4800 ∧ limitStream.count = 4800 ∧
    drained.captures[(0 : Port)] = some { boothStream with closing := true } ∧
    drained.takes[(2 : TakeId)] = some { boothTake with state := .closing, stopReason := some .requested } ∧
    inStore (.stream 0) drained.store = false ∧ booth.captures[(0 : Port)] = some boothStream ∧
    booth.takes[(2 : TakeId)] = some boothTake ∧ booth.captures[(1 : Port)] = none ∧
    State.reset.store.array = .idle ∧ (room true).lanes[(0 : Lane)] = none := by decide +kernel

/-- The positions of a state: a Boolean form of R6's law. -/
def positionsRight (s : State) : Bool :=
  (List.finRange 8).all (fun t => s.titles[t].all fun r => decide (r.chapters.Nodup ∧ r.chapters.length ≤ 32)) &&
  (List.finRange 64).all (fun c => s.chapters[c].all fun r => s.titles[r.title].isSome && decide (1 ≤ r.position)) &&
  (List.finRange 8).all (fun t => (List.finRange 64).all fun c =>
    if c ∈ chapterList s t then s.chapters[c].any fun r => decide (r.title = t ∧ r.position = (chapterList s t).idxOf c + 1)
    else s.chapters[c].all fun r => decide (r.title ≠ t))

theorem positionLaw_of_right {s : State} (h : positionsRight s = true) : PositionLaw s := by
  simp only [positionsRight, Bool.and_eq_true, List.all_eq_true, List.mem_finRange, true_imp_iff] at h
  obtain ⟨⟨h1, h2⟩, h3⟩ := h
  refine ⟨fun t r hr => ?_, fun c r hr => ?_, fun t c k => ?_⟩
  · simpa [hr] using h1 t
  · have := h2 c
    simp only [Fin.getElem_fin] at hr
    simp [hr, Option.isSome_iff_ne_none] at this
    exact this
  · have hn : (chapterList s t).Nodup := by
      unfold chapterList
      split
      · rename_i r hr
        have := h1 t
        simp only [hr, Option.all_some, decide_eq_true_eq] at this
        exact this.1
      · exact List.nodup_nil
    have h := h3 t c
    constructor
    · intro hk
      have hm : c ∈ chapterList s t := List.mem_of_getElem? hk
      have hi : (chapterList s t).idxOf c = k := by
        obtain ⟨hlt, he⟩ := List.getElem?_eq_some_iff.mp hk
        rw [← he]; exact hn.idxOf_getElem k hlt
      simp only [hm, if_true, Option.any_eq_true, decide_eq_true_eq, hi] at h
      refine ⟨fun h0 => ?_, ?_⟩
      · unfold chapterList at hm; simp [h0] at hm
      · obtain ⟨r, a, b, d⟩ := h
        exact ⟨r, a, b, d⟩
    · rintro ⟨-, r, hr, ht, hp⟩
      by_cases hm : c ∈ chapterList s t
      · simp only [hm, if_true, hr, Option.any_some, decide_eq_true_eq] at h
        have : k = (chapterList s t).idxOf c := by omega
        subst this
        exact List.getElem?_idxOf hm
      · simp [hm, hr] at h
        exact absurd ht h

/-- The streams of a state: a Boolean form of R26's law. -/
def streamsRight (s : State) : Bool :=
  (List.finRange 4).all (fun p => s.captures[p].all fun st => s.takes[st.take].any fun t =>
    decide (t.port = some p ∧ t.state = if st.closing then .closing else .capturing)) &&
  (List.finRange 128).all (fun k => s.takes[k].all fun t => if t.state = .closed then t.port.isNone
    else (List.finRange 4).any fun p => s.captures[p].any fun st => decide (st.take = k))

theorem streamLaw_of_right {s : State} (h : streamsRight s = true) : StreamLaw s := by
  simp only [streamsRight, Bool.and_eq_true, List.all_eq_true, List.mem_finRange, true_imp_iff] at h
  refine ⟨fun p st hs => ?_, fun k t hk => ?_⟩
  · have := h.1 p
    simp only [hs, Option.all_some, Option.any_eq_true, decide_eq_true_eq] at this
    exact this
  · have := h.2 k
    simp only [hk, Option.all_some] at this
    split
    · rename_i hc; simpa [hc] using this
    · rename_i hc
      simp only [hc, if_false, List.any_eq_true, List.mem_finRange, true_and, Option.any_eq_true, decide_eq_true_eq] at this
      exact this

/-- The references of a state: a Boolean form of R9's law. -/
def referencesRight (s : State) : Bool :=
  (List.finRange 128).all (fun k => match s.takes[k] with
    | some t => decide (t.refs = ((List.finRange 64).filter (refersTo s k)).length ∧ (0 < t.refs → t.state = .closed))
    | none => (List.finRange 64).all fun c => !refersTo s k c) &&
  (List.finRange 64).all (fun c => s.chapters[c].all fun r =>
    !r.scriptCleared || decide (r.state = .published ∧ r.slots = Vector.replicate 32 Step.blank))

theorem referenceLaw_of_right {s : State} (h : referencesRight s = true) : ReferenceLaw s := by
  simp only [referencesRight, Bool.and_eq_true, List.all_eq_true, List.mem_finRange, true_imp_iff] at h
  refine ⟨fun k => ?_, fun c r hr hc => ?_⟩
  · have := h.1 k
    split
    · rename_i hk
      simp only [hk] at this
      exact of_decide_eq_true this
    · rename_i hk
      simpa [hk] using this
  · have := h.2 c
    simpa [hr, hc] using this

/-- Last night's desk, and a port reading ahead; a purge waits, its port IDLE. -/
def night : State :=
  { modPort 3 (fun ps => { ps with
      stream := .active ⟨.output 0, 330560, 0, [⟨0, 0, [1, 4]⟩, ⟨1, 3072, [9]⟩], none⟩ }) lastNight with
    pending := [.purge 3 []] }

theorem positionLaw_night : PositionLaw night := positionLaw_of_right (by decide +kernel)
theorem streamLaw_night : StreamLaw night := streamLaw_of_right (by decide +kernel)
theorem referenceLaw_night : ReferenceLaw night := referenceLaw_of_right (by decide +kernel)
theorem queueLaw_night : QueueLaw night := by
  unfold QueueLaw
  decide +kernel

theorem witness_PurgeClearsTheWorkingArea : Offered night 3 .purge [] ∧ PositionLaw night ∧ QueueLaw night := by
  refine ⟨?_, positionLaw_night, queueLaw_night⟩
  unfold Offered Takes
  decide +kernel

/-- Last night's desk with a stream on take 1, the pages of P0's capture and of lane 0 in the store. -/
def busyNight (op : ArrayOp) : State :=
  modStore (fun st => { st with
      array := op, buffers := #v[.loaded (.stream 0) 128 [] .posted, .programming (.lane 0) false 64 0 []] })
    (modPort 1 (fun ps => { ps with stream := .active ⟨.take 1, 3000, 0, [], none⟩ }) night)

theorem witness_PurgeClearsTheWorkingArea_sources :
    (∀ op ∈ [ArrayOp.erasing 77 (.builtIn (.stream 0)) false, .reading (.lane 0) false 5, .reading (.port 1) false 5],
      (busyNight op).store.array = op ∧ Offered (busyNight op) 3 .purge []) ∧
    (busyNight .idle).takes[(1 : TakeId)].isSome = true ∧
    (busyNight .idle).ports[(1 : Port)].stream = .active ⟨.take 1, 3000, 0, [], none⟩ ∧
    ((busyNight .idle).chapters[(0 : ChapterId)].map (·.state)) = some .published ∧
    (busyNight .idle).captures[(0 : Port)].isSome = true ∧ (busyNight .idle).lanes[(0 : Lane)].isSome = true := by
  unfold Offered Takes
  decide +kernel

/-- R85, R180: the stream on a freed take is DETACHED, the one on the PUBLISHED output stays. -/
theorem test_purge_streams : (fun s => (statusCode s.ports[(1 : Port)].stream, statusCode s.ports[(3 : Port)].stream))
    (purgeRecords (busyNight .idle)) = (2, 1) := by decide +kernel

/-- A lane's page read in progress; its job's page, and a page whose source has gone. -/
def laneReads : State := modStore (fun st => { st with array := .reading (.lane 0) false 1920 }) (rendering job)
def orphan (s : State) : State :=
  modStore (fun st => { st with array := .erasing 77 (.builtIn (.stream 2)) true }) s
def strayPage : State :=
  modStore (fun st => { st with
    array := .programming 0, buffers := st.buffers.set 0 (.programming (.stream 0) true 0 64 [7]) }) booth

theorem witness_ArrayOperationsComplete :
    desk.store.array = .erasing 9 .background false ∧ (nearlyFull 19).store.array = .reading (.port 0) true 0 ∧
    laneReads.store.array = .reading (.lane 0) false 1920 ∧
    job.read = some ⟨0, 0, 1920, false⟩ ∧ fetching.store.array = .reading (.port 3) false 1920 ∧
    fetching.ports[(3 : Port)].stream = .active ⟨.take 1, 3000, 1000, [], some ⟨0, 1920, true⟩⟩ ∧
    lastPage.store.array = .programming 0 ∧
    lastPage.store.buffers[(0 : Fin 2)] = .programming (.stream 0) false 0 64 [7] ∧
    strayPage.store.array = .programming 0 ∧
    strayPage.store.buffers[(0 : Fin 2)] = .programming (.stream 0) true 0 64 [7] ∧
    headerPage.store.array = .programming 1 ∧
    headerPage.store.buffers[(1 : Fin 2)] = .programming (.lane 0) false 0 128 [1] ∧
    (orphan desk).store.array = .erasing 77 (.builtIn (.stream 2)) true := by decide +kernel

theorem witness_ArrayOperationsComplete_lane : laneReads.lanes[(0 : Lane)] = some job := rfl

/-- The erases for P2's and for L1's allocation of the worked example. -/
def erasingFor (src : Source) : State :=
  modStore (fun st => { st with array := .erasing 100 (.builtIn src) false }) (nearlyFull 19)

theorem witness_ArrayOperationsComplete_builtIn :
    (erasingFor (.stream 2)).store.array = .erasing 100 (.builtIn (.stream 2)) false ∧
    (erasingFor (.stream 2)).captures[(2 : Port)] = some ⟨8, false, 0, false, .opened, 0, 0, 0, [], none, 0, 0, 0, 0⟩ ∧
    (erasingFor (.stream 2)).takes[(8 : TakeId)] =
      some ⟨3, .capturing, some 2, 131072, -30, false, false, none, 0, [], [50, 51], 0⟩ ∧
    (erasingFor (.lane 1)).store.array = .erasing 100 (.builtIn (.lane 1)) false ∧
    (erasingFor (.lane 1)).lanes[(1 : Lane)].isSome = true := by decide +kernel

/-- A lane that offers its full assembly page, with both buffers free and no stream offering; both buffers taken. -/
def laneOffer : State := rendering { job with phase := .encode, assembly := List.replicate 3072 1 }
def waitingFor (n : Nat) (src : Source) : State :=
  modStore (fun st => { st with erased := [3], dirty := List.replicate n 0, buffers := #v[.loaded src 128 [] .unposted, .free] })
    (nearlyFull 20)

theorem witness_LoadsAndPools :
    freeBuffer firstPage.store = some 0 ∧
    (cycleAfter firstPage.store.loadedStream).find? (streamOffers firstPage) = some 0 ∧ freeBuffer laneOffer.store = some 0 ∧
    (∀ p, streamOffers laneOffer p = false) ∧ (cycleAfter laneOffer.store.loadedLane).find? (laneOffers laneOffer) = some 0 ∧
    freeBuffer desk.store = some 0 ∧ (∀ p, streamOffers desk p = false) ∧ (∀ l, laneOffers desk l = false) ∧
    freeBuffer (nearlyFull 20).store = none ∧ (nearlyFull 20).store.erased = [] ∧
    (waitingFor 15 (.stream 2)).store.erased ≠ [] ∧
    (cycleAfter (waitingFor 15 (.stream 2)).store.last1).find?
      (fun p => waitsForBlock (.stream p) (waitingFor 15 (.stream 2)).store) = some 2 := by decide +kernel

theorem witness_LoadsAndPools_lane :
    (∀ n : Fin 2, (waitingFor (15 + n) (.lane 1)).store.erased = [3] ∧
      (∀ p, waitsForBlock (.stream p) (waitingFor (15 + n) (.lane 1)).store = false) ∧
      (cycleAfter (waitingFor (15 + n) (.lane 1)).store.last4).find?
        (fun l => waitsForBlock (.lane l) (waitingFor (15 + n) (.lane 1)).store) = some 1 ∧
      freeCount (waitingFor (15 + n) (.lane 1)).store = 16 + n) ∧
    booth.store.erased = [3, 4] ∧ booth.captures[(0 : Port)] = some boothStream ∧
    booth.takes[(2 : TakeId)] = some boothTake := by decide +kernel

/-- The fall of STORE_LOW: Booth A's allocation finds a free count of 65, and P0 subscribes. -/
def lowBooth : State := modStore (fun st => { st with dirty := List.range 62 }) booth

theorem witness_LoadsAndPools_low :
    lowBooth.store.erased = [3, 4] ∧ lowBooth.captures[(0 : Port)] = some boothStream ∧
    lowBooth.takes[(2 : TakeId)] = some boothTake ∧ freeCount lowBooth.store = 65 ∧
    lowBooth.ports[(0 : Port)].subs.getLsbD 1 = true := by decide +kernel

/-- The fall for a lane's allocation, and the lane's LOADED page. -/
theorem witness_LoadsAndPools_laneBlock : (waitingFor 64 (.lane 1)).store.erased = [3] ∧
    (waitingFor 64 (.lane 1)).lanes[(1 : Lane)].isSome = true ∧ freeCount (waitingFor 64 (.lane 1)).store = 65 ∧
    (waitingFor 64 (.lane 1)).ports[(0 : Port)].subs.getLsbD 1 = true ∧
    loadedBuffer (.lane 1) (waitingFor 64 (.lane 1)).store = some (0, .unposted) := by decide +kernel

/-- Booth A offers the page that ends at the take's length `n`, the pools as given. -/
def offering (n : Nat) (erased dirty : List Nat) : State :=
  modStore (fun st => { st with erased := erased, dirty := dirty })
    (modTake 2 (fun t => { t with length := n }) firstPage)

theorem witness_LoadsAndPools_stream :
    (∀ w ∈ [(1024, [3, 4], []), (2048, [], []), (65536, [3], []), (66560, [], []), (66560, [], [9])],
      (fun s : State => freeBuffer s.store = some 0 ∧ streamOffers s 0 = true ∧
        s.captures[(0 : Port)] = some { boothStream with fifo := List.replicate 1024 5 } ∧
        s.takes[(2 : TakeId)] = some { boothTake with length := w.1 } ∧ s.store.erased = w.2.1 ∧ s.store.dirty = w.2.2 ∧
        ∀ q, q ≠ 0 → allocating (.stream q) s.store = false) (offering w.1 w.2.1 w.2.2)) ∧
    (1024 - 1024) / 1024 % 64 = 0 ∧ (2048 - 1024) / 1024 % 64 ≠ 0 ∧ (65536 - 1024) / 1024 % 64 ≠ 0 ∧
    (66560 - 1024) / 1024 % 64 = 0 := by decide +kernel

/-- Lane 0 offers its full assembly page as page `n`, or, with its last page programmed, its header page. -/
def offeringJob (n : Nat) (blocks : List Nat) (last : Bool) : Job :=
  { job with phase := .encode, pageIndex := n, blocks := blocks, read := none
             assembly := if last then [] else List.replicate 3072 1
             finishing := if last then some ⟨[], 0, -200, -30, none, 5, 10⟩ else none }
def offeringLane (j : Job) (erased dirty : List Nat) : State :=
  modStore (fun st => { st with erased := erased, dirty := dirty, array := .idle }) (rendering j)

/-- What the state of such an offer is, whatever the job and the pools. -/
theorem offeringLane_facts (j : Job) (erased dirty : List Nat) :
    (offeringLane j erased dirty).lanes[(0 : Lane)] = some j ∧ (offeringLane j erased dirty).store.erased = erased ∧
    freeBuffer (offeringLane j erased dirty).store = some 0 ∧
    (∀ q, allocating (.stream q) (offeringLane j erased dirty).store = false) ∧
    (∀ k, allocating (.lane k) (offeringLane j erased dirty).store = false) ∧
    (laneOffers (offeringLane j erased dirty) 0 = (lanePage j).isSome) ∧
    freeCount (offeringLane j erased dirty).store = erased.length + dirty.length :=
  ⟨rfl, rfl, rfl, fun _ => rfl, fun _ => rfl, rfl, rfl⟩

/-- A middle page and a header page in a block the chain holds; page 1, a later block's first page and a lone header. -/
theorem witness_LoadsAndPools_output :
    (∀ w ∈ [([3], 15, 16), ([3], 16, 17), ([], 17, 17)], (fun s : State => laneOffers s 0 = true ∧ s.store.erased = w.1 ∧
      freeCount s.store = w.2.2) (offeringLane (offeringJob 1 [] false) w.1 (List.range w.2.1))) ∧
    (lanePage (offeringJob 2 [42] false)).map (·.1) = some 2 ∧ (lanePage (offeringJob 2 [42] true)).map (·.1) = some 0 ∧
    (lanePage (offeringJob 1 [] false)).map (·.1) = some 1 ∧ (lanePage (offeringJob 64 [42] false)).map (·.1) = some 64 ∧
    (lanePage (offeringJob 1 [] true)).map (·.1) = some 0 := by decide +kernel

/-- R82 at the fall, and one block later. -/
theorem test_storeLow : (takeErased (.stream 0) lowBooth).ports[(0 : Port)].notices = [⟨.storeLow, 0xFF, 0, 64⟩] ∧
    (takeErased (.stream 0) (takeErased (.stream 0) lowBooth)).ports[(0 : Port)].notices.length = 1 := by decide +kernel

/-- The array IDLE, the pools given, with a LOADED page of each source waiting for the arbiter. -/
def arbiterAt (erased dirty : List Nat) (x y : Buffer) : State :=
  modStore (fun st => { st with erased := erased, dirty := dirty, array := .idle, buffers := #v[x, y] })
    (modJob 1 (fun j => { j with read := none }) (nearlyFull 0))

/-- A lane's page read and a port's fetch that wait. -/
def readersWait : State :=
  modPort 3 (fun ps => { ps with stream := .active ⟨.take 1, 3000, 1000, [], some ⟨0, 1920, false⟩⟩ })
    (setLane 0 (some job) (arbiterAt (List.range 16) [70] .free .free))

theorem witness_ArbiterChoosesByTier :
    (∀ t ∈ [Target.placed, .posted], (fun s : State =>
      (cycleAfter s.store.last1).find? (fun p => hasRequest (.stream p) s.store) = some 2 ∧
      loadedBuffer (.stream 2) s.store = some (0, t)) (arbiterAt [] [] (.loaded (.stream 2) 128 [] t) .free)) ∧
    (arbiterAt [] [70, 71] (.loaded (.stream 2) 128 [] .posted) .free).store.dirty = [70, 71] ∧
    (∀ p, hasRequest (.stream p) (arbiterAt (List.range 15) [70] .free .free).store = false) ∧
    (arbiterAt (List.range 15) [70] .free .free).store.erased.length < 16 ∧
    (∀ p, hasRequest (.stream p) readersWait.store = false) ∧ 16 ≤ readersWait.store.erased.length ∧
    (cycleAfter readersWait.store.last3).find? (fun i => (readWaiting readersWait (readerAt i)).isSome) = some 0 ∧
    readWaiting readersWait (readerAt 0) = some 1920 ∧
    (∀ t ∈ [Target.placed, .posted], (fun s : State => (∀ p, hasRequest (.stream p) s.store = false) ∧
      (∀ i, readWaiting s (readerAt i) = none) ∧
      (cycleAfter s.store.last4).find? (fun l => hasRequest (.lane l) s.store) = some 1 ∧
      loadedBuffer (.lane 1) s.store = some (1, t)) (arbiterAt (List.range 16) [] .free (.loaded (.lane 1) 64 [] t))) ∧
    (∀ n : Fin 2, freeCount (arbiterAt [] (List.range (16 + n)) .free (.loaded (.lane 1) 64 [] .posted)).store = 16 + n) ∧
    (fun s : State => (∀ p, hasRequest (.stream p) s.store = false) ∧ (∀ l, hasRequest (.lane l) s.store = false) ∧
      (∀ i, readWaiting s (readerAt i) = none)) (arbiterAt (List.range 16) [70] .free .free) := by decide +kernel

theorem witness_ArbiterChoosesByTier_effects :
    (∀ src ∈ [Source.stream 2, .lane 1], (fun s : State => s.store.array = .idle ∧ s.store.sweep = false ∧
      freeCount s.store = 65 ∧ s.ports[(0 : Port)].subs.getLsbD 1 = true ∧ loadedBuffer src s.store = some (0, .posted))
        (arbiterAt [] (List.range 65) (.loaded src 128 [] .posted) .free)) ∧
    (modStore (fun st => { st with sweep := true }) (arbiterAt [] [70] .free .free)).store.dirty = [70] ∧
    (arbiterAt [] [70] .free .free).ports[(0 : Port)].subs.getLsbD 2 = true ∧
    readersWait.lanes[(0 : Lane)].isSome = true ∧ job.read = some ⟨0, 0, 1920, false⟩ ∧
    readersWait.ports[(3 : Port)].stream = .active ⟨.take 1, 3000, 1000, [], some ⟨0, 1920, false⟩⟩ := by decide +kernel

theorem witness_ArrayReadAfterWrite : (List.replicate 3072 (7 : Byte)).length = 3072 ∧
    (1 * 3072 - 1 < 1 * 3072 ∧ (1 + 1) * 3072 ≤ (1 + 1) * 3072) ∧ 63 < 64 ∧
    (1 * 196608 - 1 < 1 * 196608 ∧ (1 + 1) * 196608 ≤ 2 * 196608) :=
  ⟨List.length_replicate .., by decide⟩

theorem witness_RenderRequest :
    Offered (room true) 2 .render [63] ∧ (room true).chapters[(63 : ChapterId)] = none ∧
    (∀ st ∈ [ChapterState.ready, .rendered, .rejected, .assembling, .published],
      Offered (delivered st) 2 .render [0] ∧ (delivered st).chapters[(0 : ChapterId)] = some (finished st) ∧
      (delivered st).queue.length < 16) ∧
    Offered (setQueue [⟨0, 3, .set⟩] (book .queued)) 2 .render [0] ∧
    (book .queued).chapters[(0 : ChapterId)] = some (chapter0 .queued) ∧
    Offered (setQueue (queueOf 16) (book .ready)) 2 .render [0] ∧
    16 ≤ (setQueue (queueOf 16) (book .ready)).queue.length ∧ (queueOf 15).length < 16 ∧ Offered (rendering job) 2 .render [0] ∧
    (rendering job).chapters[(0 : ChapterId)] = some (chapter0 .rendering) ∧ laneOf (rendering job) 0 = some 0 := by
  unfold Offered Takes
  decide +kernel

/-- Chapters 0, 1, 2 and 3 READY. -/
def four : State :=
  [1, 2, 3].foldl (fun s c => setChapter c (some (chapter0 .ready)) s) (book .ready)

theorem witness_RenderSetRequest :
    Offered (book .ready) 3 .renderSet [64] ∧ Offered (book .ready) 3 .renderSet [0, 1, 2, 255] ∧
    ([0, 1, 2, 255] : List Byte)[3]? = some 255 ∧ 63 < (64 : Byte).toNat ∧
    Offered four 3 .renderSet [0, 1, 2, 3] ∧ Offered four 3 .renderSet [0, 1, 2, 0] ∧
    setCheck four [0, 1, 2] 0 = some .badParam ∧ Offered four 3 .renderSet [63] ∧ setCheck four [] 63 = some .noRecord ∧
    setCheck four [] 0 = none ∧ setCheck four [0] 1 = none ∧ setCheck four [0, 1] 2 = none ∧
    setCheck four [0, 1, 2] 3 = none ∧ four.queue.length + 4 ≤ 16 ∧
    Offered (setQueue ((queueOf 16).drop 3) four) 3 .renderSet [0, 1, 2, 3] ∧
    16 < (setQueue ((queueOf 16).drop 3) four).queue.length + 4 ∧ (setQueue (queueOf 12) four).queue.length + 4 ≤ 16 ∧
    (∀ st : ChapterState, (0 : ChapterId) ∉ [(1 : ChapterId)] ∧ (book st).chapters[(0 : ChapterId)] = some (chapter0 st)) := by
  unfold Offered Takes
  refine ⟨?_, ?_, ?_, ?_, ?_, ?_, ?_, ?_, ?_, ?_, ?_, ?_, ?_, ?_, ?_, ?_, ?_, fun st => ⟨by decide, rfl⟩⟩ <;> decide +kernel

def queuedBook : State := setQueue [⟨0, 3, .set⟩] (book .queued)
def clearedBook : State :=
  modChapter 0 (fun r => { r with slots := Vector.replicate 32 Step.blank, scriptCleared := true }) (delivered .published)

theorem queueLaw_queued : QueueLaw queuedBook := by
  unfold QueueLaw
  decide +kernel
theorem queueLaw_published : QueueLaw (delivered .published) := by
  unfold QueueLaw
  decide +kernel
theorem queueLaw_cleared : QueueLaw clearedBook := by
  unfold QueueLaw
  decide +kernel

theorem witness_RenderUnitRequests :
    Offered (room true) 0 .renderCancel [63] ∧ (room true).chapters[(63 : ChapterId)] = none ∧
    Offered (book .ready) 0 .renderCancel [0] ∧ (book .ready).chapters[(0 : ChapterId)] = some (chapter0 .ready) ∧
    Offered queuedBook 0 .renderCancel [0] ∧ queuedBook.chapters[(0 : ChapterId)] = some (chapter0 .queued) ∧
    Offered (rendering job) 0 .renderCancel [0] ∧ (rendering job).chapters[(0 : ChapterId)] = some (chapter0 .rendering) ∧
    (∀ k ∈ [ReqKind.publish, .collect], Offered (room true) 3 k [63] ∧ Offered (book .ready) 3 k [0]) ∧
    Offered (delivered .rendered) 3 .publish [0] ∧
    (delivered .rendered).chapters[(0 : ChapterId)] = some (finished .rendered) ∧ Offered (delivered .published) 3 .collect [0] ∧
    (delivered .published).chapters[(0 : ChapterId)] = some (finished .published) ∧ Offered clearedBook 3 .collect [0] ∧
    (clearedBook.chapters[(0 : ChapterId)].map fun r => (r.state, r.scriptCleared)) = some (.published, true) ∧
    Offered reader 3 .collect [0] ∧ reader.chapters[(0 : ChapterId)] = some (finished .published) ∧
    ownedOutput (finished .published) ≠ none ∧ activeSource reader.ports[(3 : Port)] = some (.output 0) := by
  unfold Offered Takes
  decide +kernel

theorem queueLaw_reader : QueueLaw reader := by
  unfold QueueLaw
  decide +kernel

/-- A lane with a job whose pages, erase and read are all in the store. -/
def busyLane (op : ArrayOp) (b : Buffer) : State :=
  modStore (fun st => { st with array := op, buffers := #v[b, .free] }) (rendering { job with blocks := [42, 43] })

theorem witness_JobStartsAbortsAndEnds :
    (room true).lanes[(0 : Lane)] = none ∧ queuedBook.queue = [⟨0, 3, .set⟩] ∧ queuedBook.lanes[(0 : Lane)] = none ∧
    (rendering job).lanes[(1 : Lane)] = none ∧ (∀ k : Lane, k < 1 → (rendering job).lanes[k] ≠ none) ∧
    (∀ l : Lane, (setLane 1 (some job) (rendering job)).lanes[l] ≠ none) ∧
    (book .rendering).chapters[(0 : ChapterId)] = some (chapter0 .rendering) ∧
    (book .rendering).titles[(3 : TitleNo)] = some ⟨3, 0, false, [0], 2⟩ ∧ (chapter0 .rendering).assembled = some 650080 ∧
    650080 ≤ (book .rendering).profiles[(0 : ProfileNo)].maxLen * blockLength 3 ∧
    (setProfile 0 { Profile.default with maxLen := 135 } (book .rendering)).profiles[(0 : ProfileNo)].maxLen * blockLength 3 <
      650080 ∧
    (busyLane .idle (.loaded (.lane 0) 64 [] .posted)).store.buffers[(0 : Fin 2)] = .loaded (.lane 0) 64 [] .posted ∧
    (busyLane (.programming 0) (.programming (.lane 0) false 5 70 [1])).store.buffers[(0 : Fin 2)] =
      .programming (.lane 0) false 5 70 [1] ∧
    (busyLane (.erasing 9 (.builtIn (.lane 0)) false) .free).store.array = .erasing 9 (.builtIn (.lane 0)) false ∧
    (busyLane (.reading (.lane 0) false 5) .free).store.array = .reading (.lane 0) false 5 ∧
    (busyLane .idle .free).lanes[(0 : Lane)].isSome = true ∧ (headerPage.lanes[(0 : Lane)].bind (·.finishing)).isSome = true ∧
    headerPage.chapters[(0 : ChapterId)] = some (chapter0 .rendering) := by decide +kernel

/-- R168, the header of an output: its version, rate code, m, title, position, profile and F. -/
theorem test_headerBytes : (headerBytes job ⟨[], 0xCBF43926, -201, -76, none, 5, 11⟩).take 8 = [1, 3, 4, 3, 1, 0, 0xC0, 0x03] ∧
    (headerBytes job ⟨[], 0xCBF43926, -201, -76, none, 5, 11⟩).drop 28 = [0x26, 0x39, 0xF4, 0xCB] := by decide +kernel

/-- A pass at its end: silent, and with one block above the gate. -/
def silentJob : Job := { job with done := 650080 }
def loudJob : Job := { silentJob with input := { Meter.clear with hist := histAdd Meter.clear.hist 8000000, peak := 3000000 } }

theorem lane_rendering (j : Job) : (rendering j).lanes[(0 : Lane)] = some j := rfl

theorem witness_MeasurePass :
    (∀ j, (rendering j).lanes[(0 : Lane)] = some j) ∧ job.phase = .measure ∧ job.done < job.total ∧
    nextSample (rendering job) job = none ∧ nextSample (rendering measuring) measuring = some 0x010101 ∧
    measuring.done + 1 < measuring.total ∧
    nextSample (rendering { measuring with total := 1 }) { measuring with total := 1 } = some 0x010101 ∧
    silentJob.phase = .measure ∧ silentJob.total ≤ silentJob.done ∧
    gated silentJob.profile.ga silentJob.profile.roff silentJob.input.hist = none ∧ loudJob.phase = .measure ∧
    gated loudJob.profile.ga loudJob.profile.roff loudJob.input.hist = some (-213) := by
  refine ⟨lane_rendering, ?_⟩
  decide +kernel

theorem loudJob_bin : loudJob.input.hist[(687 : Fin 961)].count = 1 := by decide +kernel

/-- A histogram with a block at or above Ga, in the bin of code −213. -/
theorem witness_MeasurePass_gates :
    (((List.finRange 961).filter fun i => -700 ≤ (i.val : Int) - 900).map fun i => loudJob.input.hist[i].count).sum ≠ 0 := by
  intro h
  have hx := List.sum_eq_zero_iff_forall_eq_nat.mp h _ (List.mem_map_of_mem (a := (687 : Fin 961))
    (List.mem_filter.mpr ⟨List.mem_finRange _, by decide⟩))
  rw [loudJob_bin] at hx
  cases hx

/-- A job that has a whole frame in hand; a pass whose last frame is coded, not kept and kept. -/
def frameJob : Job := { job with phase := .encode, inHand := List.replicate 960 5 }
def endJob (keep : Bool) : Job :=
  { job with phase := .encode, chain := { Chain.start with framesDone := 678 }, profile := { job.profile with keep := keep } }
def blockJob (ph : Phase) : Job :=
  { job with phase := ph, input := { Meter.clear with energy := 9, count := 4800 },
             output := { Meter.clear with energy := 9, count := 4800 } }

theorem witness_MeterBlockAndEncodePass :
    (∀ j, (rendering j).lanes[(0 : Lane)] = some j) ∧ (∀ ph, (blockJob ph).phase = ph) ∧ blockLength job.rate = 4800 ∧
    (blockJob .measure).input.count = 4800 ∧ (blockJob .encode).output.count = 4800 ∧ frameJob.phase = .encode ∧
    frameJob.finishing.isNone = true ∧ frameJob.waiting = [] ∧ frameJob.assembly.length < 3072 ∧
    frameJob.chain.framesDone < frameCount frameJob.total (frameLength frameJob.rate) ∧
    frameJob.inHand.length = frameSize frameJob.total (frameLength frameJob.rate) frameJob.chain.framesDone ∧
    (∀ k : Bool, (endJob k).phase = .encode ∧ (endJob k).finishing.isNone = true ∧ (endJob k).waiting = [] ∧
      frameCount (endJob k).total (frameLength (endJob k).rate) ≤ (endJob k).chain.framesDone ∧
      (outcomeOf (endJob k)).reasons ≠ [] ∧ (endJob k).profile.keep = k) := by
  refine ⟨lane_rendering, fun _ => rfl, ?_⟩
  decide +kernel

theorem witness_MeterBlockAndEncodePass_outcome :
    (gated job.profile.ga job.profile.roff { job with output := loudJob.input }.output.hist).isSome = true ∧
    gated job.profile.ga job.profile.roff (endJob true).output.hist = none := by decide +kernel

theorem witness_ProfileRequests :
    Offered desk 0 .profileSet (List.replicate 24 0) ∧ Offered desk 0 .profileSet (4 :: List.replicate 24 0) ∧
    3 < paramAt (4 :: List.replicate 24 0) 0 ∧ (List.replicate 24 (0 : Byte)).length ≠ 25 ∧
    Offered desk 0 .profileSet (3 :: List.replicate 24 0xFF) ∧ (3 :: List.replicate 24 (0xFF : Byte)).length = 25 ∧
    paramAt (3 :: List.replicate 24 0xFF) 0 = (3 : ProfileNo).val := by
  unfold Offered Takes
  decide +kernel

theorem witness_ProfileRequests_get :
    Offered desk 0 .profileGet [] ∧ Offered desk 0 .profileGet [4] ∧ 3 < paramAt [4] 0 ∧
    (∀ n : ProfileNo, Offered desk 0 .profileGet (u8 n.val)) := by
  unfold Offered Takes
  decide +kernel

theorem witness_StreamOpenAndClose :
    Offered desk 3 .streamOpen (u8 0 ++ u8 63 ++ u32 0) ∧ desk.chapters[(63 : ChapterId)] = none ∧
    Offered (book .ready) 3 .streamOpen (u8 0 ++ u8 0 ++ u32 0) ∧ ownedOutput (chapter0 .ready) = none ∧
    (∀ st ∈ [ChapterState.rendered, .published, .rejected], (∀ o ∈ [330559, 330560], Offered (delivered st) 3 .streamOpen
      (u8 0 ++ u8 0 ++ u32 o)) ∧ (delivered st).chapters[(0 : ChapterId)] = some (finished st) ∧
        ownedOutput (finished st) = some ⟨330560, 688, 0xCBF43926, [40, 41]⟩) ∧
    Offered desk 3 .streamOpen (u8 1 ++ u8 127 ++ u32 0) ∧ desk.takes[(127 : TakeId)] = none ∧
    Offered booth 3 .streamOpen (u8 1 ++ u8 2 ++ u32 0) ∧ booth.takes[(2 : TakeId)] = some boothTake ∧
    (∀ o ∈ [599999, 600000, 4294967295], Offered (room true) 3 .streamOpen (u8 1 ++ u8 1 ++ u32 o)) ∧
    (room true).takes[(1 : TakeId)] = some pickup ∧
    Offered desk 3 .streamOpen ([2, 0] ++ u32 0) ∧ Offered desk 3 .streamOpen ([0, 64] ++ u32 0) ∧
    Offered desk 3 .streamOpen ([1, 128] ++ u32 0) := by
  unfold Offered Takes
  decide +kernel

theorem witness_StreamOpenAndClose_close :
    Offered reader 3 .streamClose [0] ∧ Offered reader 3 .streamClose [] ∧ (∀ slot, reader.store.array ≠ .reading (.port 3) false slot) ∧
    Offered readerFetching 3 .streamClose [] ∧ readerFetching.store.array = .reading (.port 3) false 1920 := by
  have h : reader.store.array = .erasing 9 .background false := by decide +kernel
  refine ⟨?_, ?_, ?_, ?_, rfl⟩
  case refine_3 =>
    intro slot hr
    rw [h] at hr
    cases hr
  all_goals
    unfold Offered Takes
    decide +kernel

/-- P3's data transaction begun, and the same after the stream has changed. -/
def reading : State := after (.streamData 3) reader
def unlinked : State := setTransfer 3 (.streamData [9, 1, 4] false) reader

theorem witness_StreamDataTransaction :
    (ended 3 reader).ports[(3 : Port)].stream =
      .active ⟨.output 0, 330560, 330559, [⟨107, 330559, [9]⟩, ⟨0, 0, [1, 4]⟩], none⟩ ∧
    (ended 0 desk).ports[(0 : Port)].stream = .idle ∧
    (ended 0 (modPort 0 (fun ps => { ps with stream := .detached }) desk)).ports[(0 : Port)].stream = .detached ∧
    (setTransfer 0 (.streamData [] true) desk).ports[(0 : Port)].xfer = .streamData [] true ∧
    unlinked.ports[(3 : Port)].xfer = .streamData [9, 1, 4] false ∧
    reading.ports[(3 : Port)].xfer = .streamData [9, 1, 4] true ∧
    reading.ports[(3 : Port)].stream =
      .active ⟨.output 0, 330560, 330559, [⟨107, 330559, [9]⟩, ⟨0, 0, [1, 4]⟩], none⟩ := by decide +kernel

theorem witness_DeviceInfoAndSubscribe :
    Offered desk 3 .deviceInfo [0] ∧ Offered desk 3 .deviceInfo [] ∧ Offered desk 0 .subscribe [] ∧ Offered desk 0 .subscribe [8] ∧
    7 < paramAt [8] 0 ∧ (∀ v : Fin 8, Offered desk 0 .subscribe (u8 v.val)) := by
  unfold Offered Takes
  decide +kernel

theorem witness_DroppedRequestNotice :
    (∀ s ∈ [missed, desk], (setTransfer 2 .request s).ports[(2 : Port)].xfer = .request) ∧
    (setTransfer 2 .request missed).ports[(2 : Port)].exec ≠ .idle ∧
    (setTransfer 2 .request desk).ports[(2 : Port)].exec = .idle ∧
    ([] : List Byte).length < 2 ∧ [0x25, 4, 0, 0, (0 : Byte)].length < 2 + paramAt [0x25, 4, 0, 0, 0] 1 := by decide +kernel

theorem witness_RequestAndFetch :
    (setTransfer 0 .request desk).ports[(0 : Port)].xfer = .request ∧
    (setTransfer 0 .request desk).ports[(0 : Port)].exec = .idle ∧ (List.replicate 61 (0 : Byte)).length = (61 : Byte).toNat ∧
    60 < (61 : Byte).toNat ∧ (60 : Byte).toNat ≤ 60 ∧ (∀ k, kindCode k ≠ 0xFF) ∧ kindCode .renderSet = 0x41 ∧
    (∀ r, (ended 0 desk).ports[(0 : Port)].exec ≠ .answered r) ∧
    (ended 2 missed).ports[(2 : Port)].exec = .answered ⟨0x22, .accepted, [0, 2, 0, 0, 0, 0]⟩ ∧
    (setTransfer 0 (.fetch none) desk).ports[(0 : Port)].xfer = .fetch none ∧
    (fun s : State => s.ports[(2 : Port)].xfer = .fetch (some ⟨0x22, .accepted, [0, 2, 0, 0, 0, 0]⟩) ∧
      s.ports[(2 : Port)].exec = .answered ⟨0x22, .accepted, [0, 2, 0, 0, 0, 0]⟩)
        (setTransfer 2 (.fetch (some ⟨0x22, .accepted, [0, 2, 0, 0, 0, 0]⟩)) missed) ∧
    3 + [(0 : Byte), 2, 0, 0, 0, 0].length ≤ 9 ∧ 8 < 3 + [(0 : Byte), 2, 0, 0, 0, 0].length := by
  have h : (ended 0 desk).ports[(0 : Port)].exec = .idle := by decide +kernel
  refine ⟨by decide +kernel, by decide +kernel, by decide, by decide, by decide, fun k => by cases k <;> decide, rfl, ?_,
    by decide +kernel, by decide +kernel, by decide +kernel, by decide, by decide⟩
  intro r hr
  rw [h] at hr
  cases hr

theorem witness_NoticesAndAttention :
    (setTransfer 2 (.notices (some ⟨.chapterState, 0, 1, 0⟩)) missed).ports[(2 : Port)].xfer =
      .notices (some ⟨.chapterState, 0, 1, 0⟩) ∧
    (setTransfer 0 (.notices none) desk).ports[(0 : Port)].xfer = .notices none ∧
    (setTransfer 2 (.attention [7, 7, 7, 0]) missed).ports[(2 : Port)].xfer = .attention [7, 7, 7, 0] ∧ 1 < 2 ∧ 2 ≤ 2 := by
  decide +kernel

theorem witness_PortResetRestoresThePort :
    StreamLaw night ∧ (ended 0 night).captures[(0 : Port)] = some ⟨2, false, 70000, false, .opened, 0, 0, 0, [1], none, 0, 0, 0, 0⟩ ∧
    portOwned .subscribe = true ∧ (ended 0 (waiting 0 .subscribe [7] false)).ports[(0 : Port)].exec =
      .executing .subscribe [7] false ∧ (∀ slot, night.store.array ≠ .reading (.port 0) false slot) ∧
    readerFetching.store.array = .reading (.port 3) false 1920 ∧ 0 < 1 := by
  have h : night.store.array = .erasing 9 .background false := by decide +kernel
  refine ⟨streamLaw_night, by decide +kernel, by decide, by decide +kernel, fun slot hr => ?_, by decide +kernel, by decide⟩
  rw [h] at hr
  cases hr

theorem witness_TransactionsBegin :
    desk.ports[(0 : Port)].xfer = .none ∧ (setTransfer 1 .request desk).ports[(1 : Port)].xfer = .request ∧
    (setTransfer 1 (.capture 0 256 255 (some (0xFF, 0)) 255) desk).ports[(1 : Port)].xfer =
      .capture 0 256 255 (some (0xFF, 0)) 255 ∧ streaming.ports[(0 : Port)].xfer = .capture 4096 3 0 none 0 ∧ LevelLaw desk ∧
    (∀ k ∈ [(0xA1 : Byte), 0xA2, 0xA4, 0xA5, 0xA6],
      (setTransfer 1 (.abandoned k) desk).ports[(1 : Port)].xfer = .abandoned k) := by
  unfold LevelLaw
  decide +kernel

/-- A command that is none of those a statement excepts, and what it answers. -/
theorem witness_OnlyTheirOwnCommandsChange :
    (∃ t, exec (.levels 0 []) desk = .next t) ∧ (∀ p ps, Instr.levels 0 [] ≠ .profileSet p ps) ∧
    Instr.levels 0 [] ≠ .deviceReset ∧ Instr.levels 0 [] ≠ .noticeRecordSent 0 ∧
    (∀ n, Instr.levels 0 [] ≠ .portReset 0 n) ∧ (∃ t, exec (.noticeRecordSent 1) desk = .next t) ∧
    Instr.noticeRecordSent 1 ≠ .noticeRecordSent 0 :=
  ⟨⟨_, rfl⟩, nofun, nofun, nofun, nofun, ⟨_, rfl⟩, by decide⟩

/-- A command answers a next state, as a check. -/
def runs (i : Instr) (s : State) : Bool :=
  match exec i s with
  | .next _ => true
  | _ => false

theorem exists_of_runs {i : Instr} {s : State} (h : runs i s = true) : ∃ t, exec i s = .next t := by
  unfold runs at h
  split at h
  · exact ⟨_, ‹_›⟩
  · cases h

theorem witness_EventFrames :
    NotHeld night 0 ∧ (∃ t, exec .pageLoad firstPage = .next t) ∧ (∃ t, exec (.measureSample 0) (rendering measuring) = .next t) ∧
    requestRow (.takeRetire 0 [1]) = some (0, .takeRetire, [1], retireTake [1]) ∧
    (∃ t, exec (.takeRetire 0 [1]) (room true) = .next t) := by
  refine ⟨?_, exists_of_runs (by decide +kernel), exists_of_runs (by decide +kernel), rfl, ⟨_, rfl⟩⟩
  unfold NotHeld
  decide +kernel

/-! One state that has every law, with a purge at the front of its queue: the hypotheses of the laws' steps. -/

theorem step_night : ∃ t, step night = .next t := ⟨_, rfl⟩

theorem witness_StepKeepsQueueLaw : QueueLaw night ∧ ∃ t, step night = .next t := ⟨queueLaw_night, step_night⟩

theorem witness_StepKeepsPortLevelAndSegmentLaws : PortLaw night ∧ LevelLaw (attend night night) ∧ SegmentLaw night ∧
    (∃ t, step night = .next t) ∧ ∃ t, step (attend night night) = .next t := by
  refine ⟨?_, ?_, fun p a h => ?_, step_night, ⟨_, rfl⟩⟩
  · unfold PortLaw
    decide +kernel
  · unfold LevelLaw
    decide +kernel
  · have hs : ∀ q : Port, (match night.ports[q].stream with
        | .active b => decide (b.segments.length ≤ 2 ∧ (b.segments.length = 2 → b.fetch = none))
        | _ => true) = true := by decide +kernel
    have := hs p
    rw [h] at this
    exact of_decide_eq_true this

theorem witness_StepKeepsStreamLaw : StreamLaw night ∧ ∃ t, step night = .next t := ⟨streamLaw_night, step_night⟩

theorem witness_StepKeepsMarksAndFifoLaws : MarksLaw night ∧ FifoLaw night ∧ ∃ t, step night = .next t := by
  refine ⟨fun k t h => ?_, fun p st h => ?_, step_night⟩
  · have hk : ∀ k : TakeId, night.takes[k].all (fun t => decide (t.marks.length ≤ Config.markPlaces ∧
      (t.marks.map (·.index)).Pairwise (· ≤ ·) ∧ ∀ m ∈ t.marks, m.index ≤ t.length)) = true := by decide +kernel
    exact of_check (hk k) t h
  · have hp : ∀ p : Port, night.captures[p].all (fun st => decide (st.fifo.length ≤ Config.fifoPlaces)) = true := by
      decide +kernel
    exact of_check (hp p) st h

theorem witness_StepKeepsProfilesAndMemoryLaws : ProfilesLaw night ∧
    MemoryLaw (modStore (fun st => { st with mem := programPage [] 5 [7, 0, 9] }) night) ∧
    (∃ t, step night = .next t) ∧
    ∃ t, step (modStore (fun st => { st with mem := programPage [] 5 [7, 0, 9] }) night) = .next t := by
  refine ⟨?_, ?_, step_night, ⟨_, rfl⟩⟩
  · unfold ProfilesLaw ProfileInRange
    decide +kernel
  · unfold MemoryLaw
    decide +kernel

theorem witness_StepKeepsClaimAndCursorLaws : QueueLaw night ∧ ClaimLaw night ∧ CursorLaw night ∧
    ∃ t, step night = .next t := by
  refine ⟨queueLaw_night, fun c r h => ?_, fun c r h => ?_, step_night⟩
  · have hc : ∀ c : ChapterId, night.chapters[c].all (fun r => decide (r.editor ≠ none → r.state = .assembling)) = true := by
      decide +kernel
    exact of_check (hc c) r h
  · have hc : ∀ c : ChapterId, night.chapters[c].all (fun r => decide (r.cursor ≤ 32)) = true := by decide +kernel
    exact of_check (hc c) r h

theorem witness_StepKeepsPositionLaw : PositionLaw night ∧ ∃ t, step night = .next t := ⟨positionLaw_night, step_night⟩

/-- A part at work that has the laws of blocks, pages, lengths and presence: two takes, a PUBLISHED chapter with output, a
job with one block and its page waiting for the arbiter, an ERASED block, and the rest DIRTY. -/
def shelf : State :=
  { State.reset with
    titles := State.reset.titles.set 3 (some ⟨3, 0, true, [0, 1], 3⟩)
    takes := ((State.reset.takes.set 0 (some { narration with chain := [0, 1], refs := 2 })).set 1
      (some { pickup with chain := [2], refs := 2 })).set 2
        (some ⟨3, .capturing, some 0, 70000, -30, false, false, none, 0, [], [3, 4], 0⟩)
    captures := State.reset.captures.set 0 (some ⟨2, false, 70000, false, .opened, 0, 0, 0, [1], none, 0, 0, 0, 0⟩)
    chapters := (State.reset.chapters.set 0 (some { chapter0 .published with
        result := some { passed with output := some ⟨330560, 688, 0xCBF43926, [5, 6]⟩ } })).set 1
      (some { chapter0 .rendering with position := 2 })
    lanes := State.reset.lanes.set 0 (some { job with chapter := 1, blocks := [7] })
    store := { Store.reset with
      erased := [8], dirty := (List.range 16384).drop 10, array := .erasing 9 .background false, sweep := false
      buffers := #v[.loaded (.lane 0) 2 [1] .placed, .programming (.stream 0) false 5 70 [1]] }
    pending := [.purge 3 []] }

theorem queueLaw_shelf : QueueLaw shelf := by
  unfold QueueLaw
  decide +kernel
theorem streamLaw_shelf : StreamLaw shelf := streamLaw_of_right (by decide +kernel)
theorem positionLaw_shelf : PositionLaw shelf := positionLaw_of_right (by decide +kernel)

theorem blockLaw_shelf : BlockLaw shelf := by
  have ht : (List.finRange 128).flatMap (takeChain shelf) = [0, 1, 2, 3, 4] := by decide +kernel
  have hc : (List.finRange 64).flatMap (ownedChain shelf) = [5, 6] := by decide +kernel
  have hl : (List.finRange 2).flatMap (laneChain shelf) = [7] := by decide +kernel
  have he : shelf.store.erased = [8] := rfl
  have hd : shelf.store.dirty = (List.range 16384).drop 10 := by simp only [shelf]
  have ha : erasingBlock shelf.store.array = [9] := rfl
  have h10 : (List.range 16384).take 10 = [0, 1, 2, 3, 4, 5, 6, 7, 8, 9] := by
    rw [List.take_range]
    rfl
  unfold BlockLaw placedBlocks
  rw [ht, hc, hl, he, hd, ha]
  conv => rhs; rw [← List.take_append_drop 10 (List.range 16384), h10]
  generalize (List.range 16384).drop 10 = rest
  simp only [List.append_assoc]
  exact (List.perm_append_comm_assoc [8] rest _).trans
    ((List.Perm.append_left rest (by decide)).trans List.perm_append_comm)

theorem presenceLaw_shelf : PresenceLaw shelf := by
  intro c r h
  have hc : ∀ c : ChapterId, shelf.chapters[c].all (fun r => decide ((r.assembled = none ↔ r.state = .assembling) ∧
    (r.result ≠ none ↔ r.state = .rendered ∨ r.state = .rejected ∨ r.state = .published) ∧
    (r.state = .rendered ∨ r.state = .published → ownedOutput r ≠ none))) = true := by decide +kernel
  exact of_check (hc c) r h

theorem lengthLaw_shelf : LengthLaw shelf := by
  refine ⟨fun k t h => ?_, fun c r h n hn => ?_⟩
  · have hk : ∀ k : TakeId, shelf.takes[k].all (fun t => decide (t.length ≤ 2 ^ 28 ∧
      (t.state = .capturing → t.length < 2 ^ 28))) = true := by decide +kernel
    exact of_check (hk k) t h
  · have hc : ∀ c : ChapterId, shelf.chapters[c].all (fun r => r.assembled.all fun n =>
      decide (blockLength (titleRate shelf r.title) ≤ n ∧ n ≤ 2 ^ 28)) = true := by decide +kernel
    have := hc c
    simp only [h, hn, Option.all_some, decide_eq_true_eq] at this
    exact this

theorem pageLaw_shelf : PageLaw shelf := by
  have h0 : shelf.store.buffers[(0 : Fin 2)] = .loaded (.lane 0) 2 [1] .placed := rfl
  have h1 : shelf.store.buffers[(1 : Fin 2)] = .programming (.stream 0) false 5 70 [1] := rfl
  have ha : shelf.store.array = .erasing 9 .background false := rfl
  refine ⟨fun i src h => ?_, fun _ => by rw [h0, h1]; decide, fun src => ?_⟩
  · match i with
    | 0 =>
      rw [h0] at h
      cases h
      show shelf.lanes[(0 : Lane)] ≠ none
      decide +kernel
    | 1 =>
      rw [h1] at h
      cases h
      show shelf.captures[(0 : Port)] ≠ none
      decide +kernel
  · rw [ha]
    constructor
    · rintro ⟨b, hb⟩
      cases hb
    · rintro ⟨i, page, bytes, hb⟩
      match i with
      | 0 =>
        rw [h0] at hb
        cases hb
      | 1 =>
        rw [h1] at hb
        cases hb

theorem witness_StepKeepsBlockAndPageLaws :
    QueueLaw shelf ∧ StreamLaw shelf ∧ PresenceLaw shelf ∧ PageLaw shelf ∧ BlockLaw shelf ∧ ∃ t, step shelf = .next t :=
  ⟨queueLaw_shelf, streamLaw_shelf, presenceLaw_shelf, pageLaw_shelf, blockLaw_shelf, _, rfl⟩

theorem witness_StepKeepsLengthAndPresenceLaws :
    QueueLaw shelf ∧ StreamLaw shelf ∧ PositionLaw shelf ∧ LengthLaw shelf ∧ PresenceLaw shelf ∧ ∃ t, step shelf = .next t :=
  ⟨queueLaw_shelf, streamLaw_shelf, positionLaw_shelf, lengthLaw_shelf, presenceLaw_shelf, _, rfl⟩

theorem witness_StepKeepsReferenceLaw : QueueLaw night ∧ StreamLaw night ∧ ReferenceLaw night ∧ ∃ t, step night = .next t :=
  ⟨queueLaw_night, streamLaw_night, referenceLaw_night, step_night⟩

theorem witness_PublishedChapterIsLocked :
    QueueLaw night ∧ (∃ r, night.chapters[(0 : ChapterId)] = some r ∧ r.state = .published) ∧
    (∃ t, exec (.purge 3 []) night = .next t) ∧
    (∀ p ps, Instr.purge 3 [] = .collect p ps → chapterAt ps 0 ≠ some 0) ∧ Instr.purge 3 [] ≠ .deviceReset ∧
    (∃ t, exec (.collect 3 [1]) night = .next t) ∧
    (∀ p ps, Instr.collect 3 [1] = .collect p ps → chapterAt ps 0 ≠ some 0) := by
  refine ⟨queueLaw_night, ⟨finished .published, by decide +kernel, rfl⟩, ⟨_, rfl⟩, nofun, nofun, ⟨_, rfl⟩, fun p ps h => ?_⟩
  injection h with h1 h2
  subst h2
  decide

/-! The arithmetic: values at the boundaries. -/

theorem witness_TablesFollowTheirFormulas :
    ⌈(2 : ℝ) ^ 30 * 10 ^ (-(9 : ℝ))⌉₊ ≤ 2 ∧ 1 < ⌈(2 : ℝ) ^ 30 * 10 ^ (-(9 : ℝ))⌉₊ ∧ loudnessCode 2 < 60 ∧
    ⌈(2 : ℝ) ^ 23 * 10 ^ (-(9 : ℝ) / 2)⌉₊ ≤ 2 ^ 23 ∧ 0 < ⌈(2 : ℝ) ^ 23 * 10 ^ (-(9 : ℝ) / 2)⌉₊ ∧ amplitudeCode 0 < 0 ∧
    ((-240 : Int) ≤ -240 ∧ (240 : Int) ≤ 240) ∧ (240 : Nat) ≤ 240 ∧
    (∀ c ∈ [(-120 : Int), -10], -120 ≤ { Profile.default with ceiling := c }.ceiling ∧
      { Profile.default with ceiling := c }.ceiling ≤ -10) := by
  have e : (2 : ℝ) ^ 30 * 10 ^ (-(9 : ℝ)) = 1.073741824 := by
    rw [Real.rpow_neg (by norm_num), show (9 : ℝ) = ((9 : ℕ) : ℝ) by norm_num, Real.rpow_natCast]
    norm_num
  have hp : (0 : ℝ) < 2 ^ 23 * 10 ^ (-(9 : ℝ) / 2) := by positivity
  refine ⟨?_, ?_, by decide +kernel, ?_, Nat.ceil_pos.mpr hp, by decide +kernel, by decide, le_refl _, by decide⟩
  · rw [e, Nat.ceil_le]
    norm_num
  · rw [e, Nat.lt_ceil]
    norm_num
  · rw [Nat.ceil_le]
    have : (10 : ℝ) ^ (-(9 : ℝ) / 2) ≤ 1 := Real.rpow_le_one_of_one_le_of_nonpos (by norm_num) (by norm_num)
    push_cast
    nlinarith

theorem witness_MeterCountsItsBlocks : 0 < 1 ∧ 0 < 9600 := by decide

/-- 07, an attack frame: the least reduction is 4 with LB 4 and above, and none up to LB 3 suffices. -/
theorem witness_LimiterCoderAndCeiling :
    5938680 ≤ 5938680 ∧ 5938680 < 6200000 ∧ (∃ k, 1 ≤ k ∧ k ≤ 4 ∧ scaled 6200000 (reductionEntry k) ≤ 5938680) ∧
    (∀ k, 1 ≤ k → k ≤ 3 → 5938680 < scaled 6200000 (reductionEntry k)) ∧ Chain.start.rPrev ≤ Profile.default.lb ∧
    3 ≤ 3 ∧ 16777215 < 2 ^ 24 ∧ (∃ ch rs bytes, codeFrame Profile.default 0 4 960 Chain.start [300, 650, 620, -100] = (ch, rs, bytes)) ∧
    [300, 650, 620, (-100 : Sample)] ≠ [] := by
  refine ⟨le_refl _, by norm_num, ⟨4, by decide, by decide, by decide +kernel⟩, fun k h1 h2 => ?_, by decide, by decide,
    by norm_num, ⟨_, _, _, rfl⟩, by decide⟩
  interval_cases k <;> decide +kernel

theorem gainEntry_zero : gainEntry 0 = 16384 := by decide +kernel

theorem witness_LimiterCoderAndCeiling_frame :
    (∀ y ∈ [300, 650, 620, (-100 : Sample)].map (fun x => (x * (gainEntry 0 : Int) + 2 ^ 13) / 2 ^ 14), y.natAbs ≤ 650) ∧
    (∃ y ∈ [300, 650, 620, (-100 : Sample)].map (fun x => (x * (gainEntry 0 : Int) + 2 ^ 13) / 2 ^ 14), 650 = y.natAbs) := by
  rw [gainEntry_zero]
  decide +kernel

theorem witness_FramesDecodeToTheMeteredSamples :
    3 ≤ { Profile.default with m := 3 }.m ∧ { Profile.default with m := 8 }.m ≤ 8 ∧
    (∀ m ∈ [3, 8], ∃ ch rs bytes,
      codeFrame { Profile.default with m := m } 0 4 960 Chain.start [300, 650, 620, -100] = (ch, rs, bytes)) :=
  ⟨le_refl _, le_refl _, fun _ _ => ⟨_, _, _, rfl⟩⟩

/-- Two steps whose crossfade is as long as the shorter of them. -/
theorem witness_AssembledSequenceIsLaidDown :
    crossfadesFit 0 [⟨.splice, 0, 0, 480, 0, 0, 0⟩, ⟨.tone, 1, 1000, 480, 9600, 480, -15⟩, ⟨.splice, 1, 0, 9600, 0, 9120, 7⟩] := by
  refine ⟨by decide, by decide, by decide, by decide, by decide, by decide, trivial⟩

end Sys2Proof.Tests
end

/-! What the consequences of an event are made of. `Work` (Laws/Settle) says what they leave alone; the relation here
names the single changes, so that a law, the order of the notices, or a record's fate is followed through `settle` by one
case per change. -/

namespace Sys2Proof.Machine

/-- One change that follows from an event: in the store, at a reader, in a chain, a FIFO or a job, a broadcast, a lane that
takes the head entry (R88), or a job that ends before its output is whole (R103, R104, R105, R108). -/
inductive Consequence : State → State → Prop where
  | store (s : State) (f : Store → Store) : Consequence s (modStore f s)
  | fetch (s : State) (p : Port) (f : PortState → PortState)
      (hf : ∀ ps, ∃ st, f ps = { ps with stream := st } ∧ fetchless st = fetchless ps.stream) :
      Consequence s (modPort p f s)
  | chain (s : State) (k : TakeId) (b : Nat) :
      Consequence s (modTake k (fun t => { t with chain := t.chain ++ [b] }) s)
  | fifo (s : State) (p : Port) (n : Nat) : Consequence s (modStream p (fun st => { st with fifo := st.fifo.drop n }) s)
  | job (s : State) (l : Lane) (f : Job → Job) (hf : ∀ j, (f j).chapter = j.chapter) : Consequence s (modJob l f s)
  | post (s : State) (n : Notice) : Consequence s (broadcast n s)
  | start (s : State) (l : Lane) (e : Entry) (rest : List Entry) (hl : s.lanes[l] = none) (hq : s.queue = e :: rest) :
      Consequence s (beginJob l e.chapter e.origin (enterState e.chapter .rendering .started (setQueue rest s)))
  | abort (s : State) (l : Lane) (j : Job) (hl : s.lanes[l] = some j) :
      Consequence s (enterState j.chapter .ready .storeFull (clearLane l s))
  | reject (s : State) (l : Lane) (j : Job) (g : ResultGroup) (cause : Cause) (hl : s.lanes[l] = some j) :
      Consequence s (enterState j.chapter .rejected cause (writeResult j.chapter g (clearLane l s)))

/-- What a chain of such changes leads to. -/
abbrev Consequences : State → State → Prop := Relation.ReflTransGen Consequence

variable {s t : State}

theorem Consequence.all (h : Consequence s t) : Consequences s t := Relation.ReflTransGen.single h

theorem consequences_modStore (f : Store → Store) (s : State) : Consequences s (modStore f s) := (Consequence.store s f).all

theorem consequences_modJob (l : Lane) (f : Job → Job) (s : State) (hf : ∀ j, (f j).chapter = j.chapter) :
    Consequences s (modJob l f s) := (Consequence.job s l f hf).all

theorem Consequences.refl (s : State) : Consequences s s := Relation.ReflTransGen.refl

/-- A property that every single change keeps is kept by all consequences. -/
theorem Consequences.keep {P : State → Prop} (h : Consequences s t)
    (hP : ∀ u v, Consequence u v → P u → P v) (hs : P s) : P t := by
  induction h with
  | refl => exact hs
  | tail _ hv ih => exact hP _ _ hv ih

/-- A fold whose every step is a consequence. -/
theorem consequences_foldl {α : Type} (f : State → α → State) (hf : ∀ s a, Consequences s (f s a)) (as : List α)
    (s : State) : Consequences s (as.foldl f s) := by
  induction as generalizing s with
  | nil => exact .refl s
  | cons a as ih => exact (hf s a).trans (ih _)

/-! ### Lanes -/

/-- The idle lane that is chosen is idle. -/
theorem lanes_of_idleLane {l : Lane} (h : idleLane s = some l) : s.lanes[l] = none := by
  simpa using List.find?_some h

theorem consequences_takeEntries (n : Nat) (s : State) : Consequences s (takeEntries n s) := by
  induction n generalizing s with
  | zero => exact .refl s
  | succ n ih =>
    unfold takeEntries
    split
    · rename_i l e rest hl hq
      exact (Consequence.start s l e rest (lanes_of_idleLane hl) hq).all.trans (ih _)
    · exact .refl s

theorem consequences_lanesTake (s : State) : Consequences s (lanesTake s) := consequences_takeEntries _ s

theorem consequences_storeFull (l : Lane) (s : State) : Consequences s (storeFull l s) := by
  unfold storeFull
  split
  · exact .refl s
  · rename_i j hj
    exact (Consequence.abort s l j hj).all.trans (consequences_lanesTake _)

theorem consequences_encodeEndDue (l : Lane) (s : State) : Consequences s (encodeEndDue l s) := by
  unfold encodeEndDue
  split
  · exact .refl s
  · rename_i j hj
    split
    · dsimp only
      split
      · exact consequences_modJob l _ s (fun _ => rfl)
      · exact (Consequence.reject s l j _ .failed hj).all.trans (consequences_lanesTake _)
    · exact .refl s

theorem consequences_measureEndDue (l : Lane) (s : State) : Consequences s (measureEndDue l s) := by
  unfold measureEndDue
  split
  · exact .refl s
  · rename_i j hj
    split
    · dsimp only
      split
      · exact (Consequence.reject s l j _ .silent hj).all.trans (consequences_lanesTake _)
      · exact consequences_modJob l _ s (fun _ => rfl)
    · exact .refl s

/-! ### Notices of the pools -/

theorem consequences_lowCheck (before detail : Nat) (s : State) : Consequences s (lowCheck before detail s) := by
  unfold lowCheck
  split
  · exact (Consequence.post s _).all
  · exact .refl s

theorem consequences_sweptCheck (s : State) : Consequences s (sweptCheck s) := by
  unfold sweptCheck
  split
  · exact (consequences_modStore _ s).trans (Consequence.post _ _).all
  · exact .refl s

theorem consequences_eraseNotices (before detail : Nat) (s : State) :
    Consequences s (eraseNotices before detail s) := by
  unfold eraseNotices
  split
  · exact (consequences_lowCheck _ _ s).trans (consequences_sweptCheck _)
  · exact (consequences_sweptCheck s).trans (consequences_lowCheck _ _ _)

/-! ### Allocations and loads -/

theorem consequences_appendBlock (src : Source) (b : Nat) (s : State) : Consequences s (appendBlock src b s) := by
  unfold appendBlock
  cases src with
  | stream p =>
    dsimp only
    split
    · exact (consequences_modStore _ s).trans (Consequence.chain _ _ b).all
    · exact consequences_modStore _ s
  | lane l => exact (consequences_modStore _ s).trans (consequences_modJob l _ _ (fun _ => rfl))

theorem consequences_takeErased (src : Source) (s : State) : Consequences s (takeErased src s) := by
  unfold takeErased
  split
  · exact .refl s
  · exact ((consequences_modStore _ s).trans (consequences_appendBlock _ _ _)).trans (consequences_lowCheck _ _ _)

theorem consequences_startBackground (s : State) : Consequences s (startBackground s) := by
  unfold startBackground
  split
  · exact .refl s
  · exact (consequences_modStore _ s).trans (consequences_sweptCheck _)

theorem consequences_startBuiltIn (src : Source) (s : State) : Consequences s (startBuiltIn src s) := by
  unfold startBuiltIn
  split
  · exact .refl s
  · exact (consequences_modStore _ s).trans (consequences_eraseNotices _ _ _)

theorem consequences_captureAllocation (p : Port) (s : State) : Consequences s (captureAllocation p s) := by
  unfold captureAllocation
  dsimp only
  split
  · exact consequences_takeErased _ s
  · split <;> exact consequences_modStore _ s

theorem consequences_renderAllocation (l : Lane) (s : State) : Consequences s (renderAllocation l s) := by
  unfold renderAllocation
  dsimp only
  split
  · exact consequences_storeFull l s
  · split
    · exact consequences_takeErased _ s
    · exact consequences_modStore _ s

theorem consequences_waitingDue : waitingDue s = some t → Consequences s t := by
  intro h
  unfold waitingDue at h
  split at h
  · simp at h
  · split at h
    · cases h
      exact consequences_takeErased _ s
    · split at h
      · cases h
        split
        · exact consequences_storeFull _ s
        · exact consequences_takeErased _ s
      · simp at h

theorem consequences_loadStream (p : Port) (i : Fin 2) (s : State) : Consequences s (loadStream p i s) := by
  have taken := (Consequence.fifo s p Config.pageSamples).all
  unfold loadStream
  dsimp only
  split
  · exact (taken.trans (consequences_modStore _ _)).trans (consequences_captureAllocation p _)
  · exact taken.trans (consequences_modStore _ _)

theorem consequences_loadLane (l : Lane) (i : Fin 2) (s : State) : Consequences s (loadLane l i s) := by
  have emptied (s : State) :
      Consequences s (modJob l (fun j => { j with assembly := [], pageIndex := j.pageIndex + 1 }) s) :=
    consequences_modJob l _ s (fun _ => rfl)
  unfold loadLane
  split
  · exact .refl s
  · split
    · exact .refl s
    · dsimp only
      refine Relation.ReflTransGen.trans (Relation.ReflTransGen.trans ?_
        (Consequence.job _ l (fun j => placeBytes j.waiting j) (fun _ => rfl)).all) (consequences_encodeEndDue l _)
      split <;> split
      · exact (consequences_modStore _ s).trans (consequences_renderAllocation l _)
      · exact ((consequences_modStore _ s).trans (emptied _)).trans (consequences_renderAllocation l _)
      · exact consequences_modStore _ s
      · exact (consequences_modStore _ s).trans (emptied _)

theorem consequences_loadDue : loadDue s = some t → Consequences s t := by
  intro h
  unfold loadDue at h
  split at h
  · simp at h
  · split at h
    · cases h
      exact consequences_loadStream _ _ s
    · split at h
      · cases h
        exact consequences_loadLane _ _ s
      · simp at h

theorem consequences_loadAll (n : Nat) (s : State) : Consequences s (loadAll n s) := by
  induction n generalizing s with
  | zero => exact .refl s
  | succ n ih =>
    unfold loadAll
    split
    · rename_i t ht
      rcases Option.or_eq_some_iff.mp ht with hw | ⟨_, hl⟩
      · exact (consequences_waitingDue hw).trans (ih _)
      · exact (consequences_loadDue hl).trans (ih _)
    · exact .refl s

/-! ### Readers -/

theorem consequences_lanesAdvance (s : State) : Consequences s (lanesAdvance s) :=
  consequences_foldl _ (fun s l => (Consequence.job s l _ fun j => by
    rw [advanceJob, chapter_postRead, chapter_gather]).all) _ s

/-- A posted fetch changes the stream's fetch and nothing else (R177). -/
theorem postFetch_stream (s : State) (ps : PortState) :
    ∃ st, postFetch s ps = { ps with stream := st } ∧ fetchless st = fetchless ps.stream := by
  unfold postFetch
  split
  · rename_i a ha
    split
    · exact ⟨_, rfl, by simp [fetchless, ha]⟩
    · exact ⟨ps.stream, rfl, rfl⟩
  · exact ⟨ps.stream, rfl, rfl⟩

theorem consequences_readersAdvance (s : State) : Consequences s (readersAdvance s) :=
  (consequences_lanesAdvance s).trans
    (consequences_foldl _ (fun s p => (Consequence.fetch s p _ (postFetch_stream s)).all) _ _)

theorem consequences_startProgram (i : Fin 2) (s : State) : Consequences s (startProgram i s) := by
  unfold startProgram
  split
  · exact consequences_modStore _ s
  · exact .refl s

theorem consequences_startRead (who : Reader) (slot : Nat) (s : State) : Consequences s (startRead who slot s) := by
  unfold startRead
  cases who with
  | lane l => exact (consequences_modStore _ s).trans (consequences_modJob l _ _ (fun _ => rfl))
  | port p =>
    refine (consequences_modStore _ s).trans (Consequence.fetch _ p _ fun ps => ?_).all
    split
    · rename_i a ha
      exact ⟨_, rfl, by simp [fetchless, ha]⟩
    · exact ⟨ps.stream, rfl, rfl⟩

/-! ### The arbiter's choice -/

theorem consequences_serveStream (p : Port) (s : State) : Consequences s (serveStream p s) := by
  unfold serveStream
  split
  · exact (consequences_startProgram _ s).trans (consequences_modStore _ _)
  · split
    · exact consequences_modStore _ s
    · exact (consequences_startBuiltIn _ s).trans (consequences_modStore _ _)
  · exact .refl s

theorem consequences_serveLane (l : Lane) (s : State) : Consequences s (serveLane l s) := by
  unfold serveLane
  split
  · exact (consequences_startProgram _ s).trans (consequences_modStore _ _)
  · split
    · exact consequences_modStore _ s
    · split
      · exact consequences_storeFull l s
      · exact (consequences_startBuiltIn _ s).trans (consequences_modStore _ _)
  · exact .refl s

theorem consequences_chooseOnce : chooseOnce s = some t → Consequences s t := by
  intro h
  unfold chooseOnce at h
  split at h
  · cases h
    exact consequences_serveStream _ s
  · split at h
    · cases h
      exact consequences_startBackground s
    · split at h
      · cases h
        exact (consequences_startRead _ _ s).trans (consequences_modStore _ _)
      · split at h
        · cases h
          exact consequences_serveLane _ s
        · split at h
          · simp at h
          · cases h
            exact consequences_startBackground s

theorem consequences_settleRounds (n : Nat) (s : State) : Consequences s (settleRounds n s) := by
  induction n generalizing s with
  | zero => exact .refl s
  | succ n ih =>
    have ready := (consequences_loadAll 16 s).trans (consequences_readersAdvance _)
    unfold settleRounds
    dsimp only
    split
    · split
      · rename_i t ht
        exact (ready.trans (consequences_chooseOnce ht)).trans (ih _)
      · exact ready
    · exact ready

/-- Settling is a chain of consequences. -/
theorem consequences_settle (s : State) : Consequences s (settle s) := consequences_settleRounds 16 s

end Sys2Proof.Machine

/-! The catalogue as the laws read it: the facts about titles, takes, capture streams, chapters, the queue and the lanes
that R6, R9, R10, R13, R26, R36, R45, R57 and R87 speak of. `view` takes them from a state; the lemmas here say what each
named operation of the model makes of them, once. -/

namespace Sys2Proof.Machine

/-! ### The view -/

/-- What the laws read of a title. -/
structure TitleFacts where
  rate : RateCode
  chapters : List ChapterId

/-- What the laws read of a take. -/
structure TakeFacts where
  state : TakeState
  port : Option Port
  length : Nat
  refs : Nat

/-- What the laws read of a capture stream. -/
structure StreamFacts where
  take : TakeId
  closing : Bool

/-- The catalogue, the capture slots, the queue and the lanes as the laws read them. -/
@[ext] structure View where
  title : TitleNo → Option TitleFacts
  take : TakeId → Option TakeFacts
  stream : Port → Option StreamFacts
  chapter : ChapterId → Option Chapter
  queue : List ChapterId
  lane : Lane → Option ChapterId

def Title.facts (r : Title) : TitleFacts := ⟨r.rate, r.chapters⟩
def Take.facts (r : Take) : TakeFacts := ⟨r.state, r.port, r.length, r.refs⟩
def Stream.facts (st : Stream) : StreamFacts := ⟨st.take, st.closing⟩

/-- The view of a state. -/
def view (s : State) : View where
  title t := s.titles[t.val].map Title.facts
  take k := s.takes[k.val].map Take.facts
  stream p := s.captures[p.val].map Stream.facts
  chapter c := s.chapters[c.val]
  queue := s.queue.map (·.chapter)
  lane l := s.lanes[l.val].map (·.chapter)

namespace View

def setTitle (t : TitleNo) (o : Option TitleFacts) (v : View) : View := { v with title := Function.update v.title t o }
def setTake (k : TakeId) (o : Option TakeFacts) (v : View) : View := { v with take := Function.update v.take k o }
def setStream (p : Port) (o : Option StreamFacts) (v : View) : View :=
  { v with stream := Function.update v.stream p o }
def setChapter (c : ChapterId) (o : Option Chapter) (v : View) : View :=
  { v with chapter := Function.update v.chapter c o }
def setQueue (q : List ChapterId) (v : View) : View := { v with queue := q }
def setLane (l : Lane) (o : Option ChapterId) (v : View) : View := { v with lane := Function.update v.lane l o }

/-- One reference more for each take of a list. -/
def addRefs (ts : List TakeId) (v : View) : View :=
  { v with take := fun k => (v.take k).map fun f => { f with refs := if k ∈ ts then f.refs + 1 else f.refs } }

/-- One reference less for each take of a list. -/
def dropRefs (ts : List TakeId) (v : View) : View :=
  { v with take := fun k => (v.take k).map fun f => { f with refs := if k ∈ ts then f.refs - 1 else f.refs } }

/-- A title's chapter list. -/
def list (v : View) (t : TitleNo) : List ChapterId := ((v.title t).map (·.chapters)).getD []

/-- The positions of a list's chapters, counted from `n`. -/
def renumber : Nat → List ChapterId → View → View
  | _, [], v => v
  | n, c :: rest, v => renumber (n + 1) rest (v.setChapter c ((v.chapter c).map fun r => { r with position := n }))

/-- A title's list replaced, and its chapters' positions with it. -/
def reorder (t : TitleNo) (cs : List ChapterId) (v : View) : View :=
  (v.setTitle t ((v.title t).map fun r => { r with chapters := cs })).renumber 1 cs

/-- Nothing anywhere: the view after device reset. -/
def empty : View := ⟨fun _ => none, fun _ => none, fun _ => none, fun _ => none, [], fun _ => none⟩

/-! ### Reading an updated view -/

variable (v : View)

@[simp] theorem setTitle_title (t o) : (v.setTitle t o).title = Function.update v.title t o := rfl
@[simp] theorem setTitle_take (t o) : (v.setTitle t o).take = v.take := rfl
@[simp] theorem setTitle_stream (t o) : (v.setTitle t o).stream = v.stream := rfl
@[simp] theorem setTitle_chapter (t o) : (v.setTitle t o).chapter = v.chapter := rfl
@[simp] theorem setTitle_queue (t o) : (v.setTitle t o).queue = v.queue := rfl
@[simp] theorem setTitle_lane (t o) : (v.setTitle t o).lane = v.lane := rfl

@[simp] theorem setTake_title (k o) : (v.setTake k o).title = v.title := rfl
@[simp] theorem setTake_take (k o) : (v.setTake k o).take = Function.update v.take k o := rfl
@[simp] theorem setTake_stream (k o) : (v.setTake k o).stream = v.stream := rfl
@[simp] theorem setTake_chapter (k o) : (v.setTake k o).chapter = v.chapter := rfl
@[simp] theorem setTake_queue (k o) : (v.setTake k o).queue = v.queue := rfl
@[simp] theorem setTake_lane (k o) : (v.setTake k o).lane = v.lane := rfl

@[simp] theorem setStream_title (p o) : (v.setStream p o).title = v.title := rfl
@[simp] theorem setStream_take (p o) : (v.setStream p o).take = v.take := rfl
@[simp] theorem setStream_stream (p o) : (v.setStream p o).stream = Function.update v.stream p o := rfl
@[simp] theorem setStream_chapter (p o) : (v.setStream p o).chapter = v.chapter := rfl
@[simp] theorem setStream_queue (p o) : (v.setStream p o).queue = v.queue := rfl
@[simp] theorem setStream_lane (p o) : (v.setStream p o).lane = v.lane := rfl

@[simp] theorem setChapter_title (c o) : (v.setChapter c o).title = v.title := rfl
@[simp] theorem setChapter_take (c o) : (v.setChapter c o).take = v.take := rfl
@[simp] theorem setChapter_stream (c o) : (v.setChapter c o).stream = v.stream := rfl
@[simp] theorem setChapter_chapter (c o) : (v.setChapter c o).chapter = Function.update v.chapter c o := rfl
@[simp] theorem setChapter_queue (c o) : (v.setChapter c o).queue = v.queue := rfl
@[simp] theorem setChapter_lane (c o) : (v.setChapter c o).lane = v.lane := rfl

@[simp] theorem setQueue_title (q) : (v.setQueue q).title = v.title := rfl
@[simp] theorem setQueue_take (q) : (v.setQueue q).take = v.take := rfl
@[simp] theorem setQueue_stream (q) : (v.setQueue q).stream = v.stream := rfl
@[simp] theorem setQueue_chapter (q) : (v.setQueue q).chapter = v.chapter := rfl
@[simp] theorem setQueue_queue (q) : (v.setQueue q).queue = q := rfl
@[simp] theorem setQueue_lane (q) : (v.setQueue q).lane = v.lane := rfl

@[simp] theorem setLane_title (l o) : (v.setLane l o).title = v.title := rfl
@[simp] theorem setLane_take (l o) : (v.setLane l o).take = v.take := rfl
@[simp] theorem setLane_stream (l o) : (v.setLane l o).stream = v.stream := rfl
@[simp] theorem setLane_chapter (l o) : (v.setLane l o).chapter = v.chapter := rfl
@[simp] theorem setLane_queue (l o) : (v.setLane l o).queue = v.queue := rfl
@[simp] theorem setLane_lane (l o) : (v.setLane l o).lane = Function.update v.lane l o := rfl

@[simp] theorem addRefs_title (ts) : (v.addRefs ts).title = v.title := rfl
@[simp] theorem addRefs_stream (ts) : (v.addRefs ts).stream = v.stream := rfl
@[simp] theorem addRefs_chapter (ts) : (v.addRefs ts).chapter = v.chapter := rfl
@[simp] theorem addRefs_queue (ts) : (v.addRefs ts).queue = v.queue := rfl
@[simp] theorem addRefs_lane (ts) : (v.addRefs ts).lane = v.lane := rfl

@[simp] theorem dropRefs_title (ts) : (v.dropRefs ts).title = v.title := rfl
@[simp] theorem dropRefs_stream (ts) : (v.dropRefs ts).stream = v.stream := rfl
@[simp] theorem dropRefs_chapter (ts) : (v.dropRefs ts).chapter = v.chapter := rfl
@[simp] theorem dropRefs_queue (ts) : (v.dropRefs ts).queue = v.queue := rfl
@[simp] theorem dropRefs_lane (ts) : (v.dropRefs ts).lane = v.lane := rfl

theorem renumber_eq (n : Nat) (cs : List ChapterId) :
    v.renumber n cs = { v with chapter := (v.renumber n cs).chapter } := by
  induction cs generalizing n v with
  | nil => rfl
  | cons c rest ih => rw [renumber, ih]; rfl

@[simp] theorem renumber_title (n cs) : (v.renumber n cs).title = v.title := by rw [renumber_eq]
@[simp] theorem renumber_take (n cs) : (v.renumber n cs).take = v.take := by rw [renumber_eq]
@[simp] theorem renumber_stream (n cs) : (v.renumber n cs).stream = v.stream := by rw [renumber_eq]
@[simp] theorem renumber_queue (n cs) : (v.renumber n cs).queue = v.queue := by rw [renumber_eq]
@[simp] theorem renumber_lane (n cs) : (v.renumber n cs).lane = v.lane := by rw [renumber_eq]

@[simp] theorem reorder_title (t cs) : (v.reorder t cs).title =
    Function.update v.title t ((v.title t).map fun r => { r with chapters := cs }) := by simp [reorder]
@[simp] theorem reorder_take (t cs) : (v.reorder t cs).take = v.take := by simp [reorder]
@[simp] theorem reorder_stream (t cs) : (v.reorder t cs).stream = v.stream := by simp [reorder]
@[simp] theorem reorder_queue (t cs) : (v.reorder t cs).queue = v.queue := by simp [reorder]
@[simp] theorem reorder_lane (t cs) : (v.reorder t cs).lane = v.lane := by simp [reorder]

/-- Renumbering touches no chapter outside the list. -/
theorem renumber_chapter_of_notMem {c : ChapterId} {cs : List ChapterId} (n : Nat) (h : c ∉ cs) :
    (v.renumber n cs).chapter c = v.chapter c := by
  induction cs generalizing n v with
  | nil => rfl
  | cons d rest ih =>
    obtain ⟨hd, hr⟩ : c ≠ d ∧ c ∉ rest := by simpa using h
    rw [renumber, ih _ _ hr]
    simp [hd]

/-- Renumbering a list without repeats gives each of its chapters its place. -/
theorem renumber_chapter_of_getElem? {c : ChapterId} {cs : List ChapterId} (n k : Nat) (hn : cs.Nodup)
    (h : cs[k]? = some c) :
    (v.renumber n cs).chapter c = (v.chapter c).map fun r => { r with position := n + k } := by
  induction cs generalizing n k v with
  | nil => simp at h
  | cons d rest ih =>
    obtain ⟨hd, hr⟩ := List.nodup_cons.mp hn
    rw [renumber]
    cases k with
    | zero =>
      obtain rfl : d = c := by simpa using h
      rw [renumber_chapter_of_notMem _ _ hd]
      simp
    | succ k =>
      have h : rest[k]? = some c := by simpa using h
      have hne : c ≠ d := fun e => hd (e ▸ List.mem_of_getElem? h)
      rw [ih _ _ _ hr h]
      simp only [setChapter_chapter, Function.update_of_ne hne]
      congr 1
      funext r
      congr 1
      omega

/-- Renumbering changes positions only. -/
theorem renumber_chapter (n : Nat) (cs : List ChapterId) (c : ChapterId) :
    ∃ q : Chapter → Nat, (v.renumber n cs).chapter c = (v.chapter c).map fun r => { r with position := q r } := by
  induction cs generalizing n v with
  | nil => exact ⟨(·.position), by simp [renumber]⟩
  | cons d rest ih =>
    obtain ⟨q, hq⟩ := ih (v.setChapter d ((v.chapter d).map fun r => { r with position := n })) (n + 1)
    by_cases hd : c = d
    · subst hd
      refine ⟨fun r => q { r with position := n }, ?_⟩
      rw [renumber, hq]
      cases v.chapter c <;> simp
    · refine ⟨q, ?_⟩
      rw [renumber, hq]
      simp [hd]

/-- Reordering a title changes positions only. -/
theorem reorder_chapter (t : TitleNo) (cs : List ChapterId) (c : ChapterId) :
    ∃ q : Chapter → Nat, (v.reorder t cs).chapter c = (v.chapter c).map fun r => { r with position := q r } :=
  renumber_chapter _ 1 cs c

end View

/-! ### What the model's updates make of the view -/

variable (s : State)

/-- A state with the same records, queue and lanes has the same view. -/
theorem view_congr {s t : State} (ht : t.titles = s.titles) (hk : t.takes = s.takes) (hp : t.captures = s.captures)
    (hc : t.chapters = s.chapters) (hq : t.queue = s.queue) (hl : t.lanes = s.lanes) : view t = view s := by
  simp only [view, ht, hk, hp, hc, hq, hl]

@[simp] theorem view_modPort (p f) : view (modPort p f s) = view s := rfl
@[simp] theorem view_modStore (f) : view (modStore f s) = view s := rfl
@[simp] theorem view_modLevel (p f) : view (modLevel p f s) = view s := rfl
@[simp] theorem view_setProfile (n pr) : view (setProfile n pr s) = view s := rfl
@[simp] theorem view_broadcast (n) : view (broadcast n s) = view s :=
  view_congr (broadcast_titles s n) (broadcast_takes s n) (broadcast_captures s n) (broadcast_chapters s n)
    (broadcast_queue s n) (broadcast_lanes s n)
@[simp] theorem view_chapterNotice (c code cause) : view (chapterNotice c code cause s) = view s :=
  view_broadcast s _
@[simp] theorem view_notify (p n) : view (notify p n s) = view s := rfl
@[simp] theorem view_attend (t : State) : view (attend t s) = view s :=
  view_congr (attend_titles t s) (attend_takes t s) (attend_captures t s) (attend_chapters t s) (attend_queue t s)
    (attend_lanes t s)
@[simp] theorem view_release (chain) : view (release chain s) = view s := rfl
@[simp] theorem view_dropStream (p status) : view (dropStream p status s) = view s := rfl

@[simp] theorem view_setQueue (q : List Entry) :
    view (setQueue q s) = (view s).setQueue (q.map (·.chapter)) := rfl

/-- A vector read after a write at one index, as a function. -/
theorem vector_set_map {α β : Type} {n : Nat} (x : Vector α n) (i : Fin n) (a : α) (f : α → β) :
    (fun k : Fin n => f ((x.set i.val a i.isLt)[k.val])) = Function.update (fun k : Fin n => f x[k.val]) i (f a) := by
  funext k
  by_cases h : k = i
  · subst h; simp
  · have hv : i.val ≠ k.val := fun e => h (Fin.ext e.symm)
    simp [h, hv]

@[simp] theorem view_setTitle (t) (o : Option Title) :
    view (setTitle t o s) = (view s).setTitle t (o.map Title.facts) :=
  View.ext (vector_set_map s.titles t o (Option.map Title.facts)) rfl rfl rfl rfl rfl

@[simp] theorem view_setTake (k) (o : Option Take) :
    view (setTake k o s) = (view s).setTake k (o.map Take.facts) :=
  View.ext rfl (vector_set_map s.takes k o (Option.map Take.facts)) rfl rfl rfl rfl

@[simp] theorem view_setStream (p) (o : Option Stream) :
    view (setStream p o s) = (view s).setStream p (o.map Stream.facts) :=
  View.ext rfl rfl (vector_set_map s.captures p o (Option.map Stream.facts)) rfl rfl rfl

@[simp] theorem view_setChapter (c) (o : Option Chapter) :
    view (setChapter c o s) = (view s).setChapter c o :=
  View.ext rfl rfl rfl (vector_set_map s.chapters c o id) rfl rfl

@[simp] theorem view_setLane (l) (o : Option Job) :
    view (setLane l o s) = (view s).setLane l (o.map (·.chapter)) :=
  View.ext rfl rfl rfl rfl rfl (vector_set_map s.lanes l o (Option.map (·.chapter)))

@[simp] theorem view_modChapter (c f) :
    view (modChapter c f s) = (view s).setChapter c (((view s).chapter c).map f) := view_setChapter s c _

/-- A change of a title that its facts follow by `F`. -/
theorem view_modTitle {f : Title → Title} (F : TitleFacts → TitleFacts) (hf : ∀ r, (f r).facts = F r.facts) (t) :
    view (modTitle t f s) = (view s).setTitle t (((view s).title t).map F) := by
  rw [show modTitle t f s = setTitle t (s.titles[t].map f) s from rfl, view_setTitle]
  cases h : s.titles[t.val] <;> simp [view, h, hf]

/-- A change of a title outside the facts. -/
theorem view_modTitle_same {f : Title → Title} (t) (hf : ∀ r, (f r).facts = r.facts) :
    view (modTitle t f s) = view s := by
  rw [view_modTitle s id hf, Option.map_id]
  exact View.ext (Function.update_eq_self t _) rfl rfl rfl rfl rfl

/-- A change of a take that its facts follow by `F`. -/
theorem view_modTake {f : Take → Take} (F : TakeFacts → TakeFacts) (hf : ∀ r, (f r).facts = F r.facts) (k) :
    view (modTake k f s) = (view s).setTake k (((view s).take k).map F) := by
  rw [show modTake k f s = setTake k (s.takes[k].map f) s from rfl, view_setTake]
  cases h : s.takes[k.val] <;> simp [view, h, hf]

/-- A change of a take outside the facts. -/
theorem view_modTake_same {f : Take → Take} (k) (hf : ∀ r, (f r).facts = r.facts) :
    view (modTake k f s) = view s := by
  rw [view_modTake s id hf, Option.map_id]
  exact View.ext rfl (Function.update_eq_self k _) rfl rfl rfl rfl

/-- A change of a stream that its facts follow by `F`. -/
theorem view_modStream {f : Stream → Stream} (F : StreamFacts → StreamFacts) (hf : ∀ r, (f r).facts = F r.facts) (p) :
    view (modStream p f s) = (view s).setStream p (((view s).stream p).map F) := by
  rw [show modStream p f s = setStream p (s.captures[p].map f) s from rfl, view_setStream]
  cases h : s.captures[p.val] <;> simp [view, h, hf]

/-- A change of a stream outside the facts. -/
theorem view_modStream_same {f : Stream → Stream} (p) (hf : ∀ r, (f r).facts = r.facts) :
    view (modStream p f s) = view s := by
  rw [view_modStream s id hf, Option.map_id]
  exact View.ext rfl rfl (Function.update_eq_self p _) rfl rfl rfl

/-- A change of a job that keeps its chapter. -/
theorem view_modJob_same {f : Job → Job} (l) (hf : ∀ j, (f j).chapter = j.chapter) :
    view (modJob l f s) = view s := by
  rw [show modJob l f s = setLane l (s.lanes[l].map f) s from rfl, view_setLane]
  refine View.ext rfl rfl rfl rfl rfl ?_
  have h : (s.lanes[l].map f).map (·.chapter) = (view s).lane l := by
    cases h : s.lanes[l.val] <;> simp [view, h, hf]
  rw [h]
  exact Function.update_eq_self l _

@[simp] theorem view_enterState (c st cause) : view (enterState c st cause s) =
    (view s).setChapter c (((view s).chapter c).map fun r => { r with state := st }) :=
  view_modChapter s c _

@[simp] theorem view_writeResult (c g) : view (writeResult c g s) =
    (view s).setChapter c (((view s).chapter c).map fun r => { r with result := some g }) :=
  view_modChapter s c _

theorem view_clearLane {l : Lane} : view (clearLane l s) = (view s).setLane l none := by
  unfold clearLane
  split
  · rename_i h
    have h : (view s).lane l = none := by simpa [view] using h
    exact View.ext rfl rfl rfl rfl rfl (by rw [View.setLane_lane, ← h, Function.update_eq_self])
  · simp

@[simp] theorem view_detach (src) : view (detach src s) = view s := by
  have h (p : Port) (s : State) :
      view (if activeSource s.ports[p] = some src then dropStream p .detached s else s) = view s := by split <;> rfl
  simp only [detach, allPorts, List.foldl_cons, List.foldl_nil, h]

@[simp] theorem view_renumberFrom (n : Nat) (cs : List ChapterId) :
    view (renumberFrom n cs s) = (view s).renumber n cs := by
  induction cs generalizing n s with
  | nil => rfl
  | cons c rest ih => rw [renumberFrom, ih, view_modChapter, View.renumber]

@[simp] theorem view_reorder (t cs) : view (reorder t cs s) = (view s).reorder t cs := by
  rw [reorder, view_renumberFrom, view_modTitle s (fun f => { f with chapters := cs }) (fun _ => rfl)]
  rfl

@[simp] theorem view_list (t) : (view s).list t = chapterList s t := by
  unfold chapterList
  cases h : s.titles[t.val] <;> simp [View.list, view, h, Title.facts]

/-! ### References -/

/-- Erasing the repeats of a list leaves none. -/
theorem nodup_eraseDups {α : Type} [BEq α] [LawfulBEq α] (l : List α) : l.eraseDups.Nodup := by
  induction hn : l.length using Nat.strongRecOn generalizing l with
  | ind n ih =>
    cases l with
    | nil => exact List.nodup_nil
    | cons a rest =>
      have hlt : (rest.filter fun b => !b == a).length < n := by
        have := List.length_filter_le (fun b => !b == a) rest
        simp only [List.length_cons] at hn
        omega
      rw [List.eraseDups_cons, List.nodup_cons]
      exact ⟨by simp [List.mem_eraseDups], ih _ hlt _ rfl⟩

/-- The takes a script names are named once (R9). -/
theorem nodup_namedTakes (slots : Vector Step 32) : (namedTakes slots).Nodup := nodup_eraseDups _

/-- A fold of changes of takes without repeats, read take by take. -/
theorem view_foldl_modTake (n : Nat → Nat) {f : Take → Take} (hf : ∀ r, (f r).facts = { r.facts with refs := n r.refs })
    {ts : List TakeId} (hn : ts.Nodup) :
    view (ts.foldl (fun s t => modTake t f s) s) =
      { view s with take := fun k => ((view s).take k).map fun r =>
          { r with refs := if k ∈ ts then n r.refs else r.refs } } := by
  induction ts generalizing s with
  | nil => simp
  | cons t ts ih =>
    obtain ⟨ht, hn⟩ := List.nodup_cons.mp hn
    rw [List.foldl_cons, ih _ hn, view_modTake s (fun r => { r with refs := n r.refs }) hf]
    refine View.ext rfl (funext fun k => ?_) rfl rfl rfl rfl
    by_cases hk : k = t
    · subst hk
      simp only [View.setTake_take, Function.update_self, Option.map_map]
      simp [Function.comp_def, ht]
    · simp [hk]

theorem view_takeReferences {ts : List TakeId} (hn : ts.Nodup) : view (takeReferences ts s) = (view s).addRefs ts :=
  view_foldl_modTake s (· + 1) (fun _ => rfl) hn

theorem view_dropReferences {ts : List TakeId} (hn : ts.Nodup) : view (dropReferences ts s) = (view s).dropRefs ts :=
  view_foldl_modTake s (· - 1) (fun _ => rfl) hn

/-- The takes a chapter's record refers to (R9). -/
def heldTakes (r : Chapter) : List TakeId := if r.state = .assembling then [] else namedTakes r.slots

@[simp] theorem View.dropRefs_nil (v : View) : v.dropRefs [] = v := by
  refine View.ext rfl (funext fun k => ?_) rfl rfl rfl rfl
  simp [View.dropRefs]

theorem view_releaseReferences {c : ChapterId} {r : Chapter} (h : (view s).chapter c = some r) :
    view (releaseReferences c s) = (view s).dropRefs (heldTakes r) := by
  have h : s.chapters[c.val] = some r := h
  unfold releaseReferences heldTakes
  simp only [Fin.getElem_fin, h]
  split
  · simp
  · exact view_dropReferences s (nodup_namedTakes _)

/-! ### Freeing -/

theorem view_freeChapter {c : ChapterId} {r : Chapter} (h : (view s).chapter c = some r) :
    view (freeChapter c s) = ((view s).reorder r.title (((view s).list r.title).erase c)).setChapter c none := by
  have h : s.chapters[c.val] = some r := h
  simp [freeChapter, h]

theorem view_freeTake {k : TakeId} : view (freeTake k s) = (view s).setTake k none := by
  unfold freeTake
  split
  · simp [view_modTitle_same s (f := fun ti => { ti with takeCount := ti.takeCount - 1 }) _ (fun _ => rfl)]
  · rename_i h
    have h : (view s).take k = none := by
      have h : s.takes[k.val] = none := h
      simp [view, h]
    exact View.ext rfl (by rw [View.setTake_take, ← h, Function.update_eq_self]) rfl rfl rfl rfl

end Sys2Proof.Machine

/-! The changes of the catalogue. Every command is a chain of the changes below (`Path`), so a law of the manual holds
after every step when each single change keeps it. `H` is what the chain may assume of the queue and the lanes at its
start: the law of the queue where a statement has it, anything where it has not. -/

namespace Sys2Proof.Machine

namespace View

/-- Neither the queue nor a lane holds a chapter. -/
def NotHeld (v : View) (c : ChapterId) : Prop := c ∉ v.queue ∧ ∀ l, v.lane l ≠ some c

/-- A title's rate, 0 where it is not defined. -/
def rate (v : View) (t : TitleNo) : RateCode := ((v.title t).map (·.rate)).getD 0

/-! ### Changes of one record -/

/-- What a request makes of a chapter's record where the queue, the lanes and the references stay. -/
inductive Revises (H : Prop) (v : View) (c : ChapterId) (r : Chapter) : Chapter → Prop where
  | claim (p : Port) (hs : r.state = .assembling) : Revises H v c r { r with editor := some p }
  | unclaim : Revises H v c r { r with editor := none }
  | script (slots : Vector Step 32) (n : Nat) (hs : r.state = .assembling) (hn : n ≤ 32) :
      Revises H v c r { r with slots := slots, cursor := n }
  | publish (hs : r.state = .rendered) : Revises H v c r { r with state := .published }
  | collect (hs : r.state = .published) (hc : r.scriptCleared = false) :
      Revises H v c r { r with state := .ready, result := none }
  | cancel (hs : r.state = .queued ∨ r.state = .rendering) (hn : H → v.NotHeld c) :
      Revises H v c r { r with state := .ready }

/-- A record that joins the queue (R18, R90, R91). -/
inductive Enqueues (H : Prop) (r : Chapter) : Chapter → Prop where
  | render (hs : H → r.state = .ready ∨ r.state = .rendered ∨ r.state = .rejected) :
      Enqueues H r { r with state := .queued, result := none }
  | auto (hs : r.state = .ready) : Enqueues H r { r with state := .queued }

/-- A record whose job leaves its lane (R102 to R105, R108). -/
inductive Leaves (r : Chapter) : Chapter → Prop where
  | ready : Leaves r { r with state := .ready }
  | rejected (g : ResultGroup) : Leaves r { r with state := .rejected, result := some g }
  | rendered (g : ResultGroup) (hg : g.output ≠ none) : Leaves r { r with state := .rendered, result := some g }

/-! ### Changes of the catalogue -/

/-- One change of the catalogue, the capture slots, the queue or the lanes. -/
inductive Change (H : Prop) (v : View) : View → Prop where
  | define (t : TitleNo) (rate : RateCode) (ht : v.title t = none) : Change H v (v.setTitle t (some ⟨rate, []⟩))
  | drop (t : TitleNo) (rate : RateCode) (ht : v.title t = some ⟨rate, []⟩) : Change H v (v.setTitle t none)
  | create (t : TitleNo) (c : ChapterId) (q : Nat) (p : Port) (ht : v.title t ≠ none) (hl : (v.list t).length < 32)
      (hc : v.chapter c = none) :
      Change H v ((v.setChapter c (some (freshChapter t q p))).reorder t (insertAt q c (v.list t)))
  | move (c : ChapterId) (r : Chapter) (q : Nat) (hc : v.chapter c = some r) :
      Change H v (v.reorder r.title (insertAt q c ((v.list r.title).erase c)))
  | free (c : ChapterId) (r : Chapter) (hc : v.chapter c = some r) (hn : H → v.NotHeld c) :
      Change H v (((v.dropRefs (heldTakes r)).setChapter c none).reorder r.title ((v.list r.title).erase c))
  | dismiss (c : ChapterId) (r : Chapter) (hc : v.chapter c = some r) (hs : r.state = .published)
      (hk : r.scriptCleared = true) :
      Change H v ((v.setChapter c none).reorder r.title ((v.list r.title).erase c))
  | revise (c : ChapterId) (r r' : Chapter) (hc : v.chapter c = some r) (hr : Revises H v c r r') :
      Change H v (v.setChapter c (some r'))
  | close (c : ChapterId) (r : Chapter) (n : Nat) (hc : v.chapter c = some r) (hs : r.state = .assembling)
      (hlo : blockLength (v.rate r.title) ≤ n) (hhi : n ≤ 2 ^ 28)
      (hk : ∀ k ∈ namedTakes r.slots, ∃ f, v.take k = some f ∧ f.state = .closed) :
      Change H v ((v.setChapter c (some { r with assembled := some n, editor := none, state := .ready })).addRefs
        (namedTakes r.slots))
  | reopen (c : ChapterId) (r : Chapter) (p : Port) (hc : v.chapter c = some r) (hs : r.state ≠ .assembling)
      (hp : r.state ≠ .published) (hn : H → v.NotHeld c) :
      Change H v ((v.dropRefs (heldTakes r)).setChapter c
        (some { r with editor := some p, cursor := 0, assembled := none, result := none, state := .assembling }))
  | clear (c : ChapterId) (r : Chapter) (hc : v.chapter c = some r) (hs : r.state = .published) :
      Change H v ((v.dropRefs (heldTakes r)).setChapter c
        (some { r with slots := Vector.replicate 32 Step.blank, cursor := 0, scriptCleared := true }))
  | enqueue (c : ChapterId) (r r' : Chapter) (hc : v.chapter c = some r) (hr : Enqueues H r r') :
      Change H v ((v.setChapter c (some r')).setQueue (v.queue ++ [c]))
  | dequeue (q : List ChapterId) (hq : q.Sublist v.queue) : Change H v (v.setQueue q)
  | vacate (l : Lane) : Change H v (v.setLane l none)
  | start (l : Lane) (c : ChapterId) (rest : List ChapterId) (r : Chapter) (hl : v.lane l = none)
      (hq : v.queue = c :: rest) (hc : v.chapter c = some r) :
      Change H v (((v.setChapter c (some { r with state := .rendering })).setQueue rest).setLane l (some c))
  | leave (l : Lane) (c : ChapterId) (r r' : Chapter) (hl : v.lane l = some c) (hc : v.chapter c = some r)
      (hr : Leaves r r') : Change H v ((v.setChapter c (some r')).setLane l none)
  | record (p : Port) (k : TakeId) (hk : v.take k = none) (hp : v.stream p = none) :
      Change H v ((v.setTake k (some ⟨.capturing, some p, 0, 0⟩)).setStream p (some ⟨k, false⟩))
  | grow (p : Port) (k : TakeId) (hp : v.stream p = some ⟨k, false⟩)
      (hn : ∀ f, v.take k = some f → f.length + 1 < 2 ^ 28) :
      Change H v (v.setTake k ((v.take k).map fun f => { f with length := f.length + 1 }))
  | fill (p : Port) (k : TakeId) (hp : v.stream p = some ⟨k, false⟩) :
      Change H v ((v.setTake k ((v.take k).map fun f => { f with length := f.length + 1, state := .closing })).setStream p
        (some ⟨k, true⟩))
  | stop (p : Port) (k : TakeId) (hp : v.stream p = some ⟨k, false⟩) :
      Change H v ((v.setTake k ((v.take k).map fun f => { f with state := .closing })).setStream p (some ⟨k, true⟩))
  | finish (p : Port) (k : TakeId) (hp : v.stream p = some ⟨k, true⟩) :
      Change H v ((v.setTake k ((v.take k).map fun f => { f with state := .closed, port := none })).setStream p none)
  | retire (k : TakeId) (f : TakeFacts) (hk : v.take k = some f) (hs : f.state = .closed) (hr : f.refs = 0) :
      Change H v (v.setTake k none)
  | purge (hc : ∀ c r, v.chapter c = some r → heldTakes r = []) :
      Change H v { v with take := fun _ => none, stream := fun _ => none }
  | reset : Change H v empty

/-- A chain of changes. -/
abbrev Path (H : Prop) : View → View → Prop := Relation.ReflTransGen (Change H)

variable {H : Prop} {v w : View}

theorem Change.path (h : Change H v w) : Path H v w := Relation.ReflTransGen.single h

/-- A law that every change keeps holds at the end of a chain. -/
theorem Path.keep {P : View → Prop} (h : Path H v w) (hP : ∀ a b, Change H a b → P a → P b) (hv : P v) : P w := by
  induction h with
  | refl => exact hv
  | tail _ hb ih => exact hP _ _ hb ih

/-! ### The queue and the lanes -/

/-- What R87 lets a law assume of the chapters that the queue and the lanes hold: no chapter twice, and each in the state
of its place. -/
structure HeldLaw (v : View) : Prop where
  nodup : v.queue.Nodup
  queued : ∀ c ∈ v.queue, ∃ r, v.chapter c = some r ∧ r.state = .queued
  rendering : ∀ l c, v.lane l = some c → ∃ r, v.chapter c = some r ∧ r.state = .rendering
  lanes : ∀ l m c, v.lane l = some c → v.lane m = some c → l = m

/-- A chapter in another state is not held. -/
theorem HeldLaw.notHeld {c : ChapterId} {r : Chapter} (h : HeldLaw v) (hc : v.chapter c = some r)
    (hq : r.state ≠ .queued) (hr : r.state ≠ .rendering) : v.NotHeld c := by
  refine ⟨fun hm => ?_, fun l hl => ?_⟩
  · obtain ⟨r', hr', hs⟩ := h.queued c hm
    rw [hc] at hr'
    cases hr'
    exact hq hs
  · obtain ⟨r', hr', hs⟩ := h.rendering l c hl
    rw [hc] at hr'
    cases hr'
    exact hr hs

/-- Where nothing new is held and the states of what is held stay, the law stays. -/
theorem HeldLaw.of_less (h : HeldLaw v) (hq : w.queue.Sublist v.queue) (hl : ∀ l c, w.lane l = some c → v.lane l = some c)
    (hc : ∀ c, ¬ w.NotHeld c → ∀ r, v.chapter c = some r → ∃ r', w.chapter c = some r' ∧ r'.state = r.state) :
    HeldLaw w where
  nodup := h.nodup.sublist hq
  queued c hm := by
    obtain ⟨r, hr, hs⟩ := h.queued c (hq.mem hm)
    obtain ⟨r', hr', hs'⟩ := hc c (fun hn => hn.1 hm) r hr
    exact ⟨r', hr', hs'.trans hs⟩
  rendering l c hm := by
    obtain ⟨r, hr, hs⟩ := h.rendering l c (hl l c hm)
    obtain ⟨r', hr', hs'⟩ := hc c (fun hn => hn.2 l hm) r hr
    exact ⟨r', hr', hs'.trans hs⟩
  lanes l m c h1 h2 := h.lanes l m c (hl l c h1) (hl m c h2)

/-- A chapter that is not held may change in any way. -/
theorem HeldLaw.setChapter {c : ChapterId} (h : HeldLaw v) (hn : v.NotHeld c) (o : Option Chapter) :
    HeldLaw (v.setChapter c o) :=
  h.of_less (.refl _) (fun _ _ hl => hl) fun d hd r hr => ⟨r, by
    have hne : d ≠ c := fun e => hd (e ▸ hn)
    simpa [hne] using hr, rfl⟩

/-- Positions are nothing to the law. -/
theorem HeldLaw.reorder (h : HeldLaw v) (t : TitleNo) (cs : List ChapterId) : HeldLaw (v.reorder t cs) :=
  h.of_less (by simp) (by simp) fun c _ r hr => by
    obtain ⟨q, hq⟩ := v.reorder_chapter t cs c
    exact ⟨{ r with position := q r }, by rw [hq, hr, Option.map_some], rfl⟩

/-- A view with the same chapters, queue and lanes. -/
theorem HeldLaw.of_eq (h : HeldLaw v) (hc : w.chapter = v.chapter) (hq : w.queue = v.queue) (hl : w.lane = v.lane) :
    HeldLaw w := by
  obtain ⟨h1, h2, h3, h4⟩ := h
  exact ⟨hq ▸ h1, by rw [hc, hq]; exact h2, by rw [hc, hl]; exact h3, by rw [hl]; exact h4⟩

/-- The head entry's chapter starts in an idle lane (R88). -/
theorem HeldLaw.start {l : Lane} {c : ChapterId} {rest : List ChapterId} {r : Chapter} (h : HeldLaw v)
    (hq : v.queue = c :: rest) (hc : v.chapter c = some r) :
    HeldLaw (((v.setChapter c (some { r with state := .rendering })).setQueue rest).setLane l (some c)) := by
  have hn : c ∉ rest ∧ rest.Nodup := by simpa [hq] using h.nodup
  have hs : r.state = .queued := by
    obtain ⟨r', hr', hs⟩ := h.queued c (by simp [hq])
    rw [hc] at hr'
    cases hr'
    exact hs
  have hlane : ∀ m, v.lane m ≠ some c := fun m hm => by
    obtain ⟨r', hr', hs'⟩ := h.rendering m c hm
    rw [hc] at hr'
    cases hr'
    simp [hs] at hs'
  refine ⟨hn.2, fun d hd => ?_, fun m d hm => ?_, fun m n d h1 h2 => ?_⟩
  · have hd : d ∈ rest := hd
    have hne : d ≠ c := fun e => hn.1 (e ▸ hd)
    simpa [hne] using h.queued d (by simp [hq, hd])
  · by_cases hml : m = l
    · subst hml
      obtain rfl : c = d := by simpa using hm
      exact ⟨{ r with state := .rendering }, by simp, rfl⟩
    · have hm : v.lane m = some d := by simpa [hml] using hm
      have hne : d ≠ c := fun e => hlane m (e ▸ hm)
      simpa [hne] using h.rendering m d hm
  · by_cases hml : m = l <;> by_cases hnl : n = l
    · exact hml.trans hnl.symm
    · obtain rfl : c = d := by simpa [hml] using h1
      exact absurd (by simpa [hnl] using h2) (hlane n)
    · obtain rfl : c = d := by simpa [hnl] using h2
      exact absurd (by simpa [hml] using h1) (hlane m)
    · exact h.lanes m n d (by simpa [hml] using h1) (by simpa [hnl] using h2)

/-- A chapter that is not held joins the queue (R87). -/
theorem HeldLaw.enqueue {c : ChapterId} {r : Chapter} (h : HeldLaw v) (hn : v.NotHeld c) (hs : r.state = .queued) :
    HeldLaw ((v.setChapter c (some r)).setQueue (v.queue ++ [c])) := by
  refine ⟨?_, fun d hd => ?_, fun l d hl => ?_, h.lanes⟩
  · simpa [List.nodup_append] using ⟨h.nodup, fun a ha e => hn.1 (e ▸ ha)⟩
  · by_cases hne : d = c
    · subst hne
      exact ⟨r, by simp, hs⟩
    · have hd : d ∈ v.queue := by simpa [hne] using hd
      simpa [hne] using h.queued d hd
  · have hne : d ≠ c := fun e => hn.2 l (e ▸ hl)
    simpa [hne] using h.rendering l d hl

/-- A revision leaves the state of a held chapter. -/
theorem HeldLaw.revise {c : ChapterId} {r r' : Chapter} (h : HeldLaw v) (hH : H) (hc : v.chapter c = some r)
    (hr : Revises H v c r r') : HeldLaw (v.setChapter c (some r')) := by
  have keep (hs : r'.state = r.state) : HeldLaw (v.setChapter c (some r')) :=
    h.of_less (.refl _) (fun _ _ hl => hl) fun d _ x hx => by
      by_cases hd : d = c
      · subst hd
        rw [hc] at hx
        cases hx
        exact ⟨r', by simp, hs⟩
      · exact ⟨x, by simpa [hd] using hx, rfl⟩
  cases hr with
  | claim p hs => exact keep rfl
  | unclaim => exact keep rfl
  | script slots n hs hn => exact keep rfl
  | publish hs => exact h.setChapter (h.notHeld hc (by simp [hs]) (by simp [hs])) _
  | collect hs hk => exact h.setChapter (h.notHeld hc (by simp [hs]) (by simp [hs])) _
  | cancel hs hn => exact h.setChapter (hn hH) _

theorem HeldLaw.dropRefs (h : HeldLaw v) (ts : List TakeId) : HeldLaw (v.dropRefs ts) := h.of_eq rfl rfl rfl

/-- Every change keeps the law of what is held. -/
theorem Change.heldLaw (h : Change H v w) (hH : H) (hv : HeldLaw v) : HeldLaw w := by
  cases h with
  | define | drop | record | grow | fill | stop | finish | retire | purge => exact hv.of_eq rfl rfl rfl
  | create t c q p ht hl hc =>
    have made : HeldLaw (v.setChapter c (some (freshChapter t q p))) :=
      hv.of_less (.refl _) (fun _ _ hl => hl) fun d _ r hr => ⟨r, by
        have hne : d ≠ c := fun e => by simp [e, hc] at hr
        simpa [hne] using hr, rfl⟩
    exact made.reorder _ _
  | move c r q hc => exact hv.reorder _ _
  | free c r hc hn => exact ((hv.dropRefs _).setChapter (hn hH) _).reorder _ _
  | dismiss c r hc hs hk => exact (hv.setChapter (hv.notHeld hc (by simp [hs]) (by simp [hs])) _).reorder _ _
  | revise c r r' hc hr => exact hv.revise hH hc hr
  | close c r n hc hs =>
    exact (hv.setChapter (hv.notHeld hc (by simp [hs]) (by simp [hs])) _).of_eq rfl rfl rfl
  | reopen c r p hc hs hp hn => exact (hv.dropRefs _).setChapter (hn hH) _
  | clear c r hc hs =>
    exact (hv.dropRefs _).setChapter (hv.notHeld hc (by simp [hs]) (by simp [hs])) _
  | enqueue c r r' hc hr =>
    cases hr with
    | render hs =>
      have hs := hs hH
      exact hv.enqueue (hv.notHeld hc (by rcases hs with h | h | h <;> simp [h]) (by rcases hs with h | h | h <;> simp [h])) rfl
    | auto hs => exact hv.enqueue (hv.notHeld hc (by simp [hs]) (by simp [hs])) rfl
  | dequeue q hq => exact hv.of_less hq (fun _ _ hl => hl) fun _ _ r hr => ⟨r, hr, rfl⟩
  | vacate l =>
    refine hv.of_less (.refl _) (fun m c hm => ?_) fun _ _ r hr => ⟨r, hr, rfl⟩
    by_cases hml : m = l
    · simp [hml] at hm
    · simpa [hml] using hm
  | start l c rest r hl hq hc => exact hv.start hq hc
  | leave l c r r' hl hc hr =>
    have less : HeldLaw (v.setLane l none) := by
      refine hv.of_less (.refl _) (fun m c hm => ?_) fun _ _ r hr => ⟨r, hr, rfl⟩
      by_cases hml : m = l
      · simp [hml] at hm
      · simpa [hml] using hm
    refine (less.setChapter (c := c) ⟨fun hm => ?_, fun m hm => ?_⟩ (some r')).of_eq rfl rfl rfl
    · obtain ⟨x, hx, hxs⟩ := hv.queued c hm
      obtain ⟨y, hy, hys⟩ := hv.rendering l c hl
      rw [hx] at hy
      cases hy
      simp [hxs] at hys
    · by_cases hml : m = l
      · simp [hml] at hm
      · exact hml (hv.lanes m l c (by simpa [hml] using hm) hl)
  | reset => exact ⟨List.nodup_nil, by simp [empty], by simp [empty], by simp [empty]⟩

/-- A chain of changes keeps the law of what is held. -/
theorem Path.heldLaw (h : Path H v w) (hH : H) (hv : HeldLaw v) : HeldLaw w :=
  h.keep (fun _ _ k => k.heldLaw hH) hv

end View

/-- The law of the queue gives the law of what is held (R87). -/
theorem heldLaw_of_queueLaw {s : State} (h : QueueLaw s) : (view s).HeldLaw := by
  obtain ⟨-, hn, hq, hr, hd⟩ := h
  have record {c : ChapterId} {st : ChapterState} (h : chapterState s c = some st) :
      ∃ r, (view s).chapter c = some r ∧ r.state = st := Option.map_eq_some_iff.mp h
  refine ⟨hn, fun c hc => record ((hq c).mpr hc), fun l c hl => record ((hr c).mpr ⟨l, hl⟩), fun l m c hl hm => ?_⟩
  have hd : (view s).lane 0 = some c → (view s).lane 1 ≠ some c := hd c
  fin_cases l <;> fin_cases m
  · rfl
  · exact absurd hm (hd hl)
  · exact absurd hl (hd hm)
  · rfl

end Sys2Proof.Machine

/-! What a change makes of one chapter's record, and the laws that speak of one record at a time: claims and cursors (R13,
R45), presence (R10, R11), cleared scripts (R21). -/

namespace Sys2Proof.Machine

namespace View

variable {H : Prop} {v w : View}

/-- How a record in use after a change comes from the record before it. -/
inductive Origin (H : Prop) (v : View) (c : ChapterId) (r : Chapter) : Chapter → Prop where
  | placed (q : Nat) : Origin H v c r { r with position := q }
  | revised (r' : Chapter) (h : Revises H v c r r') : Origin H v c r r'
  | closed (n : Nat) (hs : r.state = .assembling) (hlo : blockLength (v.rate r.title) ≤ n) (hhi : n ≤ 2 ^ 28) :
      Origin H v c r { r with assembled := some n, editor := none, state := .ready }
  | reopened (p : Port) (hs : r.state ≠ .assembling) (hp : r.state ≠ .published) :
      Origin H v c r { r with editor := some p, cursor := 0, assembled := none, result := none, state := .assembling }
  | cleared (hs : r.state = .published) :
      Origin H v c r { r with slots := Vector.replicate 32 Step.blank, cursor := 0, scriptCleared := true }
  | enqueued (r' : Chapter) (h : Enqueues H r r') : Origin H v c r r'
  | started (hs : r.state = .queued) : Origin H v c r { r with state := .rendering }
  | left (r' : Chapter) (hs : r.state = .rendering) (h : Leaves r r') : Origin H v c r r'

theorem Origin.same (c : ChapterId) (r : Chapter) : Origin H v c r r := .placed r.position

/-- A record keeps its title as long as it is in use (R10). -/
theorem Origin.title {c : ChapterId} {r r' : Chapter} (h : Origin H v c r r') : r'.title = r.title := by
  cases h with
  | revised r' h => cases h <;> rfl
  | enqueued r' h => cases h <;> rfl
  | left r' hs h => cases h <;> rfl
  | _ => rfl

/-- One record replaced: each record comes from the one before it. -/
theorem origin_update {c d : ChapterId} {r x y : Chapter} (hc : v.chapter c = some r) (ho : Origin H v c r x)
    (h : Function.update v.chapter c (some x) d = some y) : ∃ z, v.chapter d = some z ∧ Origin H v d z y := by
  by_cases hd : d = c
  · subst hd
    rw [Function.update_self] at h
    cases h
    exact ⟨r, hc, ho⟩
  · rw [Function.update_of_ne hd] at h
    exact ⟨y, h, .same d y⟩

/-- Each record in use after a change comes from the record before it, or is a new one (R14). -/
theorem Change.origin (h : Change H v w) (hv : HeldLaw v) {c : ChapterId} {r' : Chapter} (hc : w.chapter c = some r') :
    (∃ r, v.chapter c = some r ∧ Origin H v c r r') ∨ ∃ t q p, r' = freshChapter t q p := by
  have same (e : w.chapter = v.chapter) :
      (∃ r, v.chapter c = some r ∧ Origin H v c r r') ∨ ∃ t q p, r' = freshChapter t q p :=
    .inl ⟨r', by rw [← e]; exact hc, .same c r'⟩
  cases h with
  | define | drop | dequeue | vacate | record | grow | fill | stop | finish | retire | purge => exact same rfl
  | create t d q p ht hl hd =>
    obtain ⟨n, hn⟩ := (v.setChapter d (some (freshChapter t q p))).reorder_chapter t (insertAt q d (v.list t)) c
    rw [hn] at hc
    obtain ⟨r, hr, rfl⟩ := Option.map_eq_some_iff.mp hc
    by_cases hcd : c = d
    · subst hcd
      obtain rfl : freshChapter t q p = r := by simpa using hr
      exact .inr ⟨t, _, p, rfl⟩
    · exact .inl ⟨r, by simpa [hcd] using hr, .placed _⟩
  | move d r q hd =>
    obtain ⟨n, hn⟩ := v.reorder_chapter r.title (insertAt q d ((v.list r.title).erase d)) c
    rw [hn] at hc
    obtain ⟨x, hx, rfl⟩ := Option.map_eq_some_iff.mp hc
    exact .inl ⟨x, hx, .placed _⟩
  | free d r hd hn =>
    obtain ⟨n, hn⟩ := ((v.dropRefs (heldTakes r)).setChapter d none).reorder_chapter r.title ((v.list r.title).erase d) c
    rw [hn] at hc
    obtain ⟨x, hx, rfl⟩ := Option.map_eq_some_iff.mp hc
    by_cases hcd : c = d
    · simp [hcd] at hx
    · exact .inl ⟨x, by simpa [hcd] using hx, .placed _⟩
  | dismiss d r hd hs hk =>
    obtain ⟨n, hn⟩ := (v.setChapter d none).reorder_chapter r.title ((v.list r.title).erase d) c
    rw [hn] at hc
    obtain ⟨x, hx, rfl⟩ := Option.map_eq_some_iff.mp hc
    by_cases hcd : c = d
    · simp [hcd] at hx
    · exact .inl ⟨x, by simpa [hcd] using hx, .placed _⟩
  | revise d r x hd hr => exact .inl (origin_update hd (.revised x hr) hc)
  | close d r n hd hs hlo hhi => exact .inl (origin_update hd (.closed n hs hlo hhi) hc)
  | reopen d r p hd hs hp hn => exact .inl (origin_update hd (.reopened p hs hp) hc)
  | clear d r hd hs => exact .inl (origin_update hd (.cleared hs) hc)
  | enqueue d r x hd hr => exact .inl (origin_update hd (.enqueued x hr) hc)
  | start l d rest r hl hq hd =>
    refine .inl (origin_update hd (.started ?_) hc)
    obtain ⟨x, hx, hs⟩ := hv.queued d (by simp [hq])
    rw [hd] at hx
    cases hx
    exact hs
  | leave l d r x hl hd hr =>
    refine .inl (origin_update hd (.left x ?_ hr) hc)
    obtain ⟨y, hy, hs⟩ := hv.rendering l d hl
    rw [hd] at hy
    cases hy
    exact hs
  | reset => simp [empty] at hc

/-- Every record in use has a property. -/
def Records (φ : Chapter → Prop) (v : View) : Prop := ∀ c r, v.chapter c = some r → φ r

/-- A property of records that new records have and that every origin keeps is kept by a change. -/
theorem Change.records {φ : Chapter → Prop} (h : Change H v w) (hv : HeldLaw v)
    (fresh : ∀ t q p, φ (freshChapter t q p)) (keep : ∀ c r r', Origin H v c r r' → φ r → φ r')
    (hφ : v.Records φ) : w.Records φ := by
  intro c r' hc
  rcases h.origin hv hc with ⟨r, hr, ho⟩ | ⟨t, q, p, rfl⟩
  · exact keep c r r' ho (hφ c r hr)
  · exact fresh t q p

/-- A chain of changes keeps such a property, together with the law of what is held. -/
theorem Path.records {φ : Chapter → Prop} (h : Path H v w) (hH : H) (hv : HeldLaw v)
    (fresh : ∀ t q p, φ (freshChapter t q p)) (keep : ∀ v c r r', Origin H v c r r' → φ r → φ r')
    (hφ : v.Records φ) : w.Records φ :=
  (h.keep (P := fun v => HeldLaw v ∧ v.Records φ)
    (fun _ _ k ⟨hh, hp⟩ => ⟨k.heldLaw hH hh, k.records hh fresh (keep _) hp⟩) ⟨hv, hφ⟩).2

/-! ### Claims and cursors -/

/-- Only an ASSEMBLING chapter has an editor (R13). -/
def Claimed (r : Chapter) : Prop := r.editor ≠ none → r.state = .assembling

theorem Origin.claimed {c : ChapterId} {r r' : Chapter} (hH : H) (h : Origin H v c r r') (hr : Claimed r) :
    Claimed r' := by
  have unclaimed (hs : r.state ≠ .assembling) : r.editor = none := not_not.mp fun he => hs (hr he)
  cases h with
  | placed q => exact hr
  | revised r' h =>
    cases h with
    | claim p hs => exact fun _ => hs
    | unclaim => exact fun h => absurd rfl h
    | script slots n hs hn => exact hr
    | publish hs => exact fun h => absurd (unclaimed (by simp [hs])) h
    | collect hs hk => exact fun h => absurd (unclaimed (by simp [hs])) h
    | cancel hs hn => exact fun h => absurd (unclaimed (by rcases hs with h | h <;> simp [h])) h
  | closed n hs hlo hhi => exact fun h => absurd rfl h
  | reopened p hs hp => exact fun _ => rfl
  | cleared hs => exact hr
  | enqueued r' h =>
    cases h with
    | render hs => exact fun h => absurd (unclaimed (by rcases hs hH with h | h | h <;> simp [h])) h
    | auto hs => exact fun h => absurd (unclaimed (by simp [hs])) h
  | started hs => exact fun h => absurd (unclaimed (by simp [hs])) h
  | left r' hs h =>
    cases h <;> exact fun h => absurd (unclaimed (by simp [hs])) h

/-- A cursor is at most 32 (R45). -/
def CursorFits (r : Chapter) : Prop := r.cursor ≤ 32

theorem Origin.cursorFits {c : ChapterId} {r r' : Chapter} (h : Origin H v c r r') (hr : CursorFits r) :
    CursorFits r' := by
  cases h with
  | revised r' h =>
    cases h with
    | script slots n hs hn => exact hn
    | _ => exact hr
  | reopened p hs hp => exact Nat.zero_le 32
  | cleared hs => exact Nat.zero_le 32
  | enqueued r' h => cases h <;> exact hr
  | left r' hs h => cases h <;> exact hr
  | _ => exact hr

/-! ### Presence -/

/-- What a record holds in its state (R10, R11). -/
def Present (r : Chapter) : Prop :=
  (r.assembled = none ↔ r.state = .assembling) ∧
    (r.result ≠ none ↔ r.state = .rendered ∨ r.state = .rejected ∨ r.state = .published) ∧
    (r.state = .rendered ∨ r.state = .published → ownedOutput r ≠ none)

/-- Outside ASSEMBLING and the states with a result group, an assembled length and no result group. -/
theorem present_of_underway {r : Chapter} (ha : r.assembled ≠ none) (hr : r.result = none)
    (hs : r.state = .ready ∨ r.state = .queued ∨ r.state = .rendering) : Present r := by
  refine ⟨⟨fun h => absurd h ha, fun h => ?_⟩, ⟨fun h => absurd hr h, fun h => ?_⟩, fun h => ?_⟩ <;>
    rcases hs with hs | hs | hs <;> simp [hs] at h

/-- A record on the render path has an assembled length and no result group. -/
theorem Present.underway {r : Chapter} (h : Present r)
    (hs : r.state = .ready ∨ r.state = .queued ∨ r.state = .rendering) : r.assembled ≠ none ∧ r.result = none := by
  obtain ⟨ha, hr, -⟩ := h
  refine ⟨fun h => ?_, not_not.mp fun h => ?_⟩
  · have := ha.mp h
    rcases hs with hs | hs | hs <;> simp [hs] at this
  · have := hr.mp h
    rcases hs with hs | hs | hs <;> simp [hs] at this

theorem Present.assembled {r : Chapter} (h : Present r) (hs : r.state ≠ .assembling) : r.assembled ≠ none :=
  fun ha => hs (h.1.mp ha)

theorem Origin.present {c : ChapterId} {r r' : Chapter} (hH : H) (h : Origin H v c r r') (hr : Present r) :
    Present r' := by
  cases h with
  | placed q => exact hr
  | revised r' h =>
    cases h with
    | claim p hs => exact hr
    | unclaim => exact hr
    | script slots n hs hn => exact hr
    | publish hs =>
      obtain ⟨ha, hg, ho⟩ := hr
      exact ⟨by simpa [hs] using ha, by simpa [hs] using hg, fun _ => ho (.inl hs)⟩
    | collect hs hk => exact present_of_underway (hr.assembled (by simp [hs])) rfl (.inl rfl)
    | cancel hs hn =>
      obtain ⟨ha, hg⟩ := hr.underway (.inr hs)
      exact present_of_underway ha hg (.inl rfl)
  | closed n hs hlo hhi =>
    have hg : r.result = none := not_not.mp fun h => by simpa [hs] using hr.2.1.mp h
    exact present_of_underway (Option.some_ne_none n) hg (.inl rfl)
  | reopened p hs hp => simp [Present]
  | cleared hs => exact hr
  | enqueued r' h =>
    cases h with
    | render hs =>
      exact present_of_underway (hr.assembled (by rcases hs hH with h | h | h <;> simp [h])) rfl (.inr (.inl rfl))
    | auto hs =>
      obtain ⟨ha, hg⟩ := hr.underway (.inl hs)
      exact present_of_underway ha hg (.inr (.inl rfl))
  | started hs =>
    obtain ⟨ha, hg⟩ := hr.underway (.inr (.inl hs))
    exact present_of_underway ha hg (.inr (.inr rfl))
  | left r' hs h =>
    obtain ⟨ha, hg⟩ := hr.underway (.inr (.inr hs))
    cases h with
    | ready => exact present_of_underway ha hg (.inl rfl)
    | rejected g => simp [Present, ha]
    | rendered g ho => simp [Present, ha, ownedOutput, ho]

/-! ### Cleared scripts -/

/-- A cleared script is that of a PUBLISHED chapter and has no steps (R21). -/
def ClearedFits (r : Chapter) : Prop :=
  r.scriptCleared = true → r.state = .published ∧ r.slots = Vector.replicate 32 Step.blank

theorem Origin.clearedFits {c : ChapterId} {r r' : Chapter} (hH : H) (h : Origin H v c r r') (hr : ClearedFits r) :
    ClearedFits r' := by
  have uncleared (hs : r.state ≠ .published) {P : Prop} (h : r.scriptCleared = true) : P := absurd (hr h).1 hs
  cases h with
  | placed q => exact hr
  | revised r' h =>
    cases h with
    | claim p hs => exact hr
    | unclaim => exact hr
    | script slots n hs hn => exact uncleared (by simp [hs])
    | publish hs => exact uncleared (by simp [hs])
    | collect hs hk => exact fun h => by simp [hk] at h
    | cancel hs hn => exact uncleared (by rcases hs with h | h <;> simp [h])
  | closed n hs hlo hhi => exact uncleared (by simp [hs])
  | reopened p hs hp => exact uncleared hp
  | cleared hs => exact fun _ => ⟨hs, rfl⟩
  | enqueued r' h =>
    cases h with
    | render hs => exact uncleared (by rcases hs hH with h | h | h <;> simp [h])
    | auto hs => exact uncleared (by simp [hs])
  | started hs => exact uncleared (by simp [hs])
  | left r' hs h => cases h <;> exact uncleared (by simp [hs])

end View

end Sys2Proof.Machine

/-! The law of positions (R6) and the law of references (R9) under the changes of the catalogue. -/

namespace Sys2Proof.Machine

namespace View

variable {H : Prop} {v w : View}

/-! ### Lists with a chapter put in or taken out -/

/-- Putting an id in at a position permutes the list with the id in front. -/
theorem insertAt_perm (q : Nat) (c : ChapterId) (cs : List ChapterId) : (insertAt q c cs).Perm (c :: cs) :=
  List.perm_middle.trans (by rw [List.take_append_drop])

/-! ### Positions -/

/-- The law of positions (R6). -/
structure PositionLaw (v : View) : Prop where
  lists : ∀ t f, v.title t = some f → f.chapters.Nodup ∧ f.chapters.length ≤ 32
  owned : ∀ c r, v.chapter c = some r → v.title r.title ≠ none ∧ 1 ≤ r.position
  places : ∀ t c k, (v.list t)[k]? = some c ↔
    v.title t ≠ none ∧ ∃ r, v.chapter c = some r ∧ r.title = t ∧ r.position = k + 1

theorem list_of_title {t : TitleNo} {f : TitleFacts} (h : v.title t = some f) : v.list t = f.chapters := by
  simp [list, h]

/-- A title's list holds its chapters. -/
theorem PositionLaw.mem_list (h : PositionLaw v) {t : TitleNo} (ht : v.title t ≠ none) {c : ChapterId} :
    c ∈ v.list t ↔ ∃ r, v.chapter c = some r ∧ r.title = t := by
  rw [List.mem_iff_getElem?]
  constructor
  · rintro ⟨k, hk⟩
    obtain ⟨-, r, hr, hrt, -⟩ := (h.places t c k).mp hk
    exact ⟨r, hr, hrt⟩
  · rintro ⟨r, hr, hrt⟩
    have hp := (h.owned c r hr).2
    exact ⟨r.position - 1, (h.places t c _).mpr ⟨ht, r, hr, hrt, by omega⟩⟩

theorem PositionLaw.nodup (h : PositionLaw v) (t : TitleNo) : (v.list t).Nodup ∧ (v.list t).length ≤ 32 := by
  cases ht : v.title t with
  | none => simp [list, ht]
  | some f => rw [list_of_title ht]; exact h.lists t f ht

/-- A view whose titles are the same and whose records keep title and position. -/
theorem PositionLaw.of_eq (h : PositionLaw v) (ht : w.title = v.title)
    (hc : ∀ c, (w.chapter c).map (fun r => (r.title, r.position)) = (v.chapter c).map fun r => (r.title, r.position)) :
    PositionLaw w := by
  have hl (t) : w.list t = v.list t := by rw [list, ht]; rfl
  have place (c : ChapterId) (t : TitleNo) (n : Nat) : (∃ r, w.chapter c = some r ∧ r.title = t ∧ r.position = n) ↔
      ∃ r, v.chapter c = some r ∧ r.title = t ∧ r.position = n := by
    have key (o : Option Chapter) : (∃ r, o = some r ∧ r.title = t ∧ r.position = n) ↔
        o.map (fun r => (r.title, r.position)) = some (t, n) := by
      cases o <;> simp
    rw [key, key, hc]
  refine ⟨by rw [ht]; exact h.lists, fun c r hr => ?_, fun t c k => ?_⟩
  · obtain ⟨x, hx, hxt, hxp⟩ := (place c r.title r.position).mp ⟨r, hr, rfl, rfl⟩
    have := h.owned c x hx
    rw [ht, ← hxt, ← hxp]
    exact this
  · rw [hl, ht, h.places, place]

/-- A title's new list of its chapters puts every one of them in its place. -/
theorem positionLaw_reorder {t : TitleNo} {cs : List ChapterId} (ht : v.title t ≠ none) (hn : cs.Nodup)
    (hlen : cs.length ≤ 32) (hm : ∀ c, c ∈ cs ↔ ∃ r, v.chapter c = some r ∧ r.title = t)
    (lists : ∀ u f, u ≠ t → v.title u = some f → f.chapters.Nodup ∧ f.chapters.length ≤ 32)
    (owned : ∀ c r, r.title ≠ t → v.chapter c = some r → v.title r.title ≠ none ∧ 1 ≤ r.position)
    (places : ∀ u c k, u ≠ t → ((v.list u)[k]? = some c ↔
      v.title u ≠ none ∧ ∃ r, v.chapter c = some r ∧ r.title = u ∧ r.position = k + 1)) :
    PositionLaw (v.reorder t cs) := by
  obtain ⟨f, hf⟩ := Option.ne_none_iff_exists'.mp ht
  -- chapters of the title have their place in the list
  have inside {c : ChapterId} {k : Nat} (h : cs[k]? = some c) :
      (v.reorder t cs).chapter c = (v.chapter c).map fun r => { r with position := k + 1 } := by
    rw [Nat.add_comm k 1]
    exact renumber_chapter_of_getElem? _ 1 k hn h
  have outside {c : ChapterId} (h : c ∉ cs) : (v.reorder t cs).chapter c = v.chapter c :=
    renumber_chapter_of_notMem _ 1 h
  have other {c : ChapterId} {r : Chapter} (hr : v.chapter c = some r) (hrt : r.title ≠ t) : c ∉ cs := fun h => by
    obtain ⟨x, hx, hxt⟩ := (hm c).mp h
    rw [hr] at hx
    cases hx
    exact hrt hxt
  have newList : (v.reorder t cs).list t = cs := by simp [list, hf]
  have oldList {u : TitleNo} (hu : u ≠ t) : (v.reorder t cs).list u = v.list u := by simp [list, hu]
  have newTitle : (v.reorder t cs).title t ≠ none := by simp [hf]
  have oldTitle {u : TitleNo} (hu : u ≠ t) : (v.reorder t cs).title u = v.title u := by simp [hu]
  -- a record after the reordering, in and out of the title
  have split {c : ChapterId} {r' : Chapter} (h : (v.reorder t cs).chapter c = some r') :
      (∃ k, cs[k]? = some c ∧ r'.title = t ∧ r'.position = k + 1) ∨ (v.chapter c = some r' ∧ r'.title ≠ t) := by
    by_cases hc : c ∈ cs
    · obtain ⟨k, hk⟩ := List.mem_iff_getElem?.mp hc
      obtain ⟨r, hr, hrt⟩ := (hm c).mp hc
      rw [inside hk, hr] at h
      cases h
      exact .inl ⟨k, hk, hrt, rfl⟩
    · rw [outside hc] at h
      exact .inr ⟨h, fun e => hc ((hm c).mpr ⟨r', h, e⟩)⟩
  refine ⟨fun u g hg => ?_, fun c r' hc => ?_, fun u c k => ?_⟩
  · by_cases hu : u = t
    · subst hu
      obtain rfl : (⟨f.rate, cs⟩ : TitleFacts) = g := by simpa [hf] using hg
      exact ⟨hn, hlen⟩
    · exact lists u g hu (by rw [← oldTitle hu]; exact hg)
  · rcases split hc with ⟨k, hk, hrt, hp⟩ | ⟨hr, hrt⟩
    · exact ⟨by rw [hrt]; exact newTitle, by omega⟩
    · rw [oldTitle hrt]
      exact owned c r' hrt hr
  · by_cases hu : u = t
    · subst hu
      rw [newList]
      constructor
      · intro hk
        obtain ⟨r, hr, hrt⟩ := (hm c).mp (List.mem_of_getElem? hk)
        exact ⟨newTitle, { r with position := k + 1 }, by rw [inside hk, hr, Option.map_some], hrt, rfl⟩
      · rintro ⟨-, r', hr', hrt, hp⟩
        rcases split hr' with ⟨j, hj, -, hp'⟩ | ⟨-, hne⟩
        · obtain rfl : j = k := by omega
          exact hj
        · exact absurd hrt hne
    · rw [oldList hu, oldTitle hu, places u c k hu]
      constructor
      · rintro ⟨h, r, hr, hrt, hp⟩
        exact ⟨h, r, by rw [outside (other hr (by rw [hrt]; exact hu)), hr], hrt, hp⟩
      · rintro ⟨h, r', hr', hrt, hp⟩
        rcases split hr' with ⟨j, -, hrt', -⟩ | ⟨hr, -⟩
        · exact absurd (hrt.symm.trans hrt') hu
        · exact ⟨h, r', hr, hrt, hp⟩

/-- An undefined title has no chapters. -/
theorem PositionLaw.no_chapter (h : PositionLaw v) {t : TitleNo} (ht : v.list t = []) {c : ChapterId} {r : Chapter}
    (hc : v.chapter c = some r) : r.title ≠ t := by
  rintro rfl
  have hm := (h.mem_list (h.owned c r hc).1).mpr ⟨r, hc, rfl⟩
  rw [ht] at hm
  exact List.not_mem_nil hm

/-- A title without chapters may be defined or dropped. -/
theorem PositionLaw.setTitle (h : PositionLaw v) {t : TitleNo} {o : Option TitleFacts} (ht : v.list t = [])
    (ho : ∀ f, o = some f → f.chapters = []) : PositionLaw (v.setTitle t o) := by
  have newList : (v.setTitle t o).list t = [] := by
    cases o with
    | none => simp [list]
    | some f => simp [list, ho f rfl]
  refine ⟨fun u g hg => ?_, fun c r hc => ?_, fun u c k => ?_⟩
  · by_cases hu : u = t
    · subst hu
      have hg : o = some g := by simpa using hg
      simp [ho g hg]
    · exact h.lists u g (by simpa [hu] using hg)
  · have hne := h.no_chapter ht hc
    simpa [hne] using h.owned c r hc
  · by_cases hu : u = t
    · subst hu
      rw [newList]
      constructor
      · simp
      · rintro ⟨-, r, hr, hrt, -⟩
        exact absurd hrt (h.no_chapter ht hr)
    · have hl : (v.setTitle t o).list u = v.list u := by simp [list, hu]
      rw [hl, h.places]
      simp [hu]

/-- One record replaced with title and position kept. -/
theorem PositionLaw.update (h : PositionLaw v) {c : ChapterId} {r r' : Chapter} (hc : v.chapter c = some r)
    (ht : w.title = v.title) (hw : w.chapter = Function.update v.chapter c (some r'))
    (hp : r'.title = r.title ∧ r'.position = r.position) : PositionLaw w :=
  h.of_eq ht fun d => by
    by_cases hd : d = c
    · subst hd
      simp [hw, hc, hp]
    · simp [hw, hd]

theorem Revises.place {c : ChapterId} {r r' : Chapter} (h : Revises H v c r r') :
    r'.title = r.title ∧ r'.position = r.position := by
  cases h <;> exact ⟨rfl, rfl⟩

theorem Enqueues.place {r r' : Chapter} (h : Enqueues H r r') : r'.title = r.title ∧ r'.position = r.position := by
  cases h <;> exact ⟨rfl, rfl⟩

theorem Leaves.place {r r' : Chapter} (h : Leaves r r') : r'.title = r.title ∧ r'.position = r.position := by
  cases h <;> exact ⟨rfl, rfl⟩

/-- A chapter freed: it leaves its title's list, and those after it move down (R6). -/
theorem PositionLaw.remove (h : PositionLaw v) {c : ChapterId} {r : Chapter} (hc : v.chapter c = some r)
    (ht : w.title = v.title) (hw : w.chapter = Function.update v.chapter c none) :
    PositionLaw (w.reorder r.title ((v.list r.title).erase c)) := by
  have title := (h.owned c r hc).1
  obtain ⟨nodup, len⟩ := h.nodup r.title
  have hl (u) : w.list u = v.list u := by rw [list, ht]; rfl
  refine positionLaw_reorder (by rw [ht]; exact title) (nodup.erase c) (List.length_erase_le.trans len) (fun d => ?_)
    (fun u f _ hf => h.lists u f (by rw [← ht]; exact hf)) (fun d x hrt hd => ?_) fun u d k hu => ?_
  · rw [nodup.mem_erase_iff, h.mem_list title, hw]
    by_cases hd : d = c <;> simp [hd]
  · rw [hw] at hd
    by_cases hdc : d = c
    · simp [hdc] at hd
    · rw [ht]
      exact h.owned d x (by simpa [hdc] using hd)
  · rw [hl, h.places, ht, hw]
    by_cases hd : d = c
    · subst hd
      simp [hc, hu.symm]
    · simp [hd]

/-- Every change keeps the law of positions (R6). -/
theorem Change.positionLaw (h : Change H v w) (hv : PositionLaw v) : PositionLaw w := by
  cases h with
  | define t rate ht => exact hv.setTitle (by simp [list, ht]) (by rintro f ⟨⟩; rfl)
  | drop t rate ht => exact hv.setTitle (by simp [list, ht]) (by rintro f ⟨⟩)
  | create t c q p ht hl hc =>
    have perm := insertAt_perm q c (v.list t)
    have new : c ∉ v.list t := fun h => by
      obtain ⟨r, hr, -⟩ := (hv.mem_list ht).mp h
      simp [hc] at hr
    have old {d : ChapterId} {r : Chapter} (hr : v.chapter d = some r) : d ≠ c := fun e => by simp [e, hc] at hr
    refine positionLaw_reorder ht (perm.nodup_iff.mpr (List.nodup_cons.mpr ⟨new, (hv.nodup t).1⟩))
      (by rw [perm.length_eq]; simpa using hl) (fun d => ?_) (fun u f _ hf => hv.lists u f hf)
      (fun d r hrt hd => ?_) fun u d k hu => ?_
    · rw [perm.mem_iff, List.mem_cons, hv.mem_list ht]
      by_cases hd : d = c
      · subst hd
        simp [freshChapter]
      · simp [hd]
    · by_cases hdc : d = c
      · subst hdc
        obtain rfl : freshChapter t q p = r := by simpa using hd
        exact absurd rfl hrt
      · exact hv.owned d r (by simpa [hdc] using hd)
    · have hl : (v.setChapter c (some (freshChapter t q p))).list u = v.list u := rfl
      rw [hl, hv.places]
      by_cases hd : d = c
      · subst hd
        simp [hc, freshChapter, hu.symm]
      · simp [hd]
  | move c r q hc =>
    have ht := (hv.owned c r hc).1
    have mem : c ∈ v.list r.title := (hv.mem_list ht).mpr ⟨r, hc, rfl⟩
    have perm := (insertAt_perm q c ((v.list r.title).erase c)).trans (List.perm_cons_erase mem).symm
    exact positionLaw_reorder ht (perm.nodup_iff.mpr (hv.nodup _).1) (perm.length_eq ▸ (hv.nodup _).2)
      (fun d => by rw [perm.mem_iff, hv.mem_list ht]) (fun u f _ hf => hv.lists u f hf)
      (fun d r _ hd => hv.owned d r hd) fun u d k _ => hv.places u d k
  | free c r hc hn => exact hv.remove hc rfl rfl
  | dismiss c r hc hs hk => exact hv.remove hc rfl rfl
  | revise c r r' hc hr => exact hv.update hc rfl rfl hr.place
  | close c r n hc => exact hv.update hc rfl rfl ⟨rfl, rfl⟩
  | reopen c r p hc => exact hv.update hc rfl rfl ⟨rfl, rfl⟩
  | clear c r hc => exact hv.update hc rfl rfl ⟨rfl, rfl⟩
  | enqueue c r r' hc hr => exact hv.update hc rfl rfl hr.place
  | start l c rest r hl hq hc => exact hv.update hc rfl rfl ⟨rfl, rfl⟩
  | leave l c r r' hl hc hr => exact hv.update hc rfl rfl hr.place
  | dequeue | vacate | record | grow | fill | stop | finish | retire | purge => exact hv.of_eq rfl fun _ => rfl
  | reset => exact ⟨by simp [empty], by simp [empty], by simp [empty, list]⟩

/-! ### References -/

/-- A chapter refers to a take (R9). -/
def refers (v : View) (k : TakeId) (c : ChapterId) : Bool := (v.chapter c).any fun r => (heldTakes r).contains k

/-- How many chapters refer to a take. -/
def count (v : View) (k : TakeId) : Nat := (List.finRange 64).countP (v.refers k)

/-- The law of references (R9). -/
structure ReferenceLaw (v : View) : Prop where
  counted : ∀ k f, v.take k = some f → f.refs = v.count k ∧ (0 < f.refs → f.state = .closed)
  free : ∀ k, v.take k = none → ∀ c, v.refers k c = false

/-- Two predicates that differ at one member only of a list without repeats: how their counts differ. -/
theorem countP_of_eq_off {α : Type} [DecidableEq α] {p q : α → Bool} {l : List α} {a : α} (hn : l.Nodup) (ha : a ∈ l)
    (h : ∀ b, b ≠ a → p b = q b) : l.countP p + (q a).toNat = l.countP q + (p a).toNat := by
  induction l with
  | nil => simp at ha
  | cons b rest ih =>
    obtain ⟨hb, hn⟩ := List.nodup_cons.mp hn
    rw [List.countP_cons, List.countP_cons]
    by_cases hab : a = b
    · subst hab
      have : rest.countP p = rest.countP q :=
        List.countP_congr fun x hx => by rw [h x fun e => hb (e ▸ hx)]
      cases p a <;> cases q a <;> simp [this]
    · have := ih hn (by simpa [hab] using ha)
      rw [h b fun e => hab e.symm]
      omega

/-- One record replaced: how the count of a take changes. -/
theorem count_setChapter (v : View) (c : ChapterId) (o : Option Chapter) (k : TakeId) :
    (v.setChapter c o).count k + (v.refers k c).toNat =
      v.count k + (o.any fun r => (heldTakes r).contains k).toNat := by
  have := countP_of_eq_off (p := (v.setChapter c o).refers k) (q := v.refers k) (List.nodup_finRange 64)
    (List.mem_finRange c) fun d hd => by simp [refers, hd]
  simpa [refers, count] using this

/-- The same takes and the same references. -/
theorem ReferenceLaw.of_eq (h : ReferenceLaw v)
    (hk : ∀ k, (w.take k).map (fun f => (f.state, f.refs)) = (v.take k).map fun f => (f.state, f.refs))
    (hr : ∀ k c, w.refers k c = v.refers k c) : ReferenceLaw w := by
  have hcount (k) : w.count k = v.count k := by rw [count, count, funext (hr k)]
  refine ⟨fun k f hf => ?_, fun k hw c => ?_⟩
  · have hk := hk k
    rw [hf] at hk
    obtain ⟨g, hg, hgf⟩ := Option.map_eq_some_iff.mp hk.symm
    obtain ⟨hs, hn⟩ := Prod.mk.inj hgf
    rw [hcount, ← hs, ← hn]
    exact h.counted k g hg
  · rw [hr]
    refine h.free k ?_ c
    have hk := hk k
    rw [hw] at hk
    exact Option.map_eq_none_iff.mp hk.symm

/-- One record replaced whose references stay. -/
theorem ReferenceLaw.setChapter (h : ReferenceLaw v) {c : ChapterId} {r r' : Chapter} (hc : v.chapter c = some r)
    (ht : heldTakes r' = heldTakes r) : ReferenceLaw (v.setChapter c (some r')) :=
  h.of_eq (fun _ => rfl) fun k d => by
    by_cases hd : d = c
    · subst hd
      simp [refers, hc, ht]
    · simp [refers, hd]

/-- Reordering a title leaves the references. -/
theorem ReferenceLaw.reorder (h : ReferenceLaw v) (t : TitleNo) (cs : List ChapterId) : ReferenceLaw (v.reorder t cs) :=
  h.of_eq (fun k => by simp) fun k c => by
    obtain ⟨q, hq⟩ := v.reorder_chapter t cs c
    unfold refers
    rw [hq, Option.any_map]
    rfl

/-- A chapter lets its references go (R9). -/
theorem ReferenceLaw.release (h : ReferenceLaw v) {c : ChapterId} {r : Chapter} {o : Option Chapter}
    (hc : v.chapter c = some r) (ho : ∀ x, o = some x → heldTakes x = []) :
    ReferenceLaw ((v.dropRefs (heldTakes r)).setChapter c o) := by
  have none (k) : (o.any fun r => (heldTakes r).contains k) = false := by
    cases o with
    | none => rfl
    | some x => simp [ho x rfl]
  have old (k) : v.refers k c = decide (k ∈ heldTakes r) := by simp [refers, hc]
  refine ⟨fun k f hf => ?_, fun k hk d => ?_⟩
  · have count : (v.setChapter c o).count k + (v.refers k c).toNat = v.count k := by
      rw [count_setChapter, none k]
      rfl
    obtain ⟨g, hg, rfl⟩ := Option.map_eq_some_iff.mp hf
    obtain ⟨hn, hs⟩ := h.counted k g hg
    rw [old] at count
    have same : ((v.dropRefs (heldTakes r)).setChapter c o).count k = (v.setChapter c o).count k := rfl
    rw [same]
    by_cases hm : k ∈ heldTakes r
    · simp only [hm, decide_true, Bool.toNat_true, if_true] at count ⊢
      exact ⟨by omega, fun h => hs (by omega)⟩
    · simp only [hm, decide_false, Bool.toNat_false, if_false] at count ⊢
      exact ⟨by omega, hs⟩
  · have hk : v.take k = .none := Option.map_eq_none_iff.mp hk
    by_cases hd : d = c
    · subst hd
      simpa [refers] using none k
    · simpa [refers, hd] using h.free k hk d

/-- A closed script's takes gain a reference (R9, R18). -/
theorem ReferenceLaw.close (h : ReferenceLaw v) {c : ChapterId} {r r' : Chapter} (hc : v.chapter c = some r)
    (hr : heldTakes r = []) {ts : List TakeId} (hts : heldTakes r' = ts)
    (hk : ∀ k ∈ ts, ∃ f, v.take k = some f ∧ f.state = .closed) :
    ReferenceLaw ((v.setChapter c (some r')).addRefs ts) := by
  subst hts
  have old (k) : v.refers k c = false := by simp [refers, hc, hr]
  refine ⟨fun k f hf => ?_, fun k hw d => ?_⟩
  · have count := count_setChapter v c (some r') k
    rw [old] at count
    obtain ⟨g, hg, rfl⟩ := Option.map_eq_some_iff.mp hf
    obtain ⟨hn, hs⟩ := h.counted k g hg
    have same : ((v.setChapter c (some r')).addRefs (heldTakes r')).count k = (v.setChapter c (some r')).count k := rfl
    rw [same]
    by_cases hm : k ∈ heldTakes r'
    · obtain ⟨g', hg', hcl⟩ := hk k hm
      have hg : v.take k = some g := hg
      rw [hg] at hg'
      cases hg'
      simp only [hm, if_true, Option.any_some, List.contains_eq_mem, decide_true, Bool.toNat_true, Bool.toNat_false] at count ⊢
      exact ⟨by omega, fun _ => hcl⟩
    · simp only [hm, if_false, Option.any_some, List.contains_eq_mem, decide_false, Bool.toNat_false] at count ⊢
      exact ⟨by omega, hs⟩
  · have unused : v.take k = none := Option.map_eq_none_iff.mp hw
    have hm : k ∉ heldTakes r' := fun hm => by
      obtain ⟨f, hf, -⟩ := hk k hm
      simp [unused] at hf
    by_cases hd : d = c
    · simp [refers, hd, hm]
    · simpa [refers, hd] using h.free k unused d

/-- A take whose record or state changes while no chapter refers to it. -/
theorem ReferenceLaw.setTake (h : ReferenceLaw v) {k : TakeId} {o : Option TakeFacts} (h0 : v.count k = 0)
    (ho : ∀ f, o = some f → f.refs = 0) : ReferenceLaw (v.setTake k o) := by
  have count (j) : (v.setTake k o).count j = v.count j := rfl
  refine ⟨fun j f hf => ?_, fun j hj c => ?_⟩
  · rw [count]
    by_cases hjk : j = k
    · subst hjk
      have hf := ho f (by simpa using hf)
      rw [hf, h0]
      exact ⟨rfl, by simp⟩
    · exact h.counted j f (by simpa [hjk] using hf)
  · by_cases hjk : j = k
    · subst hjk
      have := List.countP_eq_zero.mp h0 c (List.mem_finRange c)
      simpa [refers] using this
    · exact h.free j (by simpa [hjk] using hj) c

theorem count_eq_zero_of_forall {k : TakeId} (h : ∀ c, v.refers k c = false) : v.count k = 0 :=
  List.countP_eq_zero.mpr fun c _ => by simp [h c]

end View

end Sys2Proof.Machine

/-! The law of streams (R26), references under the changes of takes, and the law of lengths (R36, R57); then the laws of
the manual as laws of the view. -/

namespace Sys2Proof.Machine

namespace View

variable {H : Prop} {v w : View}

/-! ### Streams -/

/-- The law of streams (R26, R38). -/
structure StreamLaw (v : View) : Prop where
  take : ∀ p st, v.stream p = some st → ∃ f, v.take st.take = some f ∧ f.port = some p ∧
    f.state = if st.closing then .closing else .capturing
  stream : ∀ k f, v.take k = some f →
    if f.state = .closed then f.port = none else ∃ p st, v.stream p = some st ∧ st.take = k

/-- The same streams, and takes with the same state and port. -/
theorem StreamLaw.of_eq (h : StreamLaw v) (hs : w.stream = v.stream)
    (hk : ∀ k, (w.take k).map (fun f => (f.state, f.port)) = (v.take k).map fun f => (f.state, f.port)) :
    StreamLaw w := by
  have same {a b : View} {k : TakeId} {f : TakeFacts}
      (hk : (a.take k).map (fun f => (f.state, f.port)) = (b.take k).map fun f => (f.state, f.port))
      (hf : a.take k = some f) : ∃ g, b.take k = some g ∧ g.state = f.state ∧ g.port = f.port := by
    rw [hf] at hk
    obtain ⟨g, hg, hgf⟩ := Option.map_eq_some_iff.mp hk.symm
    exact ⟨g, hg, (Prod.mk.inj hgf).1, (Prod.mk.inj hgf).2⟩
  refine ⟨fun p st hp => ?_, fun k f hf => ?_⟩
  · rw [hs] at hp
    obtain ⟨f, hf, hfp, hfs⟩ := h.take p st hp
    obtain ⟨g, hg, hgs, hgp⟩ := same (hk st.take).symm hf
    exact ⟨g, hg, hgp.trans hfp, hgs.trans hfs⟩
  · obtain ⟨g, hg, hgs, hgp⟩ := same (hk k) hf
    rw [hs, ← hgs, ← hgp]
    exact h.stream k g hg

/-- The take of a CAPTURING stream. -/
theorem StreamLaw.capturing (h : StreamLaw v) {p : Port} {k : TakeId} (hp : v.stream p = some ⟨k, false⟩) :
    ∃ f, v.take k = some f ∧ f.port = some p ∧ f.state = .capturing := by
  simpa using h.take p _ hp

/-- A stream and its take replaced together, the take closed where the stream goes. -/
theorem StreamLaw.replace (h : StreamLaw v) {p : Port} {k : TakeId} {b : Bool} {f' : TakeFacts}
    {o : Option StreamFacts} (hp : v.stream p = some ⟨k, b⟩)
    (hf : (∃ c, o = some ⟨k, c⟩ ∧ f'.port = some p ∧ f'.state = if c then .closing else .capturing) ∨
      (o = none ∧ f'.state = .closed ∧ f'.port = none)) :
    StreamLaw ((v.setTake k (some f')).setStream p o) := by
  obtain ⟨f, hk, hkp, hks⟩ := h.take p _ hp
  have other {q : Port} {st : StreamFacts} (hq : q ≠ p) (hst : v.stream q = some st) : st.take ≠ k := fun e => by
    obtain ⟨g, hg, hgq, -⟩ := h.take q st hst
    rw [e, hk] at hg
    cases hg
    exact hq (Option.some.inj (hgq.symm.trans hkp))
  refine ⟨fun q st hst => ?_, fun j g hg => ?_⟩
  · by_cases hq : q = p
    · subst hq
      have hst : o = some st := by simpa using hst
      rcases hf with ⟨c, rfl, hfp, hfs⟩ | ⟨rfl, -, -⟩
      · cases hst
        exact ⟨f', by simp, hfp, hfs⟩
      · simp at hst
    · have hst : v.stream q = some st := by simpa [hq] using hst
      simpa [other hq hst] using h.take q st hst
  · by_cases hj : j = k
    · subst hj
      obtain rfl : f' = g := by simpa using hg
      rcases hf with ⟨c, rfl, -, hfs⟩ | ⟨rfl, hfs, hfp⟩
      · have hne : f'.state ≠ .closed := by rw [hfs]; split <;> simp
        rw [if_neg hne]
        exact ⟨p, ⟨j, c⟩, by simp, rfl⟩
      · rw [if_pos hfs]
        exact hfp
    · have hg : v.take j = some g := by simpa [hj] using hg
      have law := h.stream j g hg
      split at law
      · rw [if_pos ‹_›]
        exact law
      · rw [if_neg ‹_›]
        obtain ⟨q, st, hst, rfl⟩ := law
        have hq : q ≠ p := fun e => by
          subst e
          rw [hp] at hst
          cases hst
          exact hj rfl
        exact ⟨q, st, by simpa [hq] using hst, rfl⟩

/-- Every change keeps the law of streams (R26). -/
theorem Change.streamLaw (h : Change H v w) (hv : StreamLaw v) : StreamLaw w := by
  have refs (n : TakeId → Nat → Nat) (k : TakeId) :
      ((v.take k).map fun f => { f with refs := n k f.refs }).map (fun f => (f.state, f.port)) =
        (v.take k).map fun f => (f.state, f.port) := by rw [Option.map_map]; rfl
  cases h with
  | define | drop | revise | enqueue | dequeue | vacate | start | leave => exact hv.of_eq rfl fun _ => rfl
  | create => exact hv.of_eq (by simp) fun k => by simp
  | dismiss => exact hv.of_eq (by simp) fun k => by simp
  | move => exact hv.of_eq (by simp) fun k => by simp
  | free c r =>
    refine hv.of_eq (by simp) fun k => ?_
    rw [reorder_take]
    exact refs (fun k n => if k ∈ heldTakes r then n - 1 else n) k
  | close c r => exact hv.of_eq rfl (refs fun k n => if k ∈ namedTakes r.slots then n + 1 else n)
  | reopen c r => exact hv.of_eq rfl (refs fun k n => if k ∈ heldTakes r then n - 1 else n)
  | clear c r => exact hv.of_eq rfl (refs fun k n => if k ∈ heldTakes r then n - 1 else n)
  | record p k hk hp =>
    refine ⟨fun q st hst => ?_, fun j g hg => ?_⟩
    · by_cases hq : q = p
      · subst hq
        obtain rfl : (⟨k, false⟩ : StreamFacts) = st := by simpa using hst
        exact ⟨⟨.capturing, some q, 0, 0⟩, by simp, rfl, rfl⟩
      · have hst : v.stream q = some st := by simpa [hq] using hst
        obtain ⟨f, hf, hfp, hfs⟩ := hv.take q st hst
        have hne : st.take ≠ k := fun e => by simp [e, hk] at hf
        exact ⟨f, by simpa [hne] using hf, hfp, hfs⟩
    · by_cases hj : j = k
      · subst hj
        obtain rfl : (⟨.capturing, some p, 0, 0⟩ : TakeFacts) = g := by simpa using hg
        exact ⟨p, ⟨j, false⟩, by simp, rfl⟩
      · have law := hv.stream j g (by simpa [hj] using hg)
        split at law
        · rw [if_pos ‹_›]
          exact law
        · rw [if_neg ‹_›]
          obtain ⟨q, st, hst, rfl⟩ := law
          have hq : q ≠ p := fun e => by simp [e, hp] at hst
          exact ⟨q, st, by simpa [hq] using hst, rfl⟩
  | grow p k hp =>
    refine hv.of_eq rfl fun j => ?_
    by_cases hj : j = k
    · subst hj
      rw [View.setTake_take, Function.update_self, Option.map_map]
      rfl
    · simp [hj]
  | fill p k hp =>
    obtain ⟨f, hf, hfp, hfs⟩ := hv.capturing hp
    rw [hf]
    exact hv.replace hp (.inl ⟨true, rfl, hfp, rfl⟩)
  | stop p k hp =>
    obtain ⟨f, hf, hfp, hfs⟩ := hv.capturing hp
    rw [hf]
    exact hv.replace hp (.inl ⟨true, rfl, hfp, rfl⟩)
  | finish p k hp =>
    obtain ⟨f, hf, -⟩ := hv.take p _ hp
    have hf : v.take k = some f := hf
    rw [hf]
    exact hv.replace hp (.inr ⟨rfl, rfl, rfl⟩)
  | retire k f hk hs hr =>
    refine ⟨fun q st hst => ?_, fun j g hg => ?_⟩
    · obtain ⟨g, hg, hgp, hgs⟩ := hv.take q st hst
      have hne : st.take ≠ k := fun e => by
        rw [e, hk] at hg
        cases hg
        rw [hs] at hgs
        split at hgs <;> simp at hgs
      exact ⟨g, by simpa [hne] using hg, hgp, hgs⟩
    · by_cases hj : j = k
      · simp [hj] at hg
      · exact hv.stream j g (by simpa [hj] using hg)
  | purge hc => exact ⟨by simp, by simp⟩
  | reset => exact ⟨by simp [empty], by simp [empty]⟩

/-! ### References, with the law of streams -/

/-- A view that differs in titles, streams, queue and lanes only. -/
theorem ReferenceLaw.of_take_chapter (h : ReferenceLaw v) (hk : w.take = v.take) (hc : w.chapter = v.chapter) :
    ReferenceLaw w :=
  h.of_eq (fun k => by rw [hk]) fun k c => by simp [refers, hc]

/-- A take that is not CLOSED is referred to by none. -/
theorem ReferenceLaw.count_eq_zero (h : ReferenceLaw v) {k : TakeId} {f : TakeFacts} (hk : v.take k = some f)
    (hs : f.state ≠ .closed) : v.count k = 0 := by
  obtain ⟨hn, hc⟩ := h.counted k f hk
  have : ¬ 0 < f.refs := fun h => hs (hc h)
  omega

/-- A capture's change of its own take: the take was not CLOSED, so no chapter refers to it. -/
theorem ReferenceLaw.capture (h : ReferenceLaw v) {k : TakeId} {f f' : TakeFacts} (hk : v.take k = some f)
    (hw : w.take = Function.update v.take k (some f')) (hc : w.chapter = v.chapter) (hs : f.state ≠ .closed)
    (hr : f'.refs = f.refs) : ReferenceLaw w := by
  have h0 := h.count_eq_zero hk hs
  refine ReferenceLaw.of_take_chapter (v := v.setTake k (some f')) (h.setTake h0 ?_) hw hc
  rintro _ ⟨⟩
  rw [hr, (h.counted k f hk).1, h0]

theorem heldTakes_of_assembling {r : Chapter} (h : r.state = .assembling) : heldTakes r = [] := if_pos h

theorem heldTakes_of_ne {r : Chapter} (h : r.state ≠ .assembling) : heldTakes r = namedTakes r.slots := if_neg h

/-- A cleared script names no take (R21). -/
theorem namedTakes_blank : namedTakes (Vector.replicate 32 Step.blank) = [] := by decide

/-- A revision leaves a chapter's references. -/
theorem Revises.heldTakes {c : ChapterId} {r r' : Chapter} (h : Revises H v c r r') : heldTakes r' = heldTakes r := by
  cases h with
  | claim p hs => rfl
  | unclaim => rfl
  | script slots n hs hn => rw [heldTakes_of_assembling hs, heldTakes_of_assembling (by exact hs)]
  | publish hs => rw [heldTakes_of_ne (r := r) (by simp [hs]), heldTakes_of_ne (by simp)]
  | collect hs hk => rw [heldTakes_of_ne (r := r) (by simp [hs]), heldTakes_of_ne (by simp)]
  | cancel hs hn => rw [heldTakes_of_ne (r := r) (by rcases hs with h | h <;> simp [h]), heldTakes_of_ne (by simp)]

theorem Enqueues.heldTakes {r r' : Chapter} (hH : H) (h : Enqueues H r r') : heldTakes r' = heldTakes r := by
  cases h with
  | render hs =>
    rw [heldTakes_of_ne (r := r) (by rcases hs hH with h | h | h <;> simp [h]), heldTakes_of_ne (by simp)]
  | auto hs => rw [heldTakes_of_ne (r := r) (by simp [hs]), heldTakes_of_ne (by simp)]

theorem Leaves.heldTakes {r r' : Chapter} (hs : r.state = .rendering) (h : Leaves r r') :
    heldTakes r' = heldTakes r := by
  rw [heldTakes_of_ne (r := r) (by simp [hs])]
  cases h <;> exact heldTakes_of_ne (by simp)

/-- Every change keeps the law of references (R9). -/
theorem Change.referenceLaw (h : Change H v w) (hH : H) (hh : HeldLaw v) (hs : StreamLaw v)
    (hf : v.Records ClearedFits) (hv : ReferenceLaw v) : ReferenceLaw w := by
  cases h with
  | define | drop | dequeue | vacate => exact hv.of_take_chapter rfl rfl
  | create t c q p ht hl hc =>
    have made : ReferenceLaw (v.setChapter c (some (freshChapter t q p))) := by
      refine hv.of_eq (fun _ => rfl) fun k d => ?_
      by_cases hd : d = c
      · subst hd
        simp [refers, hc, freshChapter, Machine.heldTakes]
      · simp [refers, hd]
    exact made.reorder _ _
  | move c r q hc => exact hv.reorder _ _
  | free c r hc hn => exact (hv.release hc (by simp)).reorder _ _
  | dismiss c r hc hst hk =>
    have none : heldTakes r = [] := by
      rw [heldTakes_of_ne (by simp [hst]), (hf c r hc hk).2]
      exact namedTakes_blank
    have removed := hv.release hc (o := .none) (by simp)
    rw [none, dropRefs_nil] at removed
    exact removed.reorder _ _
  | revise c r r' hc hr => exact hv.setChapter hc hr.heldTakes
  | close c r n hc hs hlo hhi hk => exact hv.close hc (heldTakes_of_assembling hs) rfl hk
  | reopen c r p hc => exact hv.release hc (by rintro x ⟨⟩; exact heldTakes_of_assembling rfl)
  | clear c r hc hst =>
    refine hv.release hc ?_
    rintro x ⟨⟩
    rw [heldTakes_of_ne (by simp [hst])]
    exact namedTakes_blank
  | enqueue c r r' hc hr => exact (hv.setChapter hc (hr.heldTakes hH)).of_take_chapter rfl rfl
  | start l c rest r hl hq hc =>
    have hst : r.state = .queued := by
      obtain ⟨x, hx, hxs⟩ := hh.queued c (by simp [hq])
      rw [hc] at hx
      cases hx
      exact hxs
    refine (hv.setChapter hc (r' := { r with state := .rendering }) ?_).of_take_chapter rfl rfl
    rw [heldTakes_of_ne (r := r) (by simp [hst]), heldTakes_of_ne (by simp)]
  | leave l c r r' hl hc hr =>
    have hst : r.state = .rendering := by
      obtain ⟨x, hx, hxs⟩ := hh.rendering l c hl
      rw [hc] at hx
      cases hx
      exact hxs
    exact (hv.setChapter hc (hr.heldTakes hst)).of_take_chapter rfl rfl
  | record p k hk hp =>
    exact (hv.setTake (count_eq_zero_of_forall (hv.free k hk)) (by rintro _ ⟨⟩; rfl)).of_take_chapter rfl rfl
  | grow p k hp =>
    obtain ⟨f, hf, -, hfs⟩ := hs.capturing hp
    rw [hf]
    exact hv.capture hf rfl rfl (by simp [hfs]) rfl
  | fill p k hp =>
    obtain ⟨f, hf, -, hfs⟩ := hs.capturing hp
    rw [hf]
    exact hv.capture hf rfl rfl (by simp [hfs]) rfl
  | stop p k hp =>
    obtain ⟨f, hf, -, hfs⟩ := hs.capturing hp
    rw [hf]
    exact hv.capture hf rfl rfl (by simp [hfs]) rfl
  | finish p k hp =>
    obtain ⟨f, hf, -, hfs⟩ := hs.take p _ hp
    have hf : v.take k = some f := hf
    rw [hf]
    exact hv.capture hf rfl rfl (by simp [hfs]) rfl
  | retire k f hk hst hr => exact hv.setTake ((hv.counted k f hk).1.symm.trans hr) (by simp)
  | purge hc =>
    refine ⟨by simp, fun k _ c => ?_⟩
    cases hcc : v.chapter c with
    | none => simp [refers, hcc]
    | some r => simp [refers, hcc, hc c r hcc]
  | reset => exact ⟨by simp [empty], by simp [empty, refers]⟩

/-! ### Lengths -/

/-- A take holds at most 2^28 samples, a CAPTURING one fewer (R36). -/
def TakeLengthLaw (v : View) : Prop :=
  ∀ k f, v.take k = some f → f.length ≤ 2 ^ 28 ∧ (f.state = .capturing → f.length < 2 ^ 28)

/-- An assembled length is from one meter block to 2^28 samples (R57). -/
def AssembledLaw (v : View) : Prop :=
  ∀ c r, v.chapter c = some r → ∀ n, r.assembled = some n → blockLength (v.rate r.title) ≤ n ∧ n ≤ 2 ^ 28

/-- Takes that keep state and length. -/
theorem TakeLengthLaw.of_eq (h : TakeLengthLaw v)
    (hk : ∀ k, (w.take k).map (fun f => (f.state, f.length)) = (v.take k).map fun f => (f.state, f.length)) :
    TakeLengthLaw w := by
  intro k f hf
  have hk := hk k
  rw [hf] at hk
  obtain ⟨g, hg, hgf⟩ := Option.map_eq_some_iff.mp hk.symm
  obtain ⟨hs, hl⟩ := Prod.mk.inj hgf
  rw [← hs, ← hl]
  exact h k g hg

theorem TakeLengthLaw.update (h : TakeLengthLaw v) {k : TakeId} {o : Option TakeFacts}
    (hw : w.take = Function.update v.take k o)
    (ho : ∀ f, o = some f → f.length ≤ 2 ^ 28 ∧ (f.state = .capturing → f.length < 2 ^ 28)) : TakeLengthLaw w := by
  intro j f hf
  rw [hw] at hf
  by_cases hj : j = k
  · subst hj
    exact ho f (by simpa using hf)
  · exact h j f (by simpa [hj] using hf)

/-- Every change keeps the takes' lengths in range (R36). -/
theorem Change.takeLengthLaw (h : Change H v w) (hs : StreamLaw v) (hv : TakeLengthLaw v) : TakeLengthLaw w := by
  have refs (n : TakeId → Nat → Nat) (k : TakeId) :
      ((v.take k).map fun f => { f with refs := n k f.refs }).map (fun f => (f.state, f.length)) =
        (v.take k).map fun f => (f.state, f.length) := by rw [Option.map_map]; rfl
  cases h with
  | define | drop | revise | enqueue | dequeue | vacate | start | leave => exact hv.of_eq fun _ => rfl
  | create => exact hv.of_eq fun k => by simp
  | dismiss => exact hv.of_eq fun k => by simp
  | move => exact hv.of_eq fun k => by simp
  | free c r =>
    refine hv.of_eq fun k => ?_
    rw [reorder_take]
    exact refs (fun k n => if k ∈ heldTakes r then n - 1 else n) k
  | close c r => exact hv.of_eq (refs fun k n => if k ∈ namedTakes r.slots then n + 1 else n)
  | reopen c r => exact hv.of_eq (refs fun k n => if k ∈ heldTakes r then n - 1 else n)
  | clear c r => exact hv.of_eq (refs fun k n => if k ∈ heldTakes r then n - 1 else n)
  | record p k hk hp => exact hv.update (k := k) rfl (by rintro _ ⟨⟩; simp)
  | grow p k hp hn =>
    refine hv.update (k := k) rfl fun g hg => ?_
    obtain ⟨f, hf, rfl⟩ := Option.map_eq_some_iff.mp hg
    have := hn f hf
    exact ⟨by simp only; omega, fun _ => this⟩
  | fill p k hp =>
    obtain ⟨f, hf, -, hfs⟩ := hs.capturing hp
    have := (hv k f hf).2 hfs
    refine hv.update (k := k) rfl ?_
    rw [hf]
    rintro _ ⟨⟩
    exact ⟨by simp only; omega, by simp⟩
  | stop p k hp =>
    refine hv.update (k := k) rfl fun g hg => ?_
    obtain ⟨f, hf, rfl⟩ := Option.map_eq_some_iff.mp hg
    exact ⟨(hv k f hf).1, by simp⟩
  | finish p k hp =>
    refine hv.update (k := k) rfl fun g hg => ?_
    obtain ⟨f, hf, rfl⟩ := Option.map_eq_some_iff.mp hg
    exact ⟨(hv k f hf).1, by simp⟩
  | retire k f hk => exact hv.update (k := k) rfl (by simp)
  | purge hc => intro k f hf; simp at hf
  | reset => intro k f hf; simp [empty] at hf

/-- A title with chapters keeps its rate (R2, R5). -/
theorem Change.rate (h : Change H v w) (hv : PositionLaw v) {c : ChapterId} {r : Chapter} (hc : w.chapter c = some r) :
    w.rate r.title = v.rate r.title := by
  have reordered {u : View} (hu : u.title = v.title) (t cs) : (u.reorder t cs).rate r.title = v.rate r.title := by
    by_cases ht : r.title = t
    · subst ht
      simp [View.rate, hu, Function.comp_def]
    · simp [View.rate, hu, ht]
  cases h with
  | define t rate ht =>
    have hne := hv.no_chapter (t := t) (by simp [list, ht]) hc
    simp [View.rate, hne]
  | drop t rate ht =>
    have hne := hv.no_chapter (t := t) (by simp [list, ht]) hc
    simp [View.rate, hne]
  | create => exact reordered (by rfl) _ _
  | move => exact reordered (by rfl) _ _
  | free => exact reordered (by rfl) _ _
  | dismiss => exact reordered (by rfl) _ _
  | reset => simp [empty] at hc
  | _ => rfl

/-- Every change keeps the assembled lengths in range (R57). -/
theorem Change.assembledLaw (h : Change H v w) (hh : HeldLaw v) (hp : PositionLaw v) (hv : AssembledLaw v) :
    AssembledLaw w := by
  intro c r' hc n hn
  rw [h.rate hp hc]
  rcases h.origin hh hc with ⟨r, hr, ho⟩ | ⟨t, q, p, rfl⟩
  · rw [ho.title]
    cases ho with
    | closed m hs hlo hhi =>
      cases hn
      exact ⟨hlo, hhi⟩
    | reopened => cases hn
    | revised x h => cases h <;> exact hv c r hr n hn
    | enqueued x h => cases h <;> exact hv c r hr n hn
    | left x hs h => cases h <;> exact hv c r hr n hn
    | _ => exact hv c r hr n hn
  · cases hn

end View

/-! ### The laws of the manual are laws of the view -/

variable {s t : State}

@[simp] theorem view_rate (k : TitleNo) : (view s).rate k = titleRate s k := by
  unfold titleRate
  cases h : s.titles[k.val] <;> simp [View.rate, view, h, Title.facts]

theorem positionLaw_iff : PositionLaw s ↔ (view s).PositionLaw := by
  have title (k : TitleNo) : (view s).title k = none ↔ s.titles[k] = none := Option.map_eq_none_iff
  constructor
  · rintro ⟨h1, h2, h3⟩
    refine ⟨fun k f hf => ?_, fun c r hr => ?_, fun k c n => ?_⟩
    · obtain ⟨r, hr, rfl⟩ := Option.map_eq_some_iff.mp hf
      exact h1 k r hr
    · rw [Ne, title]
      exact h2 c r hr
    · rw [view_list, Ne, title]
      exact h3 k c n
  · rintro ⟨h1, h2, h3⟩
    refine ⟨fun k r hr => h1 k r.facts (Option.map_eq_some_iff.mpr ⟨r, hr, rfl⟩), fun c r hr => ?_, fun k c n => ?_⟩
    · have := h2 c r hr
      rwa [Ne, title] at this
    · have := h3 k c n
      rwa [view_list, Ne, title] at this

theorem streamLaw_iff : StreamLaw s ↔ (view s).StreamLaw := by
  have take {k : TakeId} {f : TakeFacts} : (view s).take k = some f ↔ ∃ r, s.takes[k] = some r ∧ r.facts = f :=
    Option.map_eq_some_iff
  have stream {p : Port} {f : StreamFacts} : (view s).stream p = some f ↔ ∃ st, s.captures[p] = some st ∧ st.facts = f :=
    Option.map_eq_some_iff
  constructor
  · rintro ⟨h1, h2⟩
    refine ⟨fun p f hf => ?_, fun k f hf => ?_⟩
    · obtain ⟨st, hst, rfl⟩ := stream.mp hf
      obtain ⟨r, hr, hrp, hrs⟩ := h1 p st hst
      exact ⟨r.facts, take.mpr ⟨r, hr, rfl⟩, hrp, hrs⟩
    · obtain ⟨r, hr, rfl⟩ := take.mp hf
      have h := h2 k r hr
      split at h
      · rw [if_pos (by assumption)]
        exact h
      · rw [if_neg (by assumption)]
        obtain ⟨p, st, hst, hk⟩ := h
        exact ⟨p, st.facts, stream.mpr ⟨st, hst, rfl⟩, hk⟩
  · rintro ⟨h1, h2⟩
    refine ⟨fun p st hst => ?_, fun k r hr => ?_⟩
    · obtain ⟨f, hf, hfp, hfs⟩ := h1 p st.facts (stream.mpr ⟨st, hst, rfl⟩)
      obtain ⟨r, hr, rfl⟩ := take.mp hf
      exact ⟨r, hr, hfp, hfs⟩
    · have h := h2 k r.facts (take.mpr ⟨r, hr, rfl⟩)
      split at h
      · rw [if_pos (by assumption)]
        exact h
      · rw [if_neg (by assumption)]
        obtain ⟨p, f, hf, hk⟩ := h
        obtain ⟨st, hst, rfl⟩ := stream.mp hf
        exact ⟨p, st, hst, hk⟩

theorem refersTo_eq (k : TakeId) (c : ChapterId) : refersTo s k c = (view s).refers k c := by
  unfold refersTo View.refers heldTakes
  cases h : s.chapters[c.val] with
  | none => simp [view, h]
  | some r => by_cases hs : r.state = .assembling <;> simp [view, h, hs]

theorem referenceLaw_iff : ReferenceLaw s ↔ (view s).ReferenceLaw ∧ (view s).Records View.ClearedFits := by
  refine and_congr ?_ Iff.rfl
  have take {k : TakeId} {f : TakeFacts} : (view s).take k = some f ↔ ∃ r, s.takes[k] = some r ∧ r.facts = f :=
    Option.map_eq_some_iff
  have count (k : TakeId) : ((List.finRange 64).filter (refersTo s k)).length = (view s).count k := by
    rw [View.count, List.countP_eq_length_filter, funext (refersTo_eq k)]
  constructor
  · intro h
    refine ⟨fun k f hf => ?_, fun k hk c => ?_⟩
    · obtain ⟨r, hr, rfl⟩ := take.mp hf
      have := h k
      rw [hr] at this
      rw [← count]
      exact this
    · have := h k
      rw [show s.takes[k] = none from Option.map_eq_none_iff.mp hk] at this
      rw [← refersTo_eq]
      exact this c
  · intro h k
    cases hr : s.takes[k] with
    | none =>
      intro c
      rw [refersTo_eq]
      exact h.free k (Option.map_eq_none_iff.mpr hr) c
    | some r =>
      have := h.counted k r.facts (take.mpr ⟨r, hr, rfl⟩)
      rw [← count] at this
      exact this

theorem lengthLaw_iff : LengthLaw s ↔ (view s).TakeLengthLaw ∧ (view s).AssembledLaw := by
  refine and_congr ⟨fun h k f hf => ?_, fun h k r hr => ?_⟩ (by simp only [View.AssembledLaw, view_rate]; exact Iff.rfl)
  · obtain ⟨r, hr, rfl⟩ := Option.map_eq_some_iff.mp hf
    exact h k r hr
  · exact h k r.facts (Option.map_eq_some_iff.mpr ⟨r, hr, rfl⟩)

theorem claimLaw_iff : ClaimLaw s ↔ (view s).Records View.Claimed := Iff.rfl

theorem cursorLaw_iff : CursorLaw s ↔ (view s).Records View.CursorFits := Iff.rfl

theorem presenceLaw_iff : PresenceLaw s ↔ (view s).Records View.Present := Iff.rfl

end Sys2Proof.Machine

/-! The commands as chains of catalogue changes, part one: what follows from an event, the ports, and the operations that
several requests share. -/

namespace Sys2Proof.Machine

open View

variable {H : Prop} {s t : State}

theorem path_of_eq {v w : View} (h : w = v) : Path H v w := h ▸ .refl

/-! ### Consequences -/

/-- A vector entry that is none reads none in the view. -/
theorem view_lane_of_some {l : Lane} {j : Job} (h : s.lanes[l] = some j) : (view s).lane l = some j.chapter := by
  have h : s.lanes[l.val] = some j := h
  simp [view, h]

theorem view_lane_of_none {l : Lane} (h : s.lanes[l] = none) : (view s).lane l = none := by
  have h : s.lanes[l.val] = none := h
  simp [view, h]

/-- A lane's job goes, and its chapter's record changes with it; without a record only the lane changes. -/
theorem path_leave {l : Lane} {c : ChapterId} {f : Chapter → Chapter} {v : View} (hl : v.lane l = some c)
    (hf : ∀ r, Leaves r (f r)) : Path H v ((v.setLane l none).setChapter c ((v.chapter c).map f)) := by
  cases hc : v.chapter c with
  | none =>
    have h : (v.setLane l none).setChapter c none = v.setLane l none :=
      View.ext rfl rfl rfl (by simp [← hc]) rfl rfl
    rw [Option.map_none, h]
    exact (Change.vacate l).path
  | some r => exact (Change.leave l c r (f r) hl hc (hf r)).path

/-- A job starts on the head entry's chapter, or ends at once with TOO_LONG (R88, R97). -/
theorem path_start {l : Lane} {e : Entry} {rest : List Entry} (hl : s.lanes[l] = none) (hq : s.queue = e :: rest) :
    Path H (view s)
      (view (beginJob l e.chapter e.origin (enterState e.chapter .rendering .started (setQueue rest s)))) := by
  have hlane := view_lane_of_none hl
  have hqueue : (view s).queue = e.chapter :: rest.map (·.chapter) := by simp [view, hq]
  unfold beginJob
  split
  · rename_i hc
    have hc : (view (enterState e.chapter .rendering .started (setQueue rest s))).chapter e.chapter = none := hc
    have hc : (view s).chapter e.chapter = none := by simpa using hc
    have h : view (enterState e.chapter .rendering .started (setQueue rest s)) =
        (view s).setQueue (rest.map (·.chapter)) := by
      refine View.ext ?_ ?_ ?_ ?_ ?_ ?_ <;> simp [hc]
    rw [h]
    exact (Change.dequeue _ (by simp [hqueue])).path
  · rename_i r' hr'
    have hr' : (view (enterState e.chapter .rendering .started (setQueue rest s))).chapter e.chapter = some r' := hr'
    obtain ⟨r, hr, rfl⟩ : ∃ r, (view s).chapter e.chapter = some r ∧ { r with state := .rendering } = r' := by
      simpa using hr'
    have start := (Change.start (H := H) l e.chapter _ r hlane hqueue hr).path
    dsimp only
    split
    · generalize partialResult _ _ = g
      have ended := path_leave (H := H) (l := l) (c := e.chapter) (f := fun r => { r with result := some g, state := .rejected })
        (v := ((((view s).setChapter e.chapter (some { r with state := .rendering })).setQueue
          (rest.map (·.chapter))).setLane l (some e.chapter))) (by simp) fun r => .rejected g
      refine (start.trans ended).trans (path_of_eq ?_)
      refine View.ext ?_ ?_ ?_ ?_ ?_ ?_ <;> simp [hr]
    · refine start.trans (path_of_eq ?_)
      refine View.ext ?_ ?_ ?_ ?_ ?_ ?_ <;> simp [hr, freshJob]

/-- A single consequence is a chain of catalogue changes, mostly an empty one. -/
theorem Consequence.path (h : Consequence s t) : Path H (view s) (view t) := by
  cases h with
  | store f => exact .refl
  | fetch p f hf => exact .refl
  | chain k b => exact path_of_eq (view_modTake_same s k fun _ => rfl)
  | fifo p n => exact path_of_eq (view_modStream_same s p fun _ => rfl)
  | job l f hf => exact path_of_eq (view_modJob_same s l hf)
  | post n => exact path_of_eq (view_broadcast s n)
  | start l e rest hl hq => exact path_start hl hq
  | abort l j hl =>
    rw [view_enterState, view_clearLane]
    exact path_leave (view_lane_of_some hl) fun _ => .ready
  | reject l j g cause hl =>
    rw [view_enterState, view_writeResult, view_clearLane]
    refine (path_leave (f := fun r => { r with result := some g, state := .rejected }) (view_lane_of_some hl)
      fun _ => .rejected g).trans (path_of_eq ?_)
    refine View.ext rfl rfl rfl ?_ rfl rfl
    simp [Function.comp_def]

/-- Consequences are chains of catalogue changes. -/
theorem Consequences.path (h : Consequences s t) : Path H (view s) (view t) := by
  induction h with
  | refl => exact .refl
  | tail _ hu ih => exact ih.trans hu.path

theorem path_settle (s : State) : Path H (view s) (view (settle s)) := (consequences_settle s).path

theorem path_lanesTake (s : State) : Path H (view s) (view (lanesTake s)) := (consequences_lanesTake s).path

/-- What the lanes take, and then what follows in the store. -/
theorem path_settleTake (s : State) : Path H (view s) (view (settle (lanesTake s))) :=
  (path_lanesTake s).trans (path_settle _)

/-! ### Ports -/

@[simp] theorem view_commit_eq (s t : State) : view (commit s t) = view (settle t) := view_attend _ s

/-- A commit adds the consequences to a chain. -/
theorem path_commit {u : State} (h : Path H (view s) (view t)) : Path H (view s) (view (commit u t)) := by
  rw [view_commit_eq]
  exact h.trans (path_settle t)

@[simp] theorem view_receive (p : Port) (bytes : List Byte) (s : State) : view (receive p bytes s) = view s := by
  unfold receive
  split
  · dsimp only
    split
    · rfl
    · split
      · rfl
      · split <;> rfl
  · rfl

@[simp] theorem view_setTransfer (p : Port) (x : Transfer) (s : State) : view (setTransfer p x s) = view s := rfl
@[simp] theorem view_setSent (p : Port) (bytes : List Byte) (s : State) : view (setSent p bytes s) = view s := rfl
@[simp] theorem view_fillSlot (p : Port) (r : Response) (s : State) : view (fillSlot p r s) = view s := rfl

@[simp] theorem view_endTransaction (p : Port) (s : State) : view (endTransaction p s) = view s := by
  unfold endTransaction
  split
  · simp
  · rfl
  · rfl

@[simp] theorem view_ended (p : Port) (s : State) : view (ended p s) = view s := by simp [ended]

@[simp] theorem view_opened (p : Port) (kept : State → Transfer) (s : State) : view (opened p kept s) = view s := by
  simp [opened]

@[simp] theorem view_wholeRequest (p : Port) (bytes : List Byte) (s : State) :
    view (wholeRequest p bytes s) = view s := by
  simp [wholeRequest, openRequest, endRequest]

@[simp] theorem view_answer (p : Port) (k : ReqKind) (discard : Bool) (r : Reply) :
    view (answer p k discard r) = view r.state := by
  unfold answer
  split <;> rfl

/-- A command's answer, where it is a next state, is reached by catalogue changes. -/
def Leads (H : Prop) (s : State) (a : Answer) : Prop := ∀ t, a = .next t → Path H (view s) (view t)

theorem leads_next (h : Path H (view s) (view t)) : Leads H s (.next t) := by
  rintro _ ⟨⟩
  exact h

theorem leads_same (h : view t = view s) : Leads H s (.next t) := leads_next (path_of_eq h)

/-- A request row is the work of its block, on this state or on one with the same catalogue (R185). -/
theorem leads_request {p : Port} {k : ReqKind} {params : List Byte} {act : State → Reply}
    (h : ∀ u, view u = view s → Path H (view u) (view (act u).state)) : Leads H s (request p k params act s) := by
  unfold request
  split
  · split
    · refine leads_next ?_
      rw [view_attend, view_answer]
      exact h s rfl
    · exact leads_same (by simp)
  · have whole : view (wholeRequest p (requestBytes k params) s) = view s := view_wholeRequest _ _ _
    dsimp only
    split
    · refine leads_next ?_
      rw [view_attend, view_answer, ← whole]
      exact h _ whole
    · exact leads_same whole

/-- A transaction row whose work leaves the catalogue. -/
theorem leads_transact {p : Port} {sent : State → List Byte} {act : State → State}
    (h : ∀ u, view (act u) = view u) : Leads H s (transact p sent act s) :=
  leads_same (by rw [view_attend, h, view_setSent, view_ended])

/-- The later moment of a transaction whose work leaves the catalogue. -/
theorem leads_later {α : Type} {p : Port} {kind : Byte} {kept : Transfer → Option α} {opening : State → State}
    {act : α → State → State} (ho : ∀ u, view (opening u) = view u) (h : ∀ a u, view (act a u) = view u) :
    Leads H s (later p kind kept opening act s) := by
  unfold later
  split
  · exact leads_same rfl
  · split
    · exact leads_same (by rw [view_attend, h])
    · dsimp only
      split
      · exact leads_same (by rw [view_attend, h, ho])
      · exact leads_same (ho s)

/-! ### Chapters off the render path -/

theorem view_chapter (c : ChapterId) : (view s).chapter c = s.chapters[c] := rfl

/-- The lane that holds a chapter holds it. -/
theorem view_lane_of_laneOf {c : ChapterId} {l : Lane} (h : laneOf s c = some l) : (view s).lane l = some c := by
  have := List.find?_some h
  simp only [Fin.getElem_fin] at this
  split at this
  · rename_i j hj
    have hc : j.chapter = c := by simpa using this
    simp [view, hj, hc]
  · simp at this

/-- Where no lane is found, none holds the chapter. -/
theorem view_lane_of_laneOf_none {c : ChapterId} (h : laneOf s c = none) (l : Lane) : (view s).lane l ≠ some c := by
  intro hl
  have hm : l ∈ allLanes := by fin_cases l <;> simp [allLanes]
  have := List.find?_eq_none.mp h l hm
  obtain ⟨j, hj, hc⟩ := Option.map_eq_some_iff.mp hl
  simp [hj, hc] at this

/-- An abort gives up the lane, if one holds the chapter (R105). -/
theorem view_abortJobOf (c : ChapterId) (s : State) :
    view (abortJobOf c s) = ((laneOf s c).map fun l => (view s).setLane l none).getD (view s) := by
  unfold abortJobOf
  cases laneOf s c with
  | none => rfl
  | some l => exact view_clearLane s

theorem path_abortJobOf (c : ChapterId) (s : State) : Path H (view s) (view (abortJobOf c s)) := by
  rw [view_abortJobOf]
  cases laneOf s c with
  | none => exact .refl
  | some l => exact (Change.vacate l).path

/-- After an abort no lane holds the chapter (R87, R105). -/
theorem lane_abortJobOf (hh : HeldLaw (view s)) (c : ChapterId) (l : Lane) :
    (view (abortJobOf c s)).lane l ≠ some c := by
  rw [view_abortJobOf]
  cases hl : laneOf s c with
  | none => exact view_lane_of_laneOf_none hl l
  | some m =>
    by_cases hlm : l = m
    · simp [hlm]
    · have hm := view_lane_of_laneOf hl
      intro h
      exact hlm (hh.lanes l m c (by simpa [hlm] using h) hm)

theorem chapter_abortJobOf (c : ChapterId) (s : State) : (view (abortJobOf c s)).chapter = (view s).chapter := by
  rw [view_abortJobOf]
  cases laneOf s c <;> rfl

/-- A chapter taken out of the queue and out of its lane (R16, R19, R92). -/
def offRenderPath (c : ChapterId) (s : State) : State :=
  abortJobOf c (setQueue (s.queue.filter fun e => e.chapter != c) s)

theorem letGo_eq (c : ChapterId) (s : State) : letGo c s = releaseOutput c (offRenderPath c s) := rfl

theorem path_offRenderPath (c : ChapterId) (s : State) : Path H (view s) (view (offRenderPath c s)) := by
  refine Relation.ReflTransGen.trans (Change.path ?_) (path_abortJobOf c _)
  rw [view_setQueue]
  exact Change.dequeue _ (List.Sublist.map _ List.filter_sublist)

theorem chapter_offRenderPath (c : ChapterId) (s : State) :
    (view (offRenderPath c s)).chapter = (view s).chapter := chapter_abortJobOf c _

theorem notHeld_offRenderPath (hh : HeldLaw (view s)) (c : ChapterId) : (view (offRenderPath c s)).NotHeld c := by
  have dequeued : HeldLaw (view (setQueue (s.queue.filter fun e => e.chapter != c) s)) := by
    rw [view_setQueue]
    exact (Change.dequeue (H := True) _ (List.Sublist.map _ List.filter_sublist)).heldLaw trivial hh
  refine ⟨?_, lane_abortJobOf dequeued c⟩
  have hq : (view (offRenderPath c s)).queue = (s.queue.filter fun e => e.chapter != c).map (·.chapter) := by
    unfold offRenderPath
    rw [view_abortJobOf]
    cases laneOf _ c <;> rfl
  rw [hq]
  simp

/-- A record whose output has been let go (R10). -/
def withoutOutput (r : Chapter) : Chapter := { r with result := r.result.map fun g => { g with output := none } }

theorem withoutOutput_of_none {r : Chapter} (h : ownedOutput r = none) : withoutOutput r = r := by
  unfold withoutOutput
  cases hr : r.result with
  | none => rw [Option.map_none, ← hr]
  | some g =>
    have : g.output = none := by simpa [ownedOutput, hr] using h
    rw [Option.map_some, ← this, ← hr]

@[simp] theorem view_releaseOutput (c : ChapterId) (s : State) :
    view (releaseOutput c s) = (view s).setChapter c (((view s).chapter c).map withoutOutput) := by
  unfold releaseOutput
  split
  · rw [view_detach, view_release, view_modChapter]
    rfl
  · rename_i h
    refine View.ext rfl rfl rfl ?_ rfl rfl
    have same : ((view s).chapter c).map withoutOutput = (view s).chapter c := by
      cases hc : (view s).chapter c with
      | none => rfl
      | some r =>
        have hc : s.chapters[c] = some r := hc
        rw [hc] at h
        rw [Option.map_some, withoutOutput_of_none h]
    rw [setChapter_chapter, same, Function.update_eq_self]

/-! ### Freeing a chapter -/

theorem renumber_setChapter_none (v : View) (n : Nat) (cs : List ChapterId) (c : ChapterId) :
    (v.renumber n cs).setChapter c none = (v.setChapter c none).renumber n cs := by
  induction cs generalizing n v with
  | nil => rfl
  | cons d rest ih =>
    rw [renumber, renumber, ih]
    congr 1
    refine View.ext rfl rfl rfl ?_ rfl rfl
    by_cases hd : d = c
    · subst hd
      simp
    · simp only [setChapter_chapter, Function.update_of_ne hd]
      rw [Function.update_comm hd]

theorem reorder_setChapter_none (v : View) (t : TitleNo) (cs : List ChapterId) (c : ChapterId) :
    (v.reorder t cs).setChapter c none = (v.setChapter c none).reorder t cs := renumber_setChapter_none _ 1 cs c

/-- A chapter that is off the render path lets its output and its references go and is freed (R19, R84). -/
theorem path_freed {c : ChapterId} (hn : H → (view s).NotHeld c) :
    Path H (view s) (view (freeChapter c (releaseReferences c (releaseOutput c s)))) := by
  cases hc : (view s).chapter c with
  | none =>
    have gone : (view (releaseOutput c s)).chapter c = none := by simp [hc]
    have record : (releaseOutput c s).chapters[c] = none := gone
    have kept : releaseReferences c (releaseOutput c s) = releaseOutput c s := by simp only [releaseReferences, record]
    have same : freeChapter c (releaseOutput c s) = releaseOutput c s := by simp only [freeChapter, record]
    rw [kept, same, view_releaseOutput]
    exact path_of_eq (View.ext rfl rfl rfl (by rw [hc, Option.map_none, setChapter_chapter, ← hc, Function.update_eq_self])
      rfl rfl)
  | some r =>
    have record : (view (releaseOutput c s)).chapter c = some (withoutOutput r) := by simp [hc]
    have dropped := view_releaseReferences _ record
    rw [view_freeChapter _ (r := withoutOutput r) (by rw [dropped]; exact record), dropped, reorder_setChapter_none,
      view_releaseOutput, hc]
    refine (Change.free c r hc hn).path.trans (path_of_eq ?_)
    congr 1
    exact View.ext rfl rfl rfl (by simp) rfl rfl

end Sys2Proof.Machine

/-! The commands as chains of catalogue changes, part two: the requests on titles, chapters, scripts and the render
unit. -/

namespace Sys2Proof.Machine

open View

variable {H : Prop} {s t : State}

/-! ### Titles -/

theorem view_title (k : TitleNo) : (view s).title k = s.titles[k].map Title.facts := rfl

theorem path_defineTitle (params : List Byte) (s : State) :
    Path H (view s) (view (defineTitle params s).state) := by
  unfold defineTitle
  split
  · split
    · exact .refl
    · split
      · exact .refl
      · rename_i k rate _ _ _ _ _ _ _ hk
        have hk : s.titles[k] = none := by simpa using hk
        rw [accept, view_setTitle]
        exact (Change.define k rate (by rw [view_title, hk]; rfl)).path
  · exact .refl

theorem path_dropTitle (params : List Byte) (s : State) : Path H (view s) (view (dropTitle params s).state) := by
  unfold dropTitle
  split
  · exact .refl
  · split
    · exact .refl
    · split
      · exact .refl
      · rename_i k _ _ _ r hk
        split
        · exact .refl
        · rename_i he
          have he : r.chapters = [] := (not_or.mp he).2 |> not_not.mp
          rw [accept, view_setTitle]
          refine (Change.drop k r.rate ?_).path
          rw [view_title, hk, ← he]
          rfl

/-- A title's new settings are none of its facts. -/
theorem view_setTitle_same {k : TitleNo} {r r' : Title} (hk : s.titles[k] = some r) (h : r'.facts = r.facts) :
    view (setTitle k (some r') s) = view s := by
  rw [view_setTitle]
  have hk : (view s).title k = some r'.facts := by rw [view_title, hk, Option.map_some, h]
  exact View.ext (by rw [setTitle_title, Option.map_some, ← hk, Function.update_eq_self]) rfl rfl rfl rfl rfl

theorem path_setTitleProfile (params : List Byte) (s : State) :
    Path H (view s) (view (setTitleProfile params s).state) := by
  unfold setTitleProfile
  split
  · split
    · exact .refl
    · split
      · exact .refl
      · rename_i hk
        exact path_of_eq (view_setTitle_same hk rfl)
  · exact .refl

/-! ### Requests that report -/

theorem path_reportTitle (params : List Byte) (s : State) : Path H (view s) (view (reportTitle params s).state) := by
  unfold reportTitle
  split
  · exact .refl
  · split
    · exact .refl
    · split <;> exact .refl

theorem path_reportChapter (params : List Byte) (s : State) :
    Path H (view s) (view (reportChapter params s).state) := by
  unfold reportChapter
  split
  · exact .refl
  · split
    · exact .refl
    · split <;> exact .refl

theorem path_reportTake (params : List Byte) (s : State) : Path H (view s) (view (reportTake params s).state) := by
  unfold reportTake
  split
  · exact .refl
  · dsimp only
    split
    · exact .refl
    · split
      · exact .refl
      · split <;> exact .refl

theorem path_reportLevels (params : List Byte) (s : State) : Path H (view s) (view (reportLevels params s).state) := by
  unfold reportLevels
  split <;> exact .refl

theorem path_reportStore (params : List Byte) (s : State) : Path H (view s) (view (reportStore params s).state) := by
  unfold reportStore
  split <;> exact .refl

theorem path_reportQueue (params : List Byte) (s : State) : Path H (view s) (view (reportQueue params s).state) := by
  unfold reportQueue
  split <;> exact .refl

theorem path_deviceInfo (p : Port) (params : List Byte) (s : State) :
    Path H (view s) (view (deviceInfo p params s).state) := by
  unfold deviceInfo
  split <;> exact .refl

theorem path_subscribe (p : Port) (params : List Byte) (s : State) :
    Path H (view s) (view (subscribe p params s).state) := by
  unfold subscribe
  dsimp only
  split <;> exact .refl

theorem path_readProfile (params : List Byte) (s : State) : Path H (view s) (view (readProfile params s).state) := by
  unfold readProfile
  split
  · exact .refl
  · split <;> exact .refl

theorem path_writeProfile (params : List Byte) (s : State) : Path H (view s) (view (writeProfile params s).state) := by
  unfold writeProfile
  split
  · exact .refl
  · split <;> exact .refl

/-! ### Streams on sources -/

theorem path_openReply (p : Port) (src : StreamSource) (length offset : Nat) (title : TitleNo) (s : State) :
    Path H (view s) (view (openReply p src length offset title s).state) :=
  path_settle (dropStream p (.active ⟨src, length, offset % length, [], none⟩) s)

theorem path_streamOpen (p : Port) (params : List Byte) (s : State) :
    Path H (view s) (view (streamOpen p params s).state) := by
  unfold streamOpen
  split
  · exact .refl
  · split
    · split
      · exact .refl
      · unfold openOutput
        split
        · exact .refl
        · split
          · exact .refl
          · exact path_openReply ..
    · split
      · exact .refl
      · unfold openTakeStream
        split
        · exact .refl
        · split
          · exact path_openReply ..
          · exact .refl
    · exact .refl

theorem path_streamClose (p : Port) (params : List Byte) (s : State) :
    Path H (view s) (view (streamClose p params s).state) := by
  unfold streamClose
  split <;> exact .refl

/-! ### Chapters -/

/-- A free record is found where the first free one is (R8, R14). -/
theorem getElem_firstFree {α : Type} {n : Nat} {v : Vector (Option α) n} {i : Fin n} (h : firstFree v = some i) :
    v[i] = none := by
  simpa using List.find?_some h

theorem path_createChapter (p : Port) (params : List Byte) (s : State) :
    Path H (view s) (view (createChapter p params s).state) := by
  unfold createChapter
  split
  · exact .refl
  · split
    · exact .refl
    · split
      · exact .refl
      · rename_i k _ _ _ r hk
        split
        · exact .refl
        · rename_i hlen
          split
          · exact .refl
          · rename_i c hc
            have list : (view s).list k = r.chapters := by rw [view_list, chapterList, hk]
            dsimp only [acceptOr]
            rw [view_chapterNotice, view_reorder, view_setChapter, ← list]
            refine (Change.create k c _ p ?_ (by rw [list]; omega) (getElem_firstFree hc)).path
            rw [view_title, hk]
            simp

/-- One record replaced as a revision has it. -/
theorem path_revise {c : ChapterId} {r : Chapter} {f : Chapter → Chapter} (hc : (view s).chapter c = some r)
    (hr : Revises H (view s) c r (f r)) : Path H (view s) ((view s).setChapter c (((view s).chapter c).map f)) := by
  rw [hc]
  exact (Change.revise c r (f r) hc hr).path

theorem path_reopen {p : Port} {c : ChapterId} {r : Chapter} (hH : H → (view s).HeldLaw)
    (hc : (view s).chapter c = some r) (hs : r.state ≠ .assembling) (hp : r.state ≠ .published) :
    Path H (view s) (view (reopen p c s)) := by
  refine Relation.ReflTransGen.trans ?_ (path_settleTake _)
  have hc : (view (offRenderPath c s)).chapter c = some r := by rw [chapter_offRenderPath]; exact hc
  have record : (view (letGo c s)).chapter c = some (withoutOutput r) := by
    rw [letGo_eq, view_releaseOutput, hc]
    simp
  refine (path_offRenderPath c s).trans ((Change.reopen c r p hc hs hp
    fun h => notHeld_offRenderPath (hH h) c).path.trans (path_of_eq ?_))
  rw [view_enterState, view_modChapter, view_releaseReferences _ record, letGo_eq, view_releaseOutput, hc]
  refine View.ext rfl rfl rfl ?_ rfl rfl
  simp [withoutOutput]

theorem path_openChapter (p : Port) (params : List Byte) (hH : H → (view s).HeldLaw) :
    Path H (view s) (view (openChapter p params s).state) := by
  unfold openChapter
  split
  · exact .refl
  · split
    · exact .refl
    · split
      · exact .refl
      · rename_i c _ _ _ r hc
        split
        · rename_i hs
          split
          · rw [accept, view_modChapter]
            exact path_revise hc (.claim p hs)
          · exact .refl
        · exact .refl
        · exact path_reopen hH hc (by assumption) (by assumption)

/-- A step that passes validation names a CLOSED take (R54). -/
theorem closed_of_stepBad {title : TitleNo} {before : Option Nat} {st : Step} (h : stepBad s title before st = none) :
    ∃ t, s.takes[st.take] = some t ∧ t.state = .closed := by
  unfold stepBad at h
  split at h
  · simp at h
  · rename_i t ht
    split at h
    · simp at h
    · split at h
      · simp at h
      · exact ⟨t, ht, not_not.mp (by assumption)⟩

theorem closed_of_checkSteps {title : TitleNo} {k : Nat} {before : Option Nat} {sum n : Nat} {steps : List Step}
    (h : checkSteps s title k before sum steps = .ok n) :
    ∀ st ∈ steps, ∃ t, s.takes[st.take] = some t ∧ t.state = .closed := by
  induction steps generalizing k before sum with
  | nil => simp
  | cons st rest ih =>
    unfold checkSteps at h
    split at h
    · simp at h
    · rename_i hst
      intro x hx
      rcases List.mem_cons.mp hx with rfl | hx
      · exact closed_of_stepBad hst
      · exact ih h x hx

/-- What a valid script gives: its length in range, and CLOSED takes (R53 to R57). -/
theorem validate_ok {title : TitleNo} {slots : Vector Step 32} {n : Nat} (h : validate s title slots = .ok n) :
    blockLength (titleRate s title) ≤ n ∧ n ≤ 2 ^ 28 ∧
      ∀ st ∈ scriptSteps slots, ∃ t, s.takes[st.take] = some t ∧ t.state = .closed := by
  unfold validate at h
  dsimp only at h
  split at h
  · simp at h
  · rename_i sum hsum
    split at h
    · simp at h
    · split at h
      · simp at h
      · split at h
        · simp at h
        · cases h
          rename_i hlo hhi
          exact ⟨not_lt.mp hlo, not_lt.mp hhi, closed_of_checkSteps hsum⟩

/-- The takes named before a script's end are those of its steps (R9). -/
theorem mem_namedTakes {slots : Vector Step 32} {k : TakeId} :
    k ∈ namedTakes slots ↔ ∃ st ∈ scriptSteps slots, st.take = k := by
  rw [namedTakes, List.mem_eraseDups, List.mem_map]

/-- A valid close, without its notice and without what follows (R18). -/
theorem path_closeRecord {c : ChapterId} {r : Chapter} {n : Nat} (hc : (view s).chapter c = some r)
    (hs : r.state = .assembling) (hn : validate s r.title r.slots = .ok n) :
    Path H (view s) (((view s).setChapter c (some { r with assembled := some n, editor := none, state := .ready })).addRefs
      (namedTakes r.slots)) := by
  obtain ⟨hlo, hhi, hk⟩ := validate_ok hn
  refine (Change.close c r n hc hs (by rw [view_rate]; exact hlo) hhi fun k hm => ?_).path
  obtain ⟨st, hst, rfl⟩ := mem_namedTakes.mp hm
  obtain ⟨t, ht, hts⟩ := hk st hst
  exact ⟨t.facts, Option.map_eq_some_iff.mpr ⟨t, ht, rfl⟩, hts⟩

theorem path_closeValid {p : Port} {c : ChapterId} {r : Chapter} {n : Nat} (hc : (view s).chapter c = some r)
    (hs : r.state = .assembling) (hn : validate s r.title r.slots = .ok n) :
    Path H (view s) (view (closeValid p c r n s)) := by
  have closed := path_closeRecord (H := H) hc hs hn
  have base : view (takeReferences (namedTakes r.slots)
      (modChapter c (fun r => { r with assembled := some n, editor := none }) s)) =
        ((view s).setChapter c (some { r with assembled := some n, editor := none })).addRefs (namedTakes r.slots) := by
    rw [view_takeReferences _ (nodup_namedTakes _), view_modChapter, hc, Option.map_some]
  have ready (cause : Cause) : Path H (view s) (view (enterState c .ready cause (takeReferences (namedTakes r.slots)
      (modChapter c (fun r => { r with assembled := some n, editor := none }) s)))) := by
    refine closed.trans (path_of_eq ?_)
    rw [view_enterState, base]
    refine View.ext rfl rfl rfl ?_ rfl rfl
    simp
  unfold closeValid
  dsimp only
  split
  · split
    · refine (closed.trans ?_).trans (path_settleTake _)
      refine (Change.enqueue c { r with assembled := some n, editor := none, state := .ready } _ (by simp)
        (.auto rfl)).path.trans (path_of_eq ?_)
      have queue : (takeReferences (namedTakes r.slots)
          (modChapter c (fun r => { r with assembled := some n, editor := none }) s)).queue.map (·.chapter) =
            (view s).queue := congrArg View.queue base
      rw [view_enterState, appendEntry, view_setQueue, base, List.map_append, queue]
      refine View.ext rfl rfl rfl ?_ rfl rfl
      simp
    · exact (ready .autoSkipped).trans (path_settle _)
  · exact (ready .closed).trans (path_settle _)

theorem path_closeChapter (p : Port) (params : List Byte) (s : State) :
    Path H (view s) (view (closeChapter p params s).state) := by
  unfold closeChapter
  split
  · exact .refl
  · split
    · exact .refl
    · split
      · exact .refl
      · rename_i c _ _ _ r hc
        split
        · exact .refl
        · rename_i hs
          split
          · exact .refl
          · split
            · exact .refl
            · rename_i n hn
              exact path_closeValid hc (not_not.mp hs) hn

theorem path_discardRecord {c : ChapterId} (hH : H → (view s).HeldLaw) :
    Path H (view s) (view (discardRecord c s)) := by
  refine Relation.ReflTransGen.trans ?_ (path_settleTake _)
  rw [view_chapterNotice, letGo_eq]
  exact (path_offRenderPath c s).trans (path_freed fun h => notHeld_offRenderPath (hH h) c)

theorem path_discardChapter (p : Port) (params : List Byte) (hH : H → (view s).HeldLaw) :
    Path H (view s) (view (discardChapter p params s).state) := by
  unfold discardChapter
  split
  · exact .refl
  · split
    · exact .refl
    · split
      · exact .refl
      · split
        · exact .refl
        · split
          · exact .refl
          · exact path_discardRecord hH

theorem path_moveChapter (params : List Byte) (s : State) : Path H (view s) (view (moveChapter params s).state) := by
  unfold moveChapter
  split
  · exact .refl
  · split
    · exact .refl
    · split
      · exact .refl
      · rename_i c _ _ _ r hc
        dsimp only [acceptOr]
        rw [view_reorder, ← view_list]
        exact (Change.move c r _ hc).path

/-! ### Scripts -/

/-- An editable chapter is one of ASSEMBLING in use (R47). -/
theorem editable_ok {p : Port} {c : ChapterId} {r : Chapter} (h : editable p c s = .ok r) :
    (view s).chapter c = some r ∧ r.state = .assembling := by
  unfold editable at h
  split at h
  · simp at h
  · rename_i hc
    split at h
    · simp at h
    · split at h
      · simp at h
      · cases h
        exact ⟨hc, not_not.mp (by assumption)⟩

theorem path_setCursor {c : ChapterId} {r : Chapter} {n : Nat} (hc : (view s).chapter c = some r)
    (hs : r.state = .assembling) (hn : n ≤ 32) : Path H (view s) (view (setCursor c n s)) := by
  rw [setCursor, view_modChapter]
  exact path_revise hc (.script r.slots n hs hn)

theorem path_pointScript (p : Port) (params : List Byte) (s : State) :
    Path H (view s) (view (pointScript p params s).state) := by
  unfold pointScript
  split
  · exact .refl
  · split
    · exact .refl
    · split
      · exact .refl
      · rename_i he
        obtain ⟨hc, hs⟩ := editable_ok he
        exact path_setCursor hc hs (by omega)

theorem path_writeScript (p : Port) (params : List Byte) (s : State) :
    Path H (view s) (view (writeScript p params s).state) := by
  unfold writeScript
  split
  · split
    · exact .refl
    · split
      · exact .refl
      · rename_i he
        obtain ⟨hc, hs⟩ := editable_ok he
        split
        · exact .refl
        · rw [acceptOr, view_modChapter]
          exact path_revise hc (.script _ _ hs (by omega))
  · exact .refl

theorem path_readScript (p : Port) (params : List Byte) (s : State) :
    Path H (view s) (view (readScript p params s).state) := by
  unfold readScript
  split
  · exact .refl
  · split
    · exact .refl
    · split
      · exact .refl
      · rename_i he
        obtain ⟨hc, hs⟩ := editable_ok he
        split
        · exact path_setCursor hc hs (by omega)
        · exact .refl

/-! ### The render unit -/

theorem path_queueChapter {p : Port} {c : ChapterId} {kind : OriginKind} {r : Chapter}
    (hc : (view s).chapter c = some r) (hs : H → r.state = .ready ∨ r.state = .rendered ∨ r.state = .rejected) :
    Path H (view s) (view (queueChapter c p kind s)) := by
  refine (Change.enqueue c r _ hc (.render hs)).path.trans (path_of_eq ?_)
  have queue : (releaseOutput c s).queue.map (·.chapter) = (view s).queue :=
    congrArg View.queue (view_releaseOutput c s)
  rw [queueChapter, view_enterState, appendEntry, view_setQueue, view_modChapter, view_releaseOutput, modChapter_queue,
    List.map_append, queue, hc]
  refine View.ext rfl rfl rfl ?_ rfl rfl
  simp [withoutOutput]

/-- A job that restarts leaves the catalogue, or ends at once with TOO_LONG (R107). -/
theorem path_restart {p : Port} {c : ChapterId} {l : Lane} {r : Chapter} (hc : (view s).chapter c = some r)
    (hl : laneOf s c = some l) : Path H (view s) (view (beginJob l c p (clearLane l s))) := by
  have lane := view_lane_of_laneOf hl
  have hc' : (clearLane l s).chapters[c] = some r := by
    have : (view (clearLane l s)).chapter c = some r := by rw [view_clearLane]; exact hc
    exact this
  unfold beginJob
  rw [hc']
  dsimp only
  split
  · generalize partialResult _ _ = g
    rw [view_enterState, view_writeResult, view_setLane, view_clearLane]
    refine (path_leave (f := fun r => { r with result := some g, state := .rejected }) lane
      fun r => .rejected g).trans (path_of_eq ?_)
    refine View.ext rfl rfl rfl ?_ rfl ?_ <;> simp [hc]
  · refine path_of_eq ?_
    rw [view_setLane, view_clearLane]
    refine View.ext rfl rfl rfl rfl rfl ?_
    have job (j : Job) (hj : j.chapter = c) : (some j).map (·.chapter) = (view s).lane l := by rw [lane, ← hj]; rfl
    rw [job _ rfl]
    simp

theorem path_renderChapter (p : Port) (params : List Byte) (s : State) :
    Path H (view s) (view (renderChapter p params s).state) := by
  unfold renderChapter
  split
  · exact .refl
  · split
    · exact .refl
    · split
      · exact .refl
      · rename_i c _ _ _ r hc
        split
        · exact .refl
        · exact .refl
        · exact .refl
        · split
          · exact .refl
          · exact (path_restart hc (by assumption)).trans (path_settleTake _)
        · rename_i h1 h2 h3 h4
          split
          · exact .refl
          · refine (path_queueChapter hc fun _ => ?_).trans (path_settleTake _)
            cases hs : r.state <;> simp_all

/-- A set without a fault: chapters in use, in states that may be queued, none twice (R91). -/
theorem setFault_none {before cs : List ChapterId} (h : setFault s before cs = none) :
    cs.Nodup ∧ (∀ c ∈ cs, c ∉ before) ∧ ∀ c ∈ cs, ∃ r, (view s).chapter c = some r ∧
      (r.state = .ready ∨ r.state = .rendered ∨ r.state = .rejected) := by
  induction cs generalizing before with
  | nil => simp
  | cons c rest ih =>
    unfold setFault at h
    split at h
    · simp at h
    · rename_i hcheck
      obtain ⟨hn, hb, hr⟩ := ih h
      have hc : c ∉ before ∧ ∃ r, (view s).chapter c = some r ∧
          (r.state = .ready ∨ r.state = .rendered ∨ r.state = .rejected) := by
        unfold setCheck at hcheck
        split at hcheck
        · simp at hcheck
        · rename_i hbefore
          split at hcheck
          · simp at hcheck
          · rename_i r hr
            refine ⟨by simpa using hbefore, r, hr, ?_⟩
            cases hs : r.state <;> simp_all
      refine ⟨List.nodup_cons.mpr ⟨fun hm => hb c hm (by simp), hn⟩, fun d hd => ?_, fun d hd => ?_⟩
      · rcases List.mem_cons.mp hd with rfl | hd
        · exact hc.1
        · exact fun hm => hb d hd (by simp [hm])
      · rcases List.mem_cons.mp hd with rfl | hd
        · exact hc.2
        · exact hr d hd

/-- What lanes take leaves a chapter that is not held as it is, and not held (R88). -/
theorem lanesTake_notHeld {c : ChapterId} (h : (view s).NotHeld c) :
    (view (lanesTake s)).chapter c = (view s).chapter c ∧ (view (lanesTake s)).NotHeld c := by
  have within : Within (· ≠ c) s := by
    refine within_ne (fun e he hc => h.1 (List.mem_map.mpr ⟨e, he, hc⟩)) fun l j hj hc => h.2 l ?_
    have hj : s.lanes[l.val] = some j := hj
    simp [view, hj, hc]
  have work := work_lanesTake within
  refine ⟨work.chapters c (by simp), fun hm => ?_, fun l hl => ?_⟩
  · obtain ⟨e, he, hc⟩ := List.mem_map.mp hm
    exact work.within.queue e he hc
  · obtain ⟨j, hj, hc⟩ := Option.map_eq_some_iff.mp hl
    exact work.within.lanes l j hj hc

theorem view_queueChapter (p : Port) (c : ChapterId) (kind : OriginKind) (s : State) :
    view (queueChapter c p kind s) = ((view s).setChapter c (((view s).chapter c).map fun r =>
      { r with result := none, state := .queued })).setQueue ((view s).queue ++ [c]) := by
  have queue : (releaseOutput c s).queue.map (·.chapter) = (view s).queue :=
    congrArg View.queue (view_releaseOutput c s)
  rw [queueChapter, view_enterState, appendEntry, view_setQueue, view_modChapter, view_releaseOutput, modChapter_queue,
    List.map_append, queue]
  refine View.ext rfl rfl rfl ?_ rfl rfl
  simp [withoutOutput, Function.comp_def]

/-- The chapters of a set handled in order: a later one is untouched by what the earlier ones bring about (R91). -/
theorem path_queueSet {p : Port} {cs : List ChapterId} (hn : cs.Nodup) (hex : ∀ c ∈ cs, (view s).chapter c ≠ none)
    (hs : H → ∀ c ∈ cs, (view s).NotHeld c ∧ ∃ r, (view s).chapter c = some r ∧
      (r.state = .ready ∨ r.state = .rendered ∨ r.state = .rejected)) :
    Path H (view s) (view (queueSet p s cs)) := by
  induction cs generalizing s with
  | nil => exact .refl
  | cons c rest ih =>
    obtain ⟨hc, hrest⟩ := List.nodup_cons.mp hn
    obtain ⟨r, hr⟩ := Option.ne_none_iff_exists'.mp (hex c (by simp))
    have first := path_queueChapter (H := H) (p := p) (kind := .set) hr fun h => by
      obtain ⟨-, x, hx, hxs⟩ := hs h c (by simp)
      rw [hr] at hx
      cases hx
      exact hxs
    have other {d : ChapterId} (hd : d ∈ rest) : d ≠ c := fun e => hc (e ▸ hd)
    have queued (d : ChapterId) (hd : d ∈ rest) :
        (view (queueChapter c p .set s)).chapter d = (view s).chapter d ∧
          ((view s).NotHeld d → (view (queueChapter c p .set s)).NotHeld d) := by
      rw [view_queueChapter]
      exact ⟨by simp [other hd], fun h => ⟨by simp [h.1, other hd], h.2⟩⟩
    refine (first.trans (path_lanesTake _)).trans (ih hrest (fun d hd => ?_) fun h d hd => ?_)
    · have kept := (work_lanesTake (within_true (queueChapter c p .set s))).records d
      have here : (queueChapter c p .set s).chapters[d.val] ≠ none := by
        have := hex d (by simp [hd])
        rw [← (queued d hd).1] at this
        exact this
      intro hnone
      have hnone : (lanesTake (queueChapter c p .set s)).chapters[d.val] = none := hnone
      rw [hnone, Option.map_none] at kept
      exact here (Option.map_eq_none_iff.mp kept.symm)
    · obtain ⟨hheld, hstate⟩ := hs h d (by simp [hd])
      obtain ⟨same, still⟩ := lanesTake_notHeld ((queued d hd).2 hheld)
      rw [same, (queued d hd).1]
      exact ⟨still, hstate⟩

theorem path_renderSet (p : Port) (params : List Byte) (hH : H → (view s).HeldLaw) :
    Path H (view s) (view (renderSet p params s).state) := by
  unfold renderSet
  split
  · exact .refl
  · split
    · exact .refl
    · split
      · exact .refl
      · rename_i hf
        obtain ⟨hn, -, hr⟩ := setFault_none hf
        split
        · exact .refl
        · refine (path_queueSet hn (fun c hc => ?_) fun h c hc => ?_).trans (path_settle _)
          · obtain ⟨r, hr, -⟩ := hr c hc
            simp [hr]
          · obtain ⟨r, hr, hs⟩ := hr c hc
            exact ⟨(hH h).notHeld hr (by rcases hs with h | h | h <;> simp [h]) (by rcases hs with h | h | h <;> simp [h]),
              r, hr, hs⟩

theorem path_cancelled {c : ChapterId} {r : Chapter} (hH : H → (view s).HeldLaw) (hc : (view s).chapter c = some r)
    (hs : r.state = .queued ∨ r.state = .rendering) : Path H (view s) (view (cancelled c s)) := by
  refine Relation.ReflTransGen.trans ?_ (path_settleTake _)
  have hc : (view (offRenderPath c s)).chapter c = some r := by rw [chapter_offRenderPath]; exact hc
  refine (path_offRenderPath c s).trans ?_
  rw [view_enterState]
  exact path_revise hc (.cancel hs fun h => notHeld_offRenderPath (hH h) c)

theorem path_cancelRender (params : List Byte) (hH : H → (view s).HeldLaw) :
    Path H (view s) (view (cancelRender params s).state) := by
  unfold cancelRender
  split
  · exact .refl
  · split
    · exact .refl
    · split
      · exact .refl
      · rename_i hc
        split
        · exact path_cancelled hH hc (by assumption)
        · exact .refl

theorem path_publish (params : List Byte) (s : State) : Path H (view s) (view (publish params s).state) := by
  unfold publish
  split
  · exact .refl
  · split
    · exact .refl
    · split
      · exact .refl
      · rename_i hc
        split
        · rw [accept, view_enterState]
          exact path_revise hc (.publish (by assumption))
        · exact .refl

theorem path_collected {c : ChapterId} {r : Chapter} (hc : (view s).chapter c = some r) (hs : r.state = .published) :
    Path H (view s) (view (collected c r s)) := by
  refine Relation.ReflTransGen.trans ?_ (path_settle _)
  have record : (view (releaseOutput c s)).chapter c = some (withoutOutput r) := by simp [hc]
  split
  · rename_i hk
    rw [view_chapterNotice, view_freeChapter _ record, reorder_setChapter_none, view_releaseOutput, hc]
    refine (Change.dismiss c r hc hs hk).path.trans (path_of_eq ?_)
    congr 1
    exact View.ext rfl rfl rfl (by simp) rfl rfl
  · rename_i hk
    refine (Change.revise c r _ hc (.collect hs (by simpa using hk))).path.trans (path_of_eq ?_)
    rw [view_enterState, view_modChapter, view_releaseOutput, hc]
    refine View.ext rfl rfl rfl ?_ rfl rfl
    simp [withoutOutput]

theorem path_collect (params : List Byte) (s : State) : Path H (view s) (view (collect params s).state) := by
  unfold collect
  split
  · exact .refl
  · split
    · exact .refl
    · split
      · exact .refl
      · rename_i hc
        split
        · exact path_collected hc (by assumption)
        · exact .refl

end Sys2Proof.Machine

/-! The commands as chains of catalogue changes, part three: the capture unit, the purge, the transactions, the lanes, the
resets; and then every command and every step. -/

namespace Sys2Proof.Machine

open View

variable {H : Prop} {s t : State}

/-! ### The capture unit -/

theorem view_stream_of_some {p : Port} {st : Stream} (h : s.captures[p] = some st) :
    (view s).stream p = some ⟨st.take, st.closing⟩ := by
  have h : s.captures[p.val] = some st := h
  simp [view, h, Stream.facts]

theorem facts_appendMark (m : Mark) (r : Take) : (appendMark m r).facts = r.facts := by
  unfold appendMark
  split <;> rfl

@[simp] theorem view_setGate (p : Port) (g : Gate) (s : State) : view (setGate p g s) = view s := by
  have level (s : State) : view (modLevel p (fun e => { e with gate := g })
      (modStream p (fun st => { st with gate := g }) s)) = view s := view_modStream_same s p fun _ => rfl
  unfold setGate
  split
  · rfl
  · dsimp only
    split
    · exact level s
    · exact (view_modTake_same _ _ fun r => facts_appendMark _ r).trans (level s)

@[simp] theorem view_endRun (p : Port) (detail : Nat) (s : State) : view (endRun p detail s) = view s := by
  unfold endRun
  split
  · rfl
  · split
    · rfl
    · rw [view_notify, view_modTake_same _ _ fun r => facts_appendMark _ r]
      exact view_modStream_same s p fun _ => rfl

@[simp] theorem view_dropSample (p : Port) (s : State) : view (dropSample p s) = view s := by
  unfold dropSample
  split
  · rfl
  · refine (view_modTake_same _ _ fun _ => ?_).trans (view_modStream_same s p fun _ => ?_) <;> rfl

@[simp] theorem view_advancePosition (p : Port) (s : State) : view (advancePosition p s) = view s := by
  unfold advancePosition
  split
  · rfl
  · exact view_modStream_same s p fun _ => rfl

@[simp] theorem view_liveBlockDue (p : Port) (s : State) : view (liveBlockDue p s) = view s := by
  unfold liveBlockDue
  split
  · rfl
  · split
    · rfl
    · dsimp only
      split
      · exact view_modStream_same s p fun _ => rfl
      · rfl

/-- A take one sample longer. -/
def grown (k : TakeId) (v : View) : View := v.setTake k ((v.take k).map fun f => { f with length := f.length + 1 })

/-- A take and its stream stopped. -/
def stopped (p : Port) (k : TakeId) (v : View) : View :=
  (v.setTake k ((v.take k).map fun f => { f with state := .closing })).setStream p (some ⟨k, true⟩)

theorem view_keepSample {p : Port} {x : Sample} {k : TakeId} {b : Bool} (hp : (view s).stream p = some ⟨k, b⟩) :
    view (keepSample p x s) = grown k (view s) := by
  rw [← view_endRun p 0 s] at hp
  unfold keepSample
  dsimp only
  split
  · rename_i h
    have h : (endRun p 0 s).captures[p.val] = none := h
    simp [view, h] at hp
  · rename_i st h
    have hk : st.take = k := congrArg StreamFacts.take (Option.some.inj ((view_stream_of_some h).symm.trans hp))
    rw [view_modLevel, view_modTake _ (fun f => { f with length := f.length + 1 }) (fun _ => rfl), hk]
    have fed : view (modStream p (fun st => liveFeed x { st with fifo := st.fifo ++ [x] }) (endRun p 0 s)) = view s := by
      rw [← view_endRun p 0 s]
      exact view_modStream_same _ p fun _ => rfl
    exact congrArg (grown k) fed

/-- A sample that passes leaves the catalogue, or makes the take one sample longer (R29, R32). -/
theorem view_passSample {p : Port} {x : Sample} {k : TakeId} {b : Bool} (hp : (view s).stream p = some ⟨k, b⟩) :
    view (passSample p x s) = view s ∨ view (passSample p x s) = grown k (view s) := by
  unfold passSample
  split
  · exact .inl rfl
  · rename_i st _
    have compared : view (setGate p (compared st).1
        (modStream p (fun st' => { st' with a := (Machine.compared st).2.1, b := (Machine.compared st).2.2 }) s)) = view s := by
      rw [view_setGate]
      exact view_modStream_same s p fun _ => rfl
    dsimp only
    rw [view_advancePosition]
    split
    · exact .inl compared
    · split
      · right
        rw [view_keepSample (k := k) (b := b) (by rw [compared]; exact hp), compared]
      · left
        rw [view_dropSample]
        exact compared

/-- A take that has drained is closed (R38). -/
theorem path_takeClosedDue (p : Port) (s : State) : Path H (view s) (view (takeClosedDue p s)) := by
  unfold takeClosedDue
  split
  · exact .refl
  · rename_i st hst
    split
    · rename_i hd
      have hcl : st.closing = true := by
        have hst : s.captures[p.val] = some st := hst
        simp only [drained, Fin.getElem_fin, hst, Bool.and_eq_true] at hd
        exact hd.1.1
      have hp := view_stream_of_some hst
      rw [hcl] at hp
      dsimp only
      rw [view_notify, view_modLevel, view_setStream,
        view_modTake _ (fun f => { f with state := .closed, port := none }) (fun _ => rfl)]
      exact (Change.finish p st.take hp).path
    · exact .refl

/-- A stop: take and stream are stopped, and closed at once where nothing is left to drain (R38). -/
theorem path_stopStream {p : Port} {k : TakeId} {b : Bool} (reason : StopReason) (hp : (view s).stream p = some ⟨k, b⟩) :
    Path H (stopped p k (view s)) (view (stopStream p reason s)) := by
  unfold stopStream
  split
  · rename_i h
    have h : s.captures[p.val] = none := h
    simp [view, h] at hp
  · rename_i st h
    have hk : st.take = k := congrArg StreamFacts.take (Option.some.inj ((view_stream_of_some h).symm.trans hp))
    have shut : view (endRun p 1 (modLevel p (fun e => { e with gate := .shut })
        (modStream p (fun st => { st with gate := .shut }) s))) = view s := by
      rw [view_endRun]
      exact view_modStream_same s p fun _ => rfl
    refine (path_of_eq ?_).trans (path_takeClosedDue p _)
    rw [view_modStream _ (fun f => { f with closing := true }) (fun _ => rfl),
      view_modTake _ (fun f => { f with state := .closing }) (fun _ => rfl), shut, hk]
    refine View.ext rfl rfl ?_ rfl rfl rfl
    simp [stopped, hp]

theorem path_stop {p : Port} {k : TakeId} (reason : StopReason) (hp : (view s).stream p = some ⟨k, false⟩) :
    Path H (view s) (view (stopStream p reason s)) :=
  (Change.stop p k hp).path.trans (path_stopStream reason hp)

theorem view_limitStop {p : Port} {k : TakeId} {b : Bool} (reason : StopReason) (hp : (view s).stream p = some ⟨k, b⟩) :
    view (limitStop p reason s) = view (stopStream p reason s) := by
  unfold limitStop
  split
  · rename_i h
    have h : s.captures[p.val] = none := h
    simp [view, h] at hp
  · rfl

theorem path_positionLimitDue (p : Port) (s : State) : Path H (view s) (view (positionLimitDue p s)) := by
  unfold positionLimitDue
  split
  · exact .refl
  · rename_i st hst
    split
    · rename_i h
      have hp : (view s).stream p = some ⟨st.take, false⟩ := by rw [view_stream_of_some hst]; simpa using h.1
      rw [view_limitStop _ hp]
      exact path_stop _ hp
    · exact .refl

theorem path_takeFullDue (p : Port) (s : State) : Path H (view s) (view (takeFullDue p s)) := by
  unfold takeFullDue
  split
  · exact .refl
  · rename_i st hst
    split
    · rename_i h
      have hp : (view s).stream p = some ⟨st.take, false⟩ := by rw [view_stream_of_some hst]; simpa using h.1
      rw [view_limitStop _ hp]
      exact path_stop _ hp
    · exact .refl

/-- A take's length as the limit check reads it. -/
theorem view_take_length {k : TakeId} {f : TakeFacts} (h : (view s).take k = some f) :
    ((s.takes[k]).map (·.length)).getD 0 = f.length := by
  obtain ⟨r, hr, rfl⟩ := Option.map_eq_some_iff.mp h
  have hr : s.takes[k] = some r := hr
  rw [hr]
  rfl

/-- A take that has just grown is in range, or is stopped at once (R36). -/
theorem path_grown {p : Port} {k : TakeId} {v : View} (hp : v.stream p = some ⟨k, false⟩) (hs : view s = grown k v) :
    Path H v (view (takeFullDue p s)) := by
  have hps : (view s).stream p = some ⟨k, false⟩ := by rw [hs]; exact hp
  obtain ⟨st, hst, hfacts⟩ := Option.map_eq_some_iff.mp hps
  have hst : s.captures[p] = some st := hst
  obtain ⟨hk, hcl⟩ : st.take = k ∧ st.closing = false :=
    ⟨congrArg StreamFacts.take hfacts, congrArg StreamFacts.closing hfacts⟩
  unfold takeFullDue
  rw [hst]
  dsimp only
  split
  · rw [view_limitStop _ hps]
    refine (Change.fill p k hp).path.trans ((path_of_eq ?_).trans (path_stopStream .takeFull hps))
    rw [hs]
    refine View.ext rfl ?_ rfl rfl rfl rfl
    simp [stopped, grown, Function.comp_def]
  · rename_i hfull
    rw [hs]
    refine (Change.grow p k hp fun f hf => ?_).path
    have longer : (view s).take k = some { f with length := f.length + 1 } := by rw [hs]; simp [grown, hf]
    have := view_take_length longer
    simp only [hk, hcl, this, Bool.not_false, true_and] at hfull
    exact not_le.mp hfull

theorem path_sampleArrives (p : Port) (x : Sample) (s : State) : Path H (view s) (view (sampleArrives p x s)) := by
  unfold sampleArrives
  split
  · exact .refl
  · rename_i st hst
    split
    · exact .refl
    · rename_i hcl
      have hp : (view s).stream p = some ⟨st.take, false⟩ := by rw [view_stream_of_some hst]; simpa using hcl
      refine Relation.ReflTransGen.trans ?_ (path_positionLimitDue p _)
      rcases view_passSample (x := x) hp with h | h
      · exact (path_of_eq (by rw [view_liveBlockDue, h])).trans (path_takeFullDue p (liveBlockDue p (passSample p x s)))
      · exact path_grown hp (by rw [view_liveBlockDue, h])

theorem path_startTake (p : Port) (params : List Byte) (s : State) :
    Path H (view s) (view (startTake p params s).state) := by
  unfold startTake
  split
  · exact .refl
  · split
    · exact .refl
    · split
      · exact .refl
      · rename_i hfree
        split
        · exact .refl
        · split
          · exact .refl
          · rename_i k hk
            have hp : (view s).stream p = none := by
              have hfree : s.captures[p.val] = none := by simpa using hfree
              simp [view, hfree]
            have hk : (view s).take k = none := Option.map_eq_none_iff.mpr (getElem_firstFree hk)
            refine (Change.record p k hk hp).path.trans (path_of_eq ?_)
            rw [accept, openTake, view_modLevel, view_setStream, view_setTake]
            rw [view_modTitle_same s (f := fun r => { r with takeCount := r.takeCount + 1 }) _ fun _ => rfl]
            rfl

theorem view_setPunch (p : Port) (a b inc : Word32) (write : Nat) (s : State) :
    view (setPunch p a b inc write s) = view s := by
  have replaced : view (modStream p (fun st => { st with a := a, b := b, inc := inc }) s) = view s :=
    view_modStream_same s p fun _ => rfl
  unfold setPunch
  dsimp only
  split
  · exact replaced
  · rw [view_setGate, replaced]

theorem path_setGateValues (p : Port) (params : List Byte) (s : State) :
    Path H (view s) (view (setGateValues p params s).state) := by
  unfold setGateValues
  dsimp only
  split
  · exact .refl
  · split
    · exact .refl
    · exact path_of_eq (view_setPunch ..)

theorem view_stream_of_capturing {p : Port} {st : Stream} (h : capturingStream s p = some st) :
    (view s).stream p = some ⟨st.take, false⟩ := by
  obtain ⟨hst, hcl⟩ := Option.filter_eq_some_iff.mp h
  rw [view_stream_of_some hst]
  simpa using hcl

theorem path_stopTake (p : Port) (params : List Byte) (s : State) :
    Path H (view s) (view (stopTake p params s).state) := by
  unfold stopTake
  split
  · exact .refl
  · split
    · exact .refl
    · rename_i hst
      exact (path_stop .requested (view_stream_of_capturing hst)).trans (path_settle _)

theorem path_retireTake (params : List Byte) (s : State) : Path H (view s) (view (retireTake params s).state) := by
  unfold retireTake
  split
  · exact .refl
  · split
    · exact .refl
    · split
      · exact .refl
      · rename_i k _ _ _ r hk
        split
        · exact .refl
        · rename_i hs
          split
          · exact .refl
          · rename_i hr
            refine Relation.ReflTransGen.trans ?_ (path_settle _)
            rw [view_freeTake]
            exact (Change.retire k r.facts (Option.map_eq_some_iff.mpr ⟨r, hk, rfl⟩) (not_not.mp hs)
              (Nat.eq_zero_of_not_pos hr)).path

/-! ### The purge -/

/-- What each member of a list establishes, and no other undoes, holds of all of them after a fold. -/
theorem foldl_establishes {α β : Type} {f : β → α → β} {Q : α → β → Prop} (est : ∀ b a, Q a (f b a))
    (pres : ∀ b a a', Q a b → Q a (f b a')) (as : List α) (b : β) : ∀ a ∈ as, Q a (as.foldl f b) := by
  have kept (as : List α) (b : β) (a : α) (h : Q a b) : Q a (as.foldl f b) := by
    induction as generalizing b with
    | nil => exact h
    | cons a' as ih => exact ih _ (pres b a a' h)
  induction as generalizing b with
  | nil => simp
  | cons a' as ih =>
    intro a ha
    rcases List.mem_cons.mp ha with rfl | ha
    · exact kept as _ a (est b a)
    · exact ih _ a ha

/-- A fold whose every step is a chain of changes, with a property that every step keeps. -/
theorem path_foldl {α : Type} {f : State → α → State} {P : State → Prop} (as : List α)
    (hf : ∀ s a, P s → Path H (view s) (view (f s a)) ∧ P (f s a)) (hs : P s) :
    Path H (view s) (view (as.foldl f s)) ∧ P (as.foldl f s) := by
  induction as generalizing s with
  | nil => exact ⟨.refl, hs⟩
  | cons a as ih =>
    obtain ⟨h1, p1⟩ := hf s a hs
    obtain ⟨h2, p2⟩ := ih p1
    exact ⟨h1.trans h2, p2⟩

theorem view_clearScript {c : ChapterId} {r : Chapter} (hc : (view s).chapter c = some r) :
    view (clearScript c s) = ((view s).dropRefs (heldTakes r)).setChapter c
      (some { r with slots := Vector.replicate 32 Step.blank, cursor := 0, scriptCleared := true }) := by
  rw [clearScript, view_modChapter, view_releaseReferences s hc, dropRefs_chapter, hc]
  rfl

theorem queue_freed (c : ChapterId) (s : State) :
    (view (freeChapter c (releaseReferences c (releaseOutput c s)))).queue = (view s).queue := by
  cases hc : (view s).chapter c with
  | none =>
    have record : (releaseOutput c s).chapters[c] = none := by
      have : (view (releaseOutput c s)).chapter c = none := by simp [hc]
      exact this
    simp only [freeChapter, releaseReferences, record, view_releaseOutput]
    rfl
  | some r =>
    have record : (view (releaseOutput c s)).chapter c = some (withoutOutput r) := by simp [hc]
    have dropped := view_releaseReferences _ record
    rw [view_freeChapter _ (r := withoutOutput r) (by rw [dropped]; exact record), dropped, view_releaseOutput]
    simp

/-- The purge of one chapter, the queue being empty (R84). -/
theorem path_purgeChapter (c : ChapterId) (hH : H → (view s).HeldLaw) (hq : (view s).queue = []) :
    Path H (view s) (view (purgeChapter s c)) ∧ (view (purgeChapter s c)).queue = [] := by
  unfold purgeChapter
  split
  · exact ⟨.refl, hq⟩
  · rename_i r hc
    split
    · rename_i hs
      rw [view_clearScript hc]
      exact ⟨(Change.clear c r hc hs).path, hq⟩
    · have queue : (view (abortJobOf c s)).queue = [] := by
        rw [view_abortJobOf]
        cases laneOf s c <;> exact hq
      refine ⟨(path_abortJobOf c s).trans (path_freed fun h => ⟨by simp [queue], lane_abortJobOf (hH h) c⟩), ?_⟩
      rw [queue_freed, queue]

/-- No step of a chapter's script is left. -/
def Blank (c : ChapterId) (s : State) : Prop := ∀ r, (view s).chapter c = some r → r.slots = Vector.replicate 32 Step.blank

/-- A purged chapter's record: free, or with a cleared script; every other keeps its script. -/
theorem purgeChapter_blank (s : State) (c : ChapterId) : Blank c (purgeChapter s c) := by
  intro r' hr'
  unfold purgeChapter at hr'
  split at hr'
  · rename_i h
    have h : (view s).chapter c = none := h
    rw [h] at hr'
    cases hr'
  · rename_i r hc
    split at hr'
    · rw [view_clearScript hc] at hr'
      rw [View.setChapter_chapter, Function.update_self] at hr'
      cases hr'
      rfl
    · exfalso
      have record : (view (releaseOutput c (abortJobOf c s))).chapter c = some (withoutOutput r) := by
        rw [view_releaseOutput, chapter_abortJobOf, view_chapter, hc]
        simp
      have dropped := view_releaseReferences _ record
      rw [view_freeChapter _ (r := withoutOutput r) (by rw [dropped]; exact record)] at hr'
      simp at hr'

theorem purgeChapter_keeps_blank (s : State) (c d : ChapterId) (h : Blank c s) : Blank c (purgeChapter s d) := by
  by_cases hcd : c = d
  · subst hcd
    exact purgeChapter_blank s c
  · intro r' hr'
    unfold purgeChapter at hr'
    split at hr'
    · exact h r' hr'
    · rename_i r hd
      split at hr'
      · rw [view_clearScript hd] at hr'
        exact h r' (by simpa [hcd] using hr')
      · have record : (view (releaseOutput d (abortJobOf d s))).chapter d = some (withoutOutput r) := by
          rw [view_releaseOutput, chapter_abortJobOf, view_chapter, hd]
          simp
        have dropped := view_releaseReferences _ record
        rw [view_freeChapter _ (r := withoutOutput r) (by rw [dropped]; exact record), dropped,
          View.setChapter_chapter, Function.update_of_ne hcd] at hr'
        obtain ⟨q, hq⟩ := View.reorder_chapter _ _ _ c
        rw [hq] at hr'
        obtain ⟨x, hx, rfl⟩ := Option.map_eq_some_iff.mp hr'
        refine h x ?_
        rw [dropRefs_chapter, view_releaseOutput, View.setChapter_chapter, Function.update_of_ne hcd,
          chapter_abortJobOf] at hx
        exact hx

/-- No capture stream is left after the purge of the four (R44). -/
theorem view_purgeStreams (s : State) :
    view (allPorts.foldl purgeStream s) = { view s with stream := fun _ => none } := by
  have one (s : State) (p : Port) : view (purgeStream s p) = (view s).setStream p none := by
    unfold purgeStream
    split
    · rename_i h
      have h : (view s).stream p = none := by
        have h : s.captures[p.val] = none := h
        simp [view, h]
      exact View.ext rfl rfl (by rw [setStream_stream, ← h, Function.update_eq_self]) rfl rfl rfl
    · simp
  simp only [allPorts, List.foldl_cons, List.foldl_nil, one]
  refine View.ext rfl rfl (funext fun p => ?_) rfl rfl rfl
  fin_cases p <;> simp [Function.update]

/-- No take is left after all have been freed (R84). -/
theorem view_freeTakes (s : State) :
    view ((List.finRange 128).foldl (fun s t => freeTake t s) s) = { view s with take := fun _ => none } := by
  have all (ks : List TakeId) (s : State) : view (ks.foldl (fun s t => freeTake t s) s) =
      { view s with take := fun k => if k ∈ ks then none else (view s).take k } := by
    induction ks generalizing s with
    | nil => simp
    | cons k ks ih =>
      rw [List.foldl_cons, ih, view_freeTake]
      refine View.ext rfl (funext fun j => ?_) rfl rfl rfl rfl
      by_cases hj : j = k
      · simp [hj]
      · simp [hj]
  rw [all]
  simp [List.mem_finRange]

theorem path_purgeTitle (s : State) (k : TitleNo) : Path H (view s) (view (purgeTitle s k)) := by
  unfold purgeTitle
  rw [view_setTitle]
  have h : (view s).title k = s.titles[k].map Title.facts := view_title ..
  cases hk : s.titles[k] with
  | none =>
    refine path_of_eq (View.ext ?_ rfl rfl rfl rfl rfl)
    rw [hk] at h
    exact Function.update_eq_iff.mpr ⟨h.symm, fun _ _ => rfl⟩
  | some r =>
    rw [hk] at h
    by_cases he : r.chapters = []
    · refine (Change.drop k r.rate (by rw [h]; simp [Title.facts, he])).path.trans (path_of_eq ?_)
      rw [Option.map_some, Option.filter_some, if_neg (by simp [he])]
      rfl
    · refine path_of_eq (View.ext ?_ rfl rfl rfl rfl rfl)
      refine Function.update_eq_iff.mpr ⟨?_, fun _ _ => rfl⟩
      simp [he, h, Title.facts]

theorem path_purgeRecords (hH : H → (view s).HeldLaw) : Path H (view s) (view (purgeRecords s)) := by
  have emptied : Path H (view s) (view (setQueue [] s)) := (Change.dequeue [] (List.nil_sublist _)).path
  -- the chapters
  obtain ⟨chapters, -⟩ := path_foldl (H := H) (f := purgeChapter) (s := setQueue [] s)
    (P := fun u => (H → (view u).HeldLaw) ∧ (view u).queue = []) (List.finRange 64)
    (fun u c ⟨hu, hq⟩ => by
      obtain ⟨hp, hq'⟩ := path_purgeChapter c hu hq
      exact ⟨hp, fun h => hp.heldLaw h (hu h), hq'⟩)
    ⟨fun h => emptied.heldLaw h (hH h), rfl⟩
  have blank := foldl_establishes (Q := Blank) purgeChapter_blank
    (fun s c d => purgeChapter_keeps_blank s c d) (List.finRange 64) (setQueue [] s)
  -- the lanes
  have lanes (u : State) : Path H (view u) (view (allLanes.foldl (fun s l => clearLane l s) u)) ∧
      (view (allLanes.foldl (fun s l => clearLane l s) u)).chapter = (view u).chapter := by
    refine path_foldl (P := fun x => (view x).chapter = (view u).chapter) allLanes (fun x l hx => ?_) rfl
    rw [view_clearLane]
    exact ⟨(Change.vacate l).path, hx⟩
  unfold purgeRecords
  dsimp only
  refine (emptied.trans (chapters.trans (lanes _).1)).trans ?_
  -- the streams and the takes, and then the titles
  refine Relation.ReflTransGen.trans (Change.path ?_)
    (path_foldl (P := fun _ => True) (List.finRange 8) (fun u k _ => ⟨path_purgeTitle u k, trivial⟩) trivial).1
  rw [view_freeTakes, view_purgeStreams]
  generalize hu : List.foldl purgeChapter _ _ = u at blank
  refine Change.purge fun c r hr => ?_
  rw [(lanes u).2] at hr
  have := blank c (List.mem_finRange c) r hr
  unfold heldTakes
  split
  · rfl
  · rw [this]
    exact namedTakes_blank

theorem view_purgeNotices (was s : State) : view (purgeNotices was s) = view s := by
  have takes (s : State) (p : Port) : view (purgedTake was s p) = view s := by
    unfold purgedTake
    split <;> rfl
  have fold {α : Type} (f : State → α → State) (hf : ∀ s a, view (f s a) = view s) (as : List α) (s : State) :
      view (as.foldl f s) = view s := by
    induction as generalizing s with
    | nil => rfl
    | cons a as ih => rw [List.foldl_cons, ih, hf]
  rw [purgeNotices, fold _ fun s c => view_chapterNotice s c 0 .purged, fold _ takes]

theorem path_purge (params : List Byte) (hH : H → (view s).HeldLaw) :
    Path H (view s) (view (purge params s).state) := by
  unfold purge
  split
  · exact .refl
  · refine (path_purgeRecords hH).trans (Relation.ReflTransGen.trans (path_of_eq ?_) (path_settle _))
    exact view_purgeNotices _ _

/-! ### The lanes -/

theorem leads_commit {u v : State} (h : Path H (view s) (view v)) : Leads H s (.next (commit u v)) :=
  leads_next (path_commit h)

theorem path_modJob {l : Lane} {f : Job → Job} (s : State) (hf : ∀ j, (f j).chapter = j.chapter) :
    Path H (view s) (view (modJob l f s)) := path_of_eq (view_modJob_same s l hf)

theorem path_jobEnd (l : Lane) (s : State) : Path H (view s) (view (jobEnd l s)) := by
  unfold jobEnd
  split
  · exact .refl
  · rename_i j hj
    split
    · exact .refl
    · rename_i f _
      dsimp only
      refine Relation.ReflTransGen.trans ?_ (path_lanesTake _)
      have ended (g : ResultGroup) (st : ChapterState) (cause : Cause)
          (hl : ∀ r : Chapter, Leaves r { r with result := some g, state := st }) :
          Path H (view s) (view (enterState j.chapter st cause (writeResult j.chapter g (setLane l none s)))) := by
        refine (path_leave (f := fun r => { r with result := some g, state := st }) (view_lane_of_some hj) hl).trans
          (path_of_eq ?_)
        rw [view_enterState, view_writeResult, view_setLane]
        refine View.ext rfl rfl rfl ?_ rfl rfl
        simp [Function.comp_def]
      split
      · exact ended _ _ _ fun r => .rendered _ (by simp [fullResult])
      · exact ended _ _ _ fun r => .rejected _

theorem leads_measureSample (l : Lane) (s : State) : Leads H s (execMeasureSample l s) := by
  unfold execMeasureSample
  split
  · exact leads_same rfl
  · split
    · split
      · exact leads_same rfl
      · refine leads_commit (Relation.ReflTransGen.trans (path_modJob s fun _ => ?_) (consequences_measureEndDue l _).path)
        rfl
    · exact leads_same rfl

theorem leads_meterBlock (l : Lane) (s : State) : Leads H s (execMeterBlock l s) :=
  leads_commit (path_modJob s fun j => by
    unfold blockMeasured
    split <;> rfl)

theorem leads_encodeFrame (l : Lane) (s : State) : Leads H s (execEncodeFrame l s) := by
  unfold execEncodeFrame
  split
  · exact leads_same rfl
  · split
    · refine leads_commit (Relation.ReflTransGen.trans (path_modJob s fun _ => ?_) (consequences_encodeEndDue l _).path)
      rfl
    · exact leads_same rfl

/-! ### The store -/

theorem leads_pageReadComplete (s : State) : Leads H s (execPageReadComplete s) := by
  unfold execPageReadComplete
  split
  · refine leads_commit ?_
    split
    · exact .refl
    · rename_i who _ _ _ _
      cases who with
      | lane l =>
        refine path_of_eq (view_modJob_same (freeArray s) l fun j => ?_)
        unfold arriveAtLane
        split <;> rfl
      | port p => exact .refl
  · exact leads_same rfl

theorem leads_capturePageProgrammed (s : State) : Leads H s (execCapturePageProgrammed s) := by
  unfold execCapturePageProgrammed
  split
  · split
    · rename_i i _ _ p gone _ slot bytes _
      refine leads_commit ?_
      split
      · exact .refl
      · exact path_takeClosedDue p (endProgram i slot bytes s)
    · exact leads_same rfl
  · exact leads_same rfl

theorem leads_outputPageProgrammed (s : State) : Leads H s (execOutputPageProgrammed s) := by
  unfold execOutputPageProgrammed
  split
  · split
    · rename_i i _ _ l gone page slot bytes _
      refine leads_commit ?_
      split
      · exact path_jobEnd l (endProgram i slot bytes s)
      · exact .refl
    · exact leads_same rfl
  · exact leads_same rfl

theorem path_started (s : State) : Path H (view s) (view (started s)) := by
  unfold started
  split
  · exact path_settle s
  · exact .refl

theorem leads_backgroundEraseComplete (s : State) : Leads H s (execBackgroundEraseComplete s) := by
  unfold execBackgroundEraseComplete
  dsimp only
  split
  · exact leads_commit (path_started s)
  · exact leads_same rfl

theorem leads_builtInEraseComplete (s : State) : Leads H s (execBuiltInEraseComplete s) := by
  unfold execBuiltInEraseComplete
  split
  · rename_i b src gone _
    refine leads_commit ?_
    split
    · exact .refl
    · exact (consequences_appendBlock src b (endErase b s)).path
  · exact leads_same rfl

theorem leads_pageLoad (s : State) : Leads H s (execPageLoad s) := by
  unfold execPageLoad
  split
  · exact leads_commit (consequences_loadDue (by assumption)).path
  · exact leads_same rfl

theorem leads_waitingAllocationServed (s : State) : Leads H s (execWaitingAllocationServed s) := by
  unfold execWaitingAllocationServed
  split
  · exact leads_commit (consequences_waitingDue (by assumption)).path
  · exact leads_same rfl

/-! ### Transactions and resets -/

theorem leads_capture (p : Port) (m : Moment Byte) (s : State) : Leads H s (execCapture p m s) := by
  cases m with
  | opens => exact leads_same (view_opened _ _ _)
  | acts count => exact leads_later (fun u => view_opened _ _ u) fun _ _ => rfl

theorem leads_captureSample (p : Port) (x : Byte × Byte × Byte) (s : State) : Leads H s (execCaptureSample p x s) := by
  unfold execCaptureSample
  split
  · dsimp only
    split
    · exact leads_commit (path_sampleArrives p (sampleOf x)
        (countSample p (capturingStream s p).isNone (modPort p (clockCapture _ 3) s)))
    · exact leads_same rfl
  · exact leads_same rfl

theorem leads_captureEnd (rise : CaptureRise) (s : State) : Leads H s (execCaptureEnd rise s) := by
  unfold execCaptureEnd
  dsimp only
  split
  · exact leads_same (by rw [view_attend, view_endTransaction])
  · exact leads_same (by rw [view_attend, view_endTransaction, view_modPort])
  · split
    · exact leads_same rfl
    · exact leads_same rfl

theorem leads_request_row (p : Port) (m : Moment (List Byte)) (s : State) : Leads H s (execRequest p m s) := by
  cases m with
  | opens => exact leads_same (view_opened _ _ _)
  | acts bytes => exact leads_later (fun u => view_opened _ _ u) fun _ u => by simp [endRequest]

theorem leads_fetch (p : Port) (m : Moment Nat) (s : State) : Leads H s (execFetch p m s) := by
  cases m with
  | opens => exact leads_same (view_opened _ _ _)
  | acts n => exact leads_later (fun u => view_opened _ _ u) fun _ _ => rfl

theorem leads_notices (p : Port) (s : State) : Leads H s (execNotices p s) := by
  unfold execNotices
  exact leads_transact fun u => view_setTransfer p _ u

theorem leads_streamData (p : Port) (s : State) : Leads H s (execStreamData p s) := by
  unfold execStreamData
  exact leads_transact fun u => view_setTransfer p _ u

theorem leads_ignoredTransaction (p : Port) (tb : Byte) (n : Nat) (s : State) :
    Leads H s (execIgnoredTransaction p tb n s) := by
  unfold execIgnoredTransaction
  exact leads_transact fun _ => rfl

theorem leads_noticeRecordSent (p : Port) (s : State) : Leads H s (execNoticeRecordSent p s) := by
  unfold execNoticeRecordSent
  split
  · exact leads_same (by rw [view_attend, view_modPort])
  · exact leads_same rfl

theorem leads_dataByteDelivered (p : Port) (s : State) : Leads H s (execDataByteDelivered p s) := by
  unfold execDataByteDelivered
  split
  · exact leads_commit .refl
  · exact leads_same rfl

theorem leads_streamDataEnd (p : Port) (s : State) : Leads H s (execStreamDataEnd p s) := by
  unfold execStreamDataEnd
  split
  · exact leads_same (by rw [view_attend, view_setTransfer])
  · split
    · exact leads_same rfl
    · exact leads_same rfl

theorem leads_attention (p : Port) (n : Nat) (effect : PortState → PortState) (s : State) :
    Leads H s (attention p n effect s) := leads_later (fun u => view_opened _ _ u) fun _ _ => rfl

theorem leads_attentionRead (p : Port) (m : Moment Nat) (s : State) : Leads H s (execAttentionRead p m s) := by
  cases m with
  | opens => exact leads_same (view_opened _ _ _)
  | acts n => exact leads_attention p n _ s

theorem path_portServes (p : Port) (k : ReqKind) (params : List Byte) (s : State) :
    Path H (view s) (view (portServes p k params s)) := by
  unfold portServes
  split
  · exact path_subscribe p params s
  · exact path_deviceInfo p params s
  · exact path_streamOpen p params s
  · exact path_streamClose p params s
  · exact .refl

theorem path_takeOwnRequest (p : Port) (s : State) : Path H (view s) (view (takeOwnRequest p s)) := by
  unfold takeOwnRequest
  split
  · split
    · exact path_portServes p _ _ s
    · exact .refl
  · exact .refl

theorem path_resetCapture (p : Port) (s : State) : Path H (view s) (view (resetCapture p s)) := by
  unfold resetCapture
  split
  · rename_i st hst
    split
    · exact .refl
    · rename_i hcl
      have hcl : st.closing = false := by simpa using hcl
      exact path_stop .portReset (k := st.take) (by rw [view_stream_of_some hst, hcl])
  · exact .refl

theorem path_releaseClaims (p : Port) (s : State) : Path H (view s) (view (releaseClaims p s)) := by
  refine (path_foldl (P := fun _ => True) (List.finRange 64) (fun u c _ => ⟨?_, trivial⟩) trivial).1
  rw [view_modChapter]
  have same {o : Option Chapter} (ho : o = (view u).chapter c) : Path H (view u) ((view u).setChapter c o) :=
    path_of_eq (View.ext rfl rfl rfl (by rw [setChapter_chapter, ho, Function.update_eq_self]) rfl rfl)
  cases hc : (view u).chapter c with
  | none => exact same hc.symm
  | some r =>
    rw [Option.map_some]
    split
    · exact (Change.revise c r _ hc .unclaim).path
    · exact same hc.symm

theorem path_resetWork (p : Port) (s : State) : Path H (view s) (view (resetWork p s)) := by
  have dropped : view (dropStream p .idle (modPort p resetPort (takeOwnRequest p s))) = view (takeOwnRequest p s) := rfl
  refine ((path_takeOwnRequest p s).trans (path_of_eq dropped)).trans ?_
  exact (path_resetCapture p _).trans (path_releaseClaims p _)

theorem leads_portReset (p : Port) (extra : Nat) (s : State) : Leads H s (execPortReset p extra s) := by
  unfold execPortReset
  split
  · refine leads_commit ?_
    rw [← view_ended p s]
    exact path_resetWork p (ended p s)
  · exact leads_transact fun _ => rfl

theorem view_reset (ports : Vector PortState 4) (pending : List Instr) :
    view { State.reset with ports := ports, pending := pending } = View.empty := by
  refine View.ext ?_ ?_ ?_ ?_ rfl ?_ <;> funext k <;> simp [view, State.reset, View.empty]

theorem leads_deviceReset (s : State) : Leads H s (execDeviceReset s) := by
  refine leads_next (Relation.ReflTransGen.trans ?_ (path_settle _))
  rw [view_reset]
  exact Change.reset.path

/-! ### Every command and every step -/

/-- Every command is a chain of catalogue changes. -/
theorem leads_exec (i : Instr) (hH : H → (view s).HeldLaw) : Leads H s (exec i s) := by
  have held {u : State} (hu : view u = view s) : H → (view u).HeldLaw := hu ▸ hH
  cases i with
  | titleDefine p ps => exact leads_request fun u _ => path_defineTitle ps u
  | titleDrop p ps => exact leads_request fun u _ => path_dropTitle ps u
  | titleProfile p ps => exact leads_request fun u _ => path_setTitleProfile ps u
  | titleInfo p ps => exact leads_request fun u _ => path_reportTitle ps u
  | chapterCreate p ps => exact leads_request fun u _ => path_createChapter p ps u
  | chapterOpen p ps => exact leads_request fun u hu => path_openChapter p ps (held hu)
  | chapterClose p ps => exact leads_request fun u _ => path_closeChapter p ps u
  | chapterDiscard p ps => exact leads_request fun u hu => path_discardChapter p ps (held hu)
  | chapterMove p ps => exact leads_request fun u _ => path_moveChapter ps u
  | chapterInfo p ps => exact leads_request fun u _ => path_reportChapter ps u
  | takeStart p ps => exact leads_request fun u _ => path_startTake p ps u
  | gateSet p ps => exact leads_request fun u _ => path_setGateValues p ps u
  | takeStop p ps => exact leads_request fun u _ => path_stopTake p ps u
  | takeRetire p ps => exact leads_request fun u _ => path_retireTake ps u
  | takeInfo p ps => exact leads_request fun u _ => path_reportTake ps u
  | levels p ps => exact leads_request fun u _ => path_reportLevels ps u
  | scriptPoint p ps => exact leads_request fun u _ => path_pointScript p ps u
  | scriptWrite p ps => exact leads_request fun u _ => path_writeScript p ps u
  | scriptRead p ps => exact leads_request fun u _ => path_readScript p ps u
  | storeInfo p ps => exact leads_request fun u _ => path_reportStore ps u
  | purge p ps => exact leads_request fun u hu => path_purge ps (held hu)
  | render p ps => exact leads_request fun u _ => path_renderChapter p ps u
  | renderSet p ps => exact leads_request fun u hu => path_renderSet p ps (held hu)
  | renderCancel p ps => exact leads_request fun u hu => path_cancelRender ps (held hu)
  | queueInfo p ps => exact leads_request fun u _ => path_reportQueue ps u
  | publish p ps => exact leads_request fun u _ => path_publish ps u
  | collect p ps => exact leads_request fun u _ => path_collect ps u
  | profileSet p ps => exact leads_request fun u _ => path_writeProfile ps u
  | profileGet p ps => exact leads_request fun u _ => path_readProfile ps u
  | streamOpen p ps => exact leads_request fun u _ => path_streamOpen p ps u
  | streamClose p ps => exact leads_request fun u _ => path_streamClose p ps u
  | subscribe p ps => exact leads_request fun u _ => path_subscribe p ps u
  | deviceInfo p ps => exact leads_request fun u _ => path_deviceInfo p ps u
  | request p m => exact leads_request_row p m s
  | fetch p m => exact leads_fetch p m s
  | notices p => exact leads_notices p s
  | noticeRecordSent p => exact leads_noticeRecordSent p s
  | capture p m => exact leads_capture p m s
  | captureSample p x => exact leads_captureSample p x s
  | captureEnd rise => exact leads_captureEnd rise s
  | takeFull p => exact leads_commit (path_takeFullDue p s)
  | positionLimit p => exact leads_commit (path_positionLimitDue p s)
  | takeClosed p => exact leads_commit (path_takeClosedDue p s)
  | liveBlock p => exact leads_commit (path_of_eq (view_liveBlockDue p s))
  | streamData p => exact leads_streamData p s
  | dataByteDelivered p => exact leads_dataByteDelivered p s
  | streamDataEnd p => exact leads_streamDataEnd p s
  | attentionRead p m => exact leads_attentionRead p m s
  | attentionClear p value n => exact leads_attention p n _ s
  | attentionMask p value n => exact leads_attention p n _ s
  | attentionMode p value n => exact leads_attention p n _ s
  | portReset p extra => exact leads_portReset p extra s
  | ignoredTransaction p tb n => exact leads_ignoredTransaction p tb n s
  | deviceReset => exact leads_deviceReset s
  | pageReadComplete => exact leads_pageReadComplete s
  | capturePageProgrammed => exact leads_capturePageProgrammed s
  | outputPageProgrammed => exact leads_outputPageProgrammed s
  | backgroundEraseComplete => exact leads_backgroundEraseComplete s
  | builtInEraseComplete => exact leads_builtInEraseComplete s
  | pageLoad => exact leads_pageLoad s
  | waitingAllocationServed => exact leads_waitingAllocationServed s
  | measureSample l => exact leads_measureSample l s
  | meterBlock l => exact leads_meterBlock l s
  | measureEnd l => exact leads_commit (consequences_measureEndDue l s).path
  | encodeFrame l => exact leads_encodeFrame l s
  | encodeEnd l => exact leads_commit (consequences_encodeEndDue l s).path

/-- Every step is a chain of catalogue changes. -/
theorem path_step (hH : H → (view s).HeldLaw) (h : step s = .next t) : Path H (view s) (view t) := by
  unfold step at h
  split at h
  · cases h
    exact .refl
  · rename_i i rest _
    have same : view { s with pending := rest } = view s := rfl
    exact same ▸ leads_exec i (fun h => same ▸ hH h) t h

/-- A step under the law of the queue. -/
theorem path_step_of_queueLaw (hq : QueueLaw s) (h : step s = .next t) : Path True (view s) (view t) :=
  path_step (fun _ => heldLaw_of_queueLaw hq) h

/-! ### The laws -/

/-- Settles O49: each single change keeps an editor to an ASSEMBLING record and a cursor within 32. -/
theorem stepKeepsClaimAndCursorLaws : Obligations.StepKeepsClaimAndCursorLaws := by
  intro s t hq hclaim hcursor hstep
  have path := path_step_of_queueLaw hq hstep
  have held := heldLaw_of_queueLaw hq
  exact ⟨path.records trivial held (fun _ _ _ _ => rfl) (fun _ _ _ _ ho => ho.claimed trivial) hclaim,
    path.records trivial held (fun _ _ _ => Nat.zero_le 32) (fun _ _ _ _ ho => ho.cursorFits) hcursor⟩

/-- Settles O50: each single change keeps every chapter at its place in its title's list. -/
theorem stepKeepsPositionLaw : Obligations.StepKeepsPositionLaw := by
  intro s t hpos hstep
  have path : Path False (view s) (view t) := path_step (fun h => h.elim) hstep
  exact positionLaw_iff.mpr (path.keep (fun _ _ h => h.positionLaw) (positionLaw_iff.mp hpos))

/-- Settles O51: each single change moves a take's count with the chapters that name it; a capture's take, which is not
CLOSED, is named by none. -/
theorem stepKeepsReferenceLaw : Obligations.StepKeepsReferenceLaw := by
  intro s t hq hstream href hstep
  have path := path_step_of_queueLaw hq hstep
  obtain ⟨hcount, hclear⟩ := referenceLaw_iff.mp href
  obtain ⟨-, -, hclear', hcount'⟩ := path.keep
    (P := fun v => HeldLaw v ∧ v.StreamLaw ∧ v.Records ClearedFits ∧ v.ReferenceLaw)
    (fun _ _ h ⟨hh, hs, hf, hr⟩ => ⟨h.heldLaw trivial hh, h.streamLaw hs,
      h.records hh (fun _ _ _ h => by cases h) (fun _ _ _ ho => ho.clearedFits trivial) hf,
      h.referenceLaw trivial hh hs hf hr⟩)
    ⟨heldLaw_of_queueLaw hq, streamLaw_iff.mp hstream, hclear, hcount⟩
  exact referenceLaw_iff.mpr ⟨hcount', hclear'⟩

/-- Settles O53: each single change keeps the lengths in range and each record as its state asks. -/
theorem stepKeepsLengthAndPresenceLaws : Obligations.StepKeepsLengthAndPresenceLaws := by
  intro s t hq hstream hpos hlen hpres hstep
  have path := path_step_of_queueLaw hq hstep
  have held := heldLaw_of_queueLaw hq
  obtain ⟨htakes, hassembled⟩ := lengthLaw_iff.mp hlen
  obtain ⟨-, -, -, htakes', hassembled'⟩ := path.keep
    (P := fun v => HeldLaw v ∧ v.StreamLaw ∧ v.PositionLaw ∧ v.TakeLengthLaw ∧ v.AssembledLaw)
    (fun _ _ h ⟨hh, hs, hp, ht, ha⟩ => ⟨h.heldLaw trivial hh, h.streamLaw hs, h.positionLaw hp, h.takeLengthLaw hs ht,
      h.assembledLaw hh hp ha⟩)
    ⟨held, streamLaw_iff.mp hstream, positionLaw_iff.mp hpos, htakes, hassembled⟩
  have present : (view t).Records Present :=
    path.records trivial held (fun _ _ _ => by simp [Present, freshChapter]) (fun _ _ _ _ ho => ho.present trivial) hpres
  exact ⟨lengthLaw_iff.mpr ⟨htakes', hassembled'⟩, present⟩

end Sys2Proof.Machine

/-! How a request reaches its block, and what the block reads in its parameter bytes. -/

namespace Sys2Proof.Machine

variable {s : State} {p : Port} {k : ReqKind} {ps : List Byte}

/-! ### The block's reply is the port's response -/

/-- A request that its block takes is answered with what the block makes of it (R185). -/
theorem request_takes (h : Takes s p k ps) (act : State → Reply) :
    request p k ps act s = Responds p k (act s).result (act s).payload s (act s).state :=
  request_executing s act h

theorem request_refuses {r : Result} {act : State → Reply} (h : Takes s p k ps) (hr : act s = refuse r s) :
    request p k ps act s = Refuses p k r s := by
  rw [request_takes h, hr]
  rfl

theorem request_accepts {payload : List Byte} {t : State} {act : State → Reply} (h : Takes s p k ps)
    (hr : act s = accept payload t) : request p k ps act s = Responds p k .accepted payload s t := by
  rw [request_takes h, hr]
  rfl

/-- A request row is the service of its block. -/
theorem exec_requestRow {i : Instr} {act : State → Reply} (h : requestRow i = some (p, k, ps, act)) (s : State) :
    exec i s = request p k ps act s := by
  cases i <;> cases h <;> rfl

/-! ### Numbers in parameter bytes -/

@[simp] theorem paramAt_zero (b : Byte) (rest : List Byte) : paramAt (b :: rest) 0 = b.toNat := by
  simp [paramAt, fieldAt]

@[simp] theorem paramAt_succ (b : Byte) (rest : List Byte) (i : Nat) : paramAt (b :: rest) (i + 1) = paramAt rest i := by
  simp [paramAt, fieldAt]

theorem inTable_eq_none {n v : Nat} : inTable n v = none ↔ n ≤ v := by
  unfold inTable
  split <;> simp_all

theorem inTable_val {n : Nat} (x : Fin n) : inTable n x.val = some x := by simp [inTable]

/-- A number below 256 in a byte reads as itself. -/
theorem toNat_ofNat_byte {n : Nat} (h : n < 256) : (BitVec.ofNat 8 n).toNat = n := by simp [Nat.mod_eq_of_lt h]

@[simp] theorem titleAt_u8 (x : TitleNo) (rest : List Byte) : titleAt (u8 x.val ++ rest) 0 = some x := by
  rw [titleAt, u8, List.singleton_append, paramAt_zero, toNat_ofNat_byte (by omega), inTable_val]

@[simp] theorem chapterAt_u8 (x : ChapterId) (rest : List Byte) : chapterAt (u8 x.val ++ rest) 0 = some x := by
  rw [chapterAt, u8, List.singleton_append, paramAt_zero, toNat_ofNat_byte (by omega), inTable_val]

@[simp] theorem takeAt_u8 (x : TakeId) (rest : List Byte) : takeAt (u8 x.val ++ rest) 0 = some x := by
  rw [takeAt, u8, List.singleton_append, paramAt_zero, toNat_ofNat_byte (by omega), inTable_val]

@[simp] theorem titleAt_u8_self (x : TitleNo) : titleAt (u8 x.val) 0 = some x := titleAt_u8 x []
@[simp] theorem chapterAt_u8_self (x : ChapterId) : chapterAt (u8 x.val) 0 = some x := chapterAt_u8 x []
@[simp] theorem takeAt_u8_self (x : TakeId) : takeAt (u8 x.val) 0 = some x := takeAt_u8 x []

@[simp] theorem length_u8 (n : Nat) : (u8 n).length = 1 := rfl
@[simp] theorem length_u32 (n : Nat) : (u32 n).length = 4 := rfl

/-! ### Parameters that are refused -/

/-- The parameters of a request that BAD_PARAM answers: a wrong length, an id that cannot exist, or a value that the
kind refuses. -/
def BadParams (k : ReqKind) (ps : List Byte) : Prop :=
  lengthFits k ps.length = false ∨ (∃ n, firstIdLimit k = some n ∧ n ≤ paramAt ps 0) ∨ valuesFit k ps = false

/-- A kind whose parameters are an id and bytes of any value. -/
theorem BadParams.of_id {n len : Nat} (h : BadParams k ps) (hl : ∀ m, lengthFits k m = (m == len))
    (hi : firstIdLimit k = some n) (hv : valuesFit k ps = true) : inTable n (paramAt ps 0) = none ∨ ps.length ≠ len := by
  rw [inTable_eq_none]
  simpa [BadParams, hl, hi, hv, or_comm] using h

/-- A kind without parameters. -/
theorem BadParams.of_none (h : BadParams k ps) (hl : ∀ m, lengthFits k m = (m == 0)) (hi : firstIdLimit k = none)
    (hv : valuesFit k ps = true) : ps ≠ [] := by
  simpa [BadParams, hl, hi, hv] using h

theorem defineTitle_refuses (h : BadParams .titleDefine ps) : defineTitle ps s = refuse .badParam s := by
  unfold defineTitle
  split
  · rename_i t rate profile auto ht hr hp ha
    have some_lt {n v : Nat} {a : Fin n} (h : inTable n v = some a) : v < n :=
      not_le.mp fun hle => by simp [inTable_eq_none.mpr hle] at h
    have := some_lt ht
    have := some_lt hr
    have := some_lt hp
    have := some_lt ha
    simp only [BadParams, lengthFits, firstIdLimit, valuesFit, beq_eq_false_iff_ne, Option.some.injEq, exists_eq_left',
      decide_eq_false_iff_not] at h
    exact if_pos (by omega)
  · rfl

theorem setTitleProfile_refuses (h : BadParams .titleProfile ps) : setTitleProfile ps s = refuse .badParam s := by
  unfold setTitleProfile
  split
  · rename_i t profile auto ht hp ha
    have ht : paramAt ps 0 < 8 := not_le.mp fun hle => by simp [titleAt, inTable_eq_none.mpr hle] at ht
    have setting {n i : Nat} {a : Option (Fin n)} (h : settingAt n ps i = some a) : paramAt ps i < n ∨ paramAt ps i = 255 := by
      by_contra hn
      obtain ⟨hle, hne⟩ := not_or.mp hn
      simp [settingAt, hne, inTable_eq_none.mpr (not_lt.mp hle)] at h
    have := setting hp
    have := setting ha
    simp only [BadParams, lengthFits, firstIdLimit, valuesFit, beq_eq_false_iff_ne, Option.some.injEq, exists_eq_left',
      decide_eq_false_iff_not] at h
    exact if_pos (by omega)
  · rfl

theorem stepSent_ne_none (h : stepSent ps ≠ none) : paramAt ps 1 ≤ 2 ∧ (paramAt ps 1 = 0 ∨ paramAt ps 2 ≤ 127) := by
  unfold stepSent at h
  dsimp only at h
  have take (h : takeAt ps 2 ≠ none) : paramAt ps 2 ≤ 127 := by
    rw [takeAt, Ne, inTable_eq_none] at h
    omega
  split at h
  · omega
  · exact ⟨by omega, .inr (take (by simpa using h))⟩
  · exact ⟨by omega, .inr (take (by simpa using h))⟩
  · exact absurd rfl h

theorem writeScript_refuses (h : BadParams .scriptWrite ps) : writeScript p ps s = refuse .badParam s := by
  unfold writeScript
  split
  · rename_i c st clamped hc hst
    have hc : paramAt ps 0 < 64 := not_le.mp fun hle => by simp [chapterAt, inTable_eq_none.mpr hle] at hc
    have := stepSent_ne_none (ps := ps) (by simp [hst])
    simp only [BadParams, lengthFits, firstIdLimit, valuesFit, beq_eq_false_iff_ne, Option.some.injEq, exists_eq_left',
      decide_eq_false_iff_not] at h
    exact if_pos (by omega)
  · rfl

theorem streamOpen_refuses (h : BadParams .streamOpen ps) : streamOpen p ps s = refuse .badParam s := by
  unfold streamOpen
  split
  · rfl
  · rename_i hl
    simp only [BadParams, lengthFits, firstIdLimit, valuesFit, beq_eq_false_iff_ne, decide_eq_false_iff_not] at h
    have some_lt {n v : Nat} {a : Fin n} (h : inTable n v = some a) : v < n :=
      not_le.mp fun hle => by simp [inTable_eq_none.mpr hle] at h
    split
    · split
      · rfl
      · rename_i hc
        have := some_lt hc
        simp_all
        omega
    · split
      · rfl
      · rename_i ht
        have := some_lt ht
        simp_all
        omega
    · rfl

theorem startTake_refuses (h : BadParams .takeStart ps) : startTake p ps s = refuse .badParam s := by
  unfold startTake
  split
  · rfl
  · rename_i hid
    refine if_pos (Or.resolve_left (a := titleAt ps 0 = none) ?_ (by simp [hid]))
    simpa [BadParams, lengthFits, firstIdLimit, valuesFit, titleAt, inTable_eq_none, or_left_comm] using h

theorem reportTake_refuses (h : BadParams .takeInfo ps) : reportTake ps s = refuse .badParam s := by
  unfold reportTake
  split
  · rfl
  · rename_i hid
    refine if_pos (Or.resolve_left (a := takeAt ps 0 = none) ?_ (by simp [hid]))
    simpa [BadParams, lengthFits, firstIdLimit, valuesFit, takeAt, inTable_eq_none, or_left_comm] using h

/-- Each block refuses parameters that its kind does not allow (R1, R25, R47, R83, R84, R89, R150, R173, R193). -/
theorem block_refuses_badParams {i : Instr} {act : State → Reply} (h : requestRow i = some (p, k, ps, act))
    (hbad : BadParams k ps) (s : State) : act s = refuse .badParam s := by
  cases i <;> cases h
  case titleDefine => exact defineTitle_refuses hbad
  case titleProfile => exact setTitleProfile_refuses hbad
  case scriptWrite => exact writeScript_refuses hbad
  case streamOpen => exact streamOpen_refuses hbad
  case takeStart => exact startTake_refuses hbad
  case takeInfo => exact reportTake_refuses hbad
  case gateSet => exact if_pos (by simpa [BadParams, lengthFits, firstIdLimit, valuesFit] using hbad)
  case subscribe => exact if_pos (by simpa [BadParams, lengthFits, firstIdLimit, valuesFit] using hbad)
  case renderSet =>
    have bad : ps.length < 1 ∨ 4 < ps.length := by
      simp only [BadParams, lengthFits, firstIdLimit, valuesFit, decide_eq_false_iff_not, reduceCtorEq, false_and,
        exists_false, or_false] at hbad
      omega
    exact if_pos bad
  case takeStop | levels | storeInfo | purge | queueInfo | streamClose | deviceInfo =>
    exact if_pos (hbad.of_none (fun _ => rfl) rfl rfl)
  -- the blocks that read an id, and then nothing but the length
  all_goals
    have hbad := hbad.of_id (fun _ => rfl) rfl rfl
    simp only [dropTitle, reportTitle, createChapter, openChapter, closeChapter, discardChapter, moveChapter,
      reportChapter, retireTake, pointScript, readScript, renderChapter, cancelRender, Machine.publish,
      Machine.collect, writeProfile, readProfile, titleAt, chapterAt, takeAt]
    rcases hbad with hid | hlen
    · simp only [hid]
    · simp only [if_pos hlen]
      split <;> rfl

/-! ### Script requests -/

/-- A request on a script is refused as its record, its state and its editor ask (R47). -/
theorem editable_error {c : ChapterId} :
    (s.chapters[c] = none → editable p c s = .error .noRecord) ∧
      ∀ r, s.chapters[c] = some r →
        (r.state ≠ .assembling → editable p c s = .error .wrongState) ∧
        (r.state = .assembling → r.editor ≠ some p → editable p c s = .error .notEditor) := by
  refine ⟨fun h => by simp only [editable, h], fun r h => ⟨fun hs => ?_, fun hs he => ?_⟩⟩
  · simp only [editable, h, if_pos hs]
  · simp only [editable, h, hs, ne_eq, not_true_eq_false, if_false, if_pos he]

/-- The three script requests with parameters that their kind allows refuse what `editable` refuses. -/
theorem script_refuses {i : Instr} {act : State → Reply} {c : ChapterId} {e : Result}
    (h : requestRow i = some (p, k, ps, act)) (hl : lengthFits k ps.length = true) (hc : chapterAt ps 0 = some c)
    (hk : k = .scriptPoint ∨ k = .scriptRead ∨ (k = .scriptWrite ∧ stepSent ps ≠ none))
    (he : editable p c s = .error e) : act s = refuse e s := by
  cases i <;> cases h <;> simp only [reduceCtorEq, false_and, or_self, true_and, or_false, false_or] at hk
  case scriptPoint =>
    have hl : ps.length = 2 := by simpa [lengthFits] using hl
    simp [pointScript, hc, hl, he]
  case scriptRead =>
    have hl : ps.length = 1 := by simpa [lengthFits] using hl
    simp [readScript, hc, hl, he]
  case scriptWrite =>
    have hl : ps.length = 18 := by simpa [lengthFits] using hl
    obtain ⟨sent, hsent⟩ := Option.ne_none_iff_exists'.mp hk
    simp [writeScript, hc, hl, he, hsent]

/-- Settles O5: each block checks its parameters first, and a script request then its record, state and editor. -/
theorem requestChecksRefuse : Obligations.RequestChecksRefuse := by
  refine ⟨fun i s p k ps act hrow htakes => ?_, fun i s p k ps act c hrow htakes hl hc hk => ?_⟩
  · have refused (hbad : BadParams k ps) : exec i s = Refuses p k .badParam s := by
      rw [exec_requestRow hrow]
      exact request_refuses htakes (block_refuses_badParams hrow hbad s)
    exact ⟨fun h => refused (.inl h), fun _ h => refused (.inr (.inl h)), fun _ h => refused (.inr (.inr h))⟩
  · have refused {e : Result} (he : editable p c s = .error e) : exec i s = Refuses p k e s := by
      rw [exec_requestRow hrow]
      exact request_refuses htakes (script_refuses hrow hl hc hk he)
    obtain ⟨free, taken⟩ := editable_error (s := s) (p := p) (c := c)
    exact ⟨fun h => refused (free h), fun r hr =>
      ⟨fun hs => refused ((taken r hr).1 hs), fun hs he => refused ((taken r hr).2 hs he)⟩⟩

end Sys2Proof.Machine

/-! The catalogue's requests on titles, CHAPTER_CREATE and CHAPTER_CLOSE, and the requests that report. -/

namespace Sys2Proof.Machine

variable {s : State} {p : Port}

/-! ### A record that is there, changed -/

theorem modTitle_of_some {k : TitleNo} {r : Title} (h : s.titles[k] = some r) (f : Title → Title) :
    modTitle k f s = setTitle k (some (f r)) s := by rw [modTitle, h]; rfl

theorem modTake_of_some {k : TakeId} {r : Take} (h : s.takes[k] = some r) (f : Take → Take) :
    modTake k f s = setTake k (some (f r)) s := by rw [modTake, h]; rfl

theorem modChapter_of_some {c : ChapterId} {r : Chapter} (h : s.chapters[c] = some r) (f : Chapter → Chapter) :
    modChapter c f s = setChapter c (some (f r)) s := by rw [modChapter, h]; rfl

theorem modStream_of_some {st : Stream} (h : s.captures[p] = some st) (f : Stream → Stream) :
    modStream p f s = setStream p (some (f st)) s := by rw [modStream, h]; rfl

/-! ### The lowest free record -/

theorem firstFree_eq_none {α : Type} {n : Nat} {v : Vector (Option α) n} (h : ∀ i : Fin n, v[i] ≠ none) :
    firstFree v = none :=
  List.find?_eq_none.mpr fun i _ => by simpa using h i

theorem firstFree_eq_some {α : Type} {n : Nat} {v : Vector (Option α) n} {i : Fin n} (hi : v[i] = none)
    (h : ∀ j : Fin n, j < i → v[j] ≠ none) : firstFree v = some i := by
  unfold firstFree
  cases hf : (List.finRange n).find? fun i => v[i].isNone with
  | none => exact absurd (List.find?_eq_none.mp hf i (List.mem_finRange i)) (by simp_all)
  | some k =>
    have hk : v[k] = none := getElem_firstFree hf
    obtain ⟨-, before, after, hlist, hbefore⟩ := List.find?_eq_some_iff_append.mp hf
    rcases lt_trichotomy k i with hlt | rfl | hgt
    · exact absurd hk (h k hlt)
    · rfl
    · have hmem : i ∈ before ++ k :: after := hlist ▸ List.mem_finRange i
      have hsorted : (before ++ k :: after).Pairwise (· < ·) := hlist ▸ List.pairwise_lt_finRange n
      rcases List.mem_append.mp hmem with hb | ha
      · exact absurd (hbefore i hb) (by simp_all)
      · rcases List.mem_cons.mp ha with rfl | ha
        · exact absurd hgt (lt_irrefl _)
        · exact absurd (List.rel_of_pairwise_cons (List.pairwise_append.mp hsorted).2.1 ha) (not_lt.mpr hgt.le)

/-! ### Parameters byte by byte -/

theorem paramAt_u8 {n : Nat} (h : n < 256) (rest : List Byte) : paramAt (u8 n ++ rest) 0 = n := by
  rw [u8, List.singleton_append, paramAt_zero, toNat_ofNat_byte h]

@[simp] theorem paramAt_u8_succ (n : Nat) (rest : List Byte) (i : Nat) :
    paramAt (u8 n ++ rest) (i + 1) = paramAt rest i := by
  rw [u8, List.singleton_append, paramAt_succ]

theorem paramAt_u8_self {n : Nat} (h : n < 256) : paramAt (u8 n) 0 = n := paramAt_u8 h []

/-! ### Titles -/

theorem defineTitle_sent {t : TitleNo} {rate : RateCode} {n : ProfileNo} {auto : Bool} :
    defineTitle (u8 t.val ++ u8 rate.val ++ u8 n.val ++ u8 (flag auto)) s =
      if s.titles[t].isSome then refuse .existing s else accept [] (setTitle t (some ⟨rate, n, auto, [], 0⟩) s) := by
  have ha : inTable 2 (flag auto) = some (if auto then 1 else 0) := by cases auto <;> rfl
  have hf : flag auto < 256 := by cases auto <;> decide
  have hauto : ((if auto then 1 else 0 : Fin 2) == 1) = auto := by cases auto <;> rfl
  have h1 : paramAt (u8 t.val ++ (u8 rate.val ++ (u8 n.val ++ u8 (flag auto)))) 1 = rate.val := by
    rw [paramAt_u8_succ, paramAt_u8 (by omega)]
  have h2 : paramAt (u8 t.val ++ (u8 rate.val ++ (u8 n.val ++ u8 (flag auto)))) 2 = n.val := by
    rw [paramAt_u8_succ, paramAt_u8_succ, paramAt_u8 (by omega)]
  have h3 : paramAt (u8 t.val ++ (u8 rate.val ++ (u8 n.val ++ u8 (flag auto)))) 3 = flag auto := by
    rw [paramAt_u8_succ, paramAt_u8_succ, paramAt_u8_succ, paramAt_u8_self hf]
  simp only [List.append_assoc, defineTitle, titleAt_u8, h1, h2, h3, inTable_val, ha]
  rw [if_neg (by simp), hauto]

theorem setTitleProfile_sent {t : TitleNo} {n : Option ProfileNo} {auto : Option Bool} :
    setTitleProfile (u8 t.val ++ u8 ((n.map (·.val)).getD 255) ++ u8 ((auto.map flag).getD 255)) s =
      match s.titles[t] with
      | none => refuse .noTitle s
      | some r => accept [] (setTitle t (some { r with profile := n.getD r.profile, auto := auto.getD r.auto }) s) := by
  have hn : (n.map (·.val)).getD 255 < 256 := by cases n <;> simp; omega
  have ha : (auto.map flag).getD 255 < 256 := by rcases auto with _ | _ | _ <;> decide
  have h1 : settingAt 4 (u8 t.val ++ (u8 ((n.map (·.val)).getD 255) ++ u8 ((auto.map flag).getD 255))) 1 = some n := by
    rw [settingAt, paramAt_u8_succ, paramAt_u8 hn]
    cases n with
    | none => rfl
    | some n => simp [inTable_val]; omega
  have h2 : settingAt 2 (u8 t.val ++ (u8 ((n.map (·.val)).getD 255) ++ u8 ((auto.map flag).getD 255))) 2 =
      some (auto.map fun b => if b then 1 else 0) := by
    rw [settingAt, paramAt_u8_succ, paramAt_u8_succ, paramAt_u8_self ha]
    rcases auto with _ | _ | _ <;> rfl
  have hauto (d : Bool) : ((auto.map fun b => (if b then 1 else 0 : Fin 2)).map (· == 1)).getD d = auto.getD d := by
    rcases auto with _ | _ | _ <;> rfl
  simp only [List.append_assoc, setTitleProfile, titleAt_u8, h1, h2]
  rw [if_neg (by simp)]
  simp only [hauto] <;> cases s.titles[t] <;> rfl

theorem dropTitle_sent {t : TitleNo} : dropTitle (u8 t.val) s = match s.titles[t] with
    | none => refuse .noTitle s
    | some r => if 0 < r.takeCount ∨ r.chapters ≠ [] then refuse .hasContent s else accept [] (setTitle t none s) := by
  simp only [dropTitle, titleAt_u8_self]
  rw [if_neg (by simp)] <;> cases s.titles[t] <;> rfl

/-- CHAPTER_CREATE on a title and a position byte, after the length check (R14). -/
theorem createChapter_sent {t : TitleNo} {b : Byte} : createChapter p (u8 t.val ++ [b]) s = match s.titles[t] with
    | none => refuse .noTitle s
    | some r =>
      if 32 ≤ r.chapters.length then refuse .titleFull s
      else match firstFree s.chapters with
        | none => refuse .noRecord s
        | some c =>
          acceptOr (max 1 (min (r.chapters.length + 1) b.toNat) != b.toNat)
            (u8 c.val ++ u8 (max 1 (min (r.chapters.length + 1) b.toNat)))
            (chapterNotice c 1 .created
              (reorder t (insertAt (max 1 (min (r.chapters.length + 1) b.toNat)) c r.chapters)
                (setChapter c (some (freshChapter t (max 1 (min (r.chapters.length + 1) b.toNat)) p)) s))) := by
  have hb : paramAt (u8 t.val ++ [b]) 1 = b.toNat := by rw [paramAt_u8_succ, paramAt_zero]
  simp only [createChapter, titleAt_u8, hb]
  rw [if_neg (by simp)] <;> cases s.titles[t] <;> rfl

/-- An acceptance that is CLAMPED where the value sent was not used. -/
theorem acceptOr_ne {q n : Nat} (payload : List Byte) (t : State) :
    acceptOr (q != n) payload t = ⟨t, if q = n then .accepted else .clamped, payload⟩ := by
  by_cases h : q = n <;> simp [acceptOr, h]

theorem request_acceptsOr {k : ReqKind} {ps payload : List Byte} {t : State} {q n : Nat} {act : State → Reply}
    (h : Takes s p k ps) (hr : act s = acceptOr (q != n) payload t) :
    request p k ps act s = Responds p k (if q = n then .accepted else .clamped) payload s t := by
  rw [request_takes h, hr, acceptOr_ne]

/-- Settles O6: each request reads its bytes as its fields were written, and goes through its checks in order. -/
theorem titleRequestsAndChapterCreate : Obligations.TitleRequestsAndChapterCreate := by
  refine ⟨⟨?_, ?_, ?_⟩, ?_⟩
  · rintro s p t rate n auto ps rfl htakes
    refine ⟨fun h => request_accepts htakes ?_, fun h => request_refuses htakes ?_⟩
    · rw [defineTitle_sent, h]
      rfl
    · rw [defineTitle_sent, if_pos (by simpa [Option.isSome_iff_ne_none] using h)]
  · intro s p t htakes
    refine ⟨fun h => request_refuses htakes ?_, fun r h => ⟨fun hc => request_refuses htakes ?_, fun ht hc =>
      request_accepts htakes ?_⟩⟩
    · simp only [dropTitle_sent, h]
    · simp only [dropTitle_sent, h, if_pos hc]
    · simp only [dropTitle_sent, h]
      exact if_neg (by simp [ht, hc])
  · rintro s p t n auto ps rfl htakes
    refine ⟨fun h => request_refuses htakes ?_, fun r h => request_accepts htakes ?_⟩
    · simp only [setTitleProfile_sent, h]
    · simp only [setTitleProfile_sent, h]
  · rintro s p t b ps rfl htakes
    refine ⟨fun h => request_refuses htakes ?_, fun r h => ⟨fun hfull => request_refuses htakes ?_, fun hfull hfree =>
      request_refuses htakes ?_, ?_⟩⟩
    · simp only [createChapter_sent, h]
    · simp only [createChapter_sent, h, if_pos hfull]
    · simp only [createChapter_sent, h, if_neg (not_le.mpr hfull), firstFree_eq_none hfree]
    · rintro c q hfull hc hfirst rfl
      refine request_acceptsOr htakes ?_
      simp only [createChapter_sent, h, if_neg (not_le.mpr hfull), firstFree_eq_some hc hfirst]
      rfl

/-! ### CHAPTER_CLOSE -/

/-- References are in the take records alone. -/
theorem foldl_modTake_eq (f : Take → Take) (ts : List TakeId) (s : State) :
    ts.foldl (fun s t => modTake t f s) s = { s with takes := (ts.foldl (fun s t => modTake t f s) s).takes } := by
  induction ts generalizing s with
  | nil => rfl
  | cons t ts ih => rw [List.foldl_cons, ih]; rfl

@[simp] theorem takeReferences_queue (ts : List TakeId) (s : State) : (takeReferences ts s).queue = s.queue := by
  rw [takeReferences, foldl_modTake_eq]

theorem closeChapter_sent {c : ChapterId} {r : Chapter} (h : s.chapters[c] = some r) (hs : r.state = .assembling)
    (he : r.editor = some p) : closeChapter p (u8 c.val) s = match validate s r.title r.slots with
      | .error e => ⟨s, .scriptBad, u8 e.step ++ u8 e.reason ++ u32 e.value⟩
      | .ok total => accept (u8 (stateCode (closeValid p c r total s) c) ++ u32 total) (closeValid p c r total s) := by
  simp only [closeChapter, chapterAt_u8_self, h, hs, he]
  rw [if_neg (by simp), if_neg (by simp), if_neg (by simp)] <;> cases validate s r.title r.slots <;> rfl

/-- Settles O9: the checks in order, and a valid close case by case of the auto-render flag and the queue. -/
theorem chapterCloseRequest : Obligations.ChapterCloseRequest := by
  intro s p c htakes
  refine ⟨fun h => request_refuses htakes ?_, fun r h => ⟨fun hs => request_refuses htakes ?_, fun hs he =>
    request_refuses htakes ?_, fun e hs he hv => ?_, ?_⟩⟩
  · simp [closeChapter, h]
  · simp [closeChapter, h, hs]
  · simp [closeChapter, h, hs, he]
  · exact (request_takes htakes _).trans (by rw [closeChapter_sent h hs he, hv])
  · rintro total u hs he hv rfl
    have closed {t : State} (ht : closeValid p c r total s = t) : ∃ t', t' = t ∧ exec (.chapterClose p (u8 c.val)) s =
        Responds p .chapterClose .accepted (u8 (stateCode t' c) ++ u32 total) s t' := by
      subst ht
      exact ⟨_, rfl, request_accepts htakes (by rw [closeChapter_sent h hs he, hv])⟩
    refine ⟨fun ha => closed ?_, fun ha hq => closed ?_, fun ha hq => closed ?_⟩
    · simp only [closeValid, ha, modChapter_of_some h, Bool.false_eq_true, if_false]
    · simp only [closeValid, ha, modChapter_of_some h, if_true]
      refine (if_pos hq).trans ?_
      rw [appendEntry, takeReferences_queue]
      rfl
    · simp only [closeValid, ha, modChapter_of_some h, if_true]
      exact if_neg (not_lt.mpr hq)

/-! ### Reports -/

/-- The sum over chapters whose output sample counts are known (R22). -/
theorem samplesTotal_known {cs : List ChapterId}
    (h : ∀ c ∈ cs, ∃ r n, s.chapters[c] = some r ∧ (r.state = .rendered ∨ r.state = .published) ∧ r.assembled = some n) :
    samplesTotal s cs = some ((cs.map fun c => ((s.chapters[c].bind (·.assembled)).getD 0)).sum) := by
  induction cs with
  | nil => rfl
  | cons c rest ih =>
    obtain ⟨r, n, hr, hs, hn⟩ := h c List.mem_cons_self
    have known : outputSamples s c = some n := by simp only [outputSamples, hr, if_pos hs, hn]
    rw [samplesTotal, known, ih fun d hd => h d (List.mem_cons_of_mem c hd), List.map_cons, List.sum_cons, hr]
    simp [hn]

/-- One unknown output sample count makes the sum unknown (R22). -/
theorem samplesTotal_unknown {cs : List ChapterId} {c : ChapterId} (hc : c ∈ cs)
    (h : ∀ r, s.chapters[c] = some r → r.state ≠ .rendered ∧ r.state ≠ .published) : samplesTotal s cs = none := by
  have unknown : outputSamples s c = none := by
    unfold outputSamples
    split
    · rename_i r hr
      exact if_neg (by simp [h r hr])
    · rfl
  induction cs with
  | nil => simp at hc
  | cons d rest ih =>
    rcases List.mem_cons.mp hc with rfl | hc
    · rw [samplesTotal, unknown]
    · rw [samplesTotal, ih hc]
      cases outputSamples s d <;> rfl

theorem reportChapter_sent {c : ChapterId} {r : Chapter} (h : s.chapters[c] = some r) :
    reportChapter (u8 c.val) s = accept (u8 c.val ++ u8 r.title.val ++ u8 r.position ++ u8 (chapterCode r.state) ++
      u8 ((r.editor.map (·.val)).getD 255) ++ u8 r.cursor ++ u8 (flag r.scriptCleared + 2 * flag r.assembled.isSome +
        4 * flag r.result.isSome + 8 * flag (ownedOutput r).isSome) ++ u32 (r.assembled.getD 0) ++
      u32 (reportedTotal (samplesTotal s ((chapterList s r.title).take (r.position - 1)))) ++
      (r.result.map resultBytes).getD []) s := by
  have result : (match r.result with | some g => resultBytes g | none => []) = (r.result.map resultBytes).getD [] := by
    cases r.result <;> rfl
  simp only [reportChapter, chapterAt_u8_self, h]
  rw [if_neg (by simp), ← result]
  rfl

/-- TAKE_INFO on a take id and a page byte. -/
theorem reportTake_sent {k : TakeId} {i : Nat} (hi : i < 256) : reportTake (u8 k.val ++ u8 i) s =
    if 10 < i ∧ i ≠ 255 then refuse .badParam s
    else match s.takes[k] with
      | none => refuse .noRecord s
      | some r =>
        if i = 255 then accept (takeSummary k r false ++ takeMeasures r) s
        else accept (takeSummary k r (decide (6 * (i + 1) < r.marks.length)) ++
          ((r.marks.drop (6 * i)).take 6).flatMap markBytes) s := by
  have page : paramAt (u8 k.val ++ u8 i) 1 = i := by rw [paramAt_u8_succ, paramAt_u8_self hi]
  simp only [reportTake, takeAt_u8, page, List.length_append, length_u8, ne_eq, not_true_eq_false, false_or,
    Nat.reduceAdd] <;> cases s.takes[k] <;> rfl

/-- Settles O7: each report reads its record and answers on the state as it is. -/
theorem reportsChangeNothing : Obligations.ReportsChangeNothing := by
  refine ⟨⟨?_, ?_, fun s cs => samplesTotal_known, fun s cs c => samplesTotal_unknown⟩, ⟨?_, ?_⟩, ?_, ?_⟩
  · intro s p t htakes
    refine ⟨fun h => request_refuses htakes ?_, fun r h => request_accepts htakes ?_⟩
    · simp [reportTitle, h]
    · simp only [reportTitle, titleAt_u8_self, h]
      exact if_neg (by simp)
  · intro s p c htakes
    refine ⟨fun h => request_refuses htakes ?_, fun r h => request_accepts htakes (reportChapter_sent h)⟩
    simp [reportChapter, h]
  · rintro s p k ps i rfl htakes
    refine ⟨fun h hi => request_refuses htakes ?_, fun hlo hhi => request_refuses htakes ?_, fun r h =>
      ⟨fun hi => request_accepts htakes ?_, fun hi => request_accepts htakes ?_⟩⟩
    · rw [reportTake_sent (by omega), if_neg (by omega), h]
    · rw [reportTake_sent (by omega), if_pos (by omega)]
    · rw [reportTake_sent (by omega), if_neg (by omega), h]
      exact if_neg (by omega)
    · rw [reportTake_sent (by omega), if_neg (by omega), h]
      simp only [hi, if_true, takeMeasures, List.append_assoc]
  · intro s p htakes
    refine request_accepts htakes ?_
    simp [reportLevels, allPorts]
  · intro s p htakes
    refine request_accepts htakes ?_
    rcases h : s.store.array with _ | _ | _ | ⟨_, _ | (_ | _), _⟩ <;> simp only [reportStore, eraseCode, h] <;> rfl
  · intro s p htakes
    refine request_accepts htakes ?_
    simp only [reportQueue, allLanes, List.flatMap_cons, List.flatMap_nil, List.append_nil, ne_eq, not_true_eq_false,
      if_false, List.append_assoc]
    rfl

end Sys2Proof.Machine

/-! The capture unit's requests, and the stop of a stream. -/

namespace Sys2Proof.Machine

variable {s : State} {p : Port}

/-! ### Words in parameter bytes -/

@[simp] theorem fieldAt_u8_succ (n : Nat) (rest : List Byte) (i m : Nat) :
    fieldAt (u8 n ++ rest) (i + 1) m = fieldAt rest i m := by
  induction m generalizing i with
  | zero => rfl
  | succ m ih => rw [fieldAt, fieldAt, ih]; rfl

theorem fieldAt_u32_add (n : Nat) (rest : List Byte) (i m : Nat) :
    fieldAt (u32 n ++ rest) (i + 4) m = fieldAt rest i m := by
  induction m generalizing i with
  | zero => rfl
  | succ m ih =>
    have h : fieldAt (u32 n ++ rest) (i + 4 + 1) m = fieldAt rest (i + 1) m := ih (i + 1)
    rw [fieldAt, fieldAt, h]
    rfl

theorem word32At_u32 (w : Word32) (rest : List Byte) : word32At (u32 w.toNat ++ rest) 0 = w := by
  apply BitVec.eq_of_toNat_eq
  have := w.isLt
  simp only [word32At, fieldAt, u32, u16, List.cons_append, List.nil_append, List.getD_cons_zero, List.getD_cons_succ,
    BitVec.toNat_ofNat]
  omega

theorem word32At_u8 (n : Nat) (rest : List Byte) (i : Nat) : word32At (u8 n ++ rest) (i + 1) = word32At rest i :=
  congrArg (BitVec.ofNat 32) (fieldAt_u8_succ n rest i 4)

theorem word32At_u32_add (n : Nat) (rest : List Byte) (i : Nat) : word32At (u32 n ++ rest) (i + 4) = word32At rest i :=
  congrArg (BitVec.ofNat 32) (fieldAt_u32_add n rest i 4)

theorem gateOf_gateCode (g : Gate) : gateOf (gateCode g) = g := by cases g <;> rfl

/-! ### TAKE_START -/

/-- TAKE_START with its fields as sent, after the parameter checks (R27). -/
theorem startTake_sent {title : TitleNo} {g : Gate} {a b inc : Word32} :
    startTake p (u8 title.val ++ u8 (gateCode g) ++ u32 a.toNat ++ u32 b.toNat ++ u32 inc.toNat) s =
      if s.captures[p].isSome then refuse .capturing s
      else if s.titles[title].isNone then refuse .noTitle s
      else match firstFree s.takes with
        | none => refuse .noRecord s
        | some k => accept (u8 k.val) (openTake p title k g a b inc s) := by
  have hg : gateCode g < 256 := by cases g <;> decide
  have hle : gateCode g ≤ 1 := by cases g <;> decide
  have gate (rest) : paramAt (u8 title.val ++ (u8 (gateCode g) ++ rest)) 1 = gateCode g := by
    rw [paramAt_u8_succ, paramAt_u8 hg]
  have ha (rest) : word32At (u8 title.val ++ (u8 (gateCode g) ++ (u32 a.toNat ++ rest))) 2 = a := by
    rw [word32At_u8, word32At_u8, word32At_u32]
  have hb (rest) : word32At (u8 title.val ++ (u8 (gateCode g) ++ (u32 a.toNat ++ (u32 b.toNat ++ rest)))) 6 = b := by
    rw [word32At_u8, word32At_u8, word32At_u32_add, word32At_u32]
  have hinc : word32At (u8 title.val ++ (u8 (gateCode g) ++ (u32 a.toNat ++ (u32 b.toNat ++ u32 inc.toNat)))) 10 = inc := by
    rw [word32At_u8, word32At_u8, word32At_u32_add, word32At_u32_add, ← List.append_nil (u32 inc.toNat), word32At_u32]
  simp only [List.append_assoc, startTake, titleAt_u8, gate, ha, hb, hinc, gateOf_gateCode]
  rw [if_neg (by simp [hle])] <;> cases firstFree s.takes <;> rfl

/-! ### GATE_SET -/

/-- The capturing stream of a port (R26). -/
theorem capturingStream_of_some {st : Stream} (h : s.captures[p] = some st) (hc : st.closing = false) :
    capturingStream s p = some st := by
  rw [capturingStream, h]
  simp [hc]

theorem capturingStream_eq_none (h : ∀ st, s.captures[p] = some st → st.closing = true) : capturingStream s p = none := by
  rw [capturingStream]
  cases hp : s.captures[p] with
  | none => rfl
  | some st => simp [h st hp]

/-- GATE_SET with its fields as sent, after the parameter checks (R31). -/
theorem setGateValues_sent {a b inc : Word32} {w : Option Gate} :
    setGateValues p (u32 a.toNat ++ u32 b.toNat ++ u32 inc.toNat ++ u8 ((w.map gateCode).getD 255)) s =
      if (capturingStream s p).isNone then refuse .notCapturing s
      else accept (gatePayload (setPunch p a b inc ((w.map gateCode).getD 255) s) p)
        (setPunch p a b inc ((w.map gateCode).getD 255) s) := by
  have hw : (w.map gateCode).getD 255 < 256 := by rcases w with _ | _ | _ <;> decide
  have hfit : (w.map gateCode).getD 255 ≤ 1 ∨ (w.map gateCode).getD 255 = 255 := by rcases w with _ | _ | _ <;> decide
  have write : paramAt (u32 a.toNat ++ (u32 b.toNat ++ (u32 inc.toNat ++ u8 ((w.map gateCode).getD 255)))) 12 =
      (w.map gateCode).getD 255 := by
    rw [paramAt, fieldAt_u32_add, fieldAt_u32_add, fieldAt_u32_add]
    exact paramAt_u8_self hw
  have ha (rest) : word32At (u32 a.toNat ++ rest) 0 = a := word32At_u32 a rest
  have hb (rest) : word32At (u32 a.toNat ++ (u32 b.toNat ++ rest)) 4 = b := by rw [word32At_u32_add, word32At_u32]
  have hinc (rest) : word32At (u32 a.toNat ++ (u32 b.toNat ++ (u32 inc.toNat ++ rest))) 8 = inc := by
    rw [word32At_u32_add, word32At_u32_add, word32At_u32]
  simp only [List.append_assoc, setGateValues, write, ha, hb, hinc]
  exact if_neg (by simp; omega)

/-- A write at a slot written just before. -/
theorem setStream_setStream (o o' : Option Stream) : setStream p o (setStream p o' s) = setStream p o s := by
  simp [setStream]

theorem setPunch_none {st : Stream} {a b inc : Word32} (h : s.captures[p] = some st) :
    setPunch p a b inc 255 s = setStream p (some { st with a := a, b := b, inc := inc }) s :=
  modStream_of_some h _

/-- A gate write: the gate in the stream and in its live entry, and a mark where it changes (R30, R31, R39). -/
theorem setPunch_some {st : Stream} {r : Take} {a b inc : Word32} {g : Gate} (h : s.captures[p] = some st)
    (hr : s.takes[st.take] = some r) : setPunch p a b inc (gateCode g) s =
      if st.gate = g then
        modLevel p (fun e => { e with gate := g }) (setStream p (some { st with a := a, b := b, inc := inc, gate := g }) s)
      else setTake st.take (some (gateMark g st.pos r))
        (modLevel p (fun e => { e with gate := g })
          (setStream p (some { st with a := a, b := b, inc := inc, gate := g }) s)) := by
  have hg : gateCode g ≠ 255 := by cases g <;> decide
  have punched : (setStream p (some { st with a := a, b := b, inc := inc }) s).captures[p] =
      some { st with a := a, b := b, inc := inc } := setStream_captures_self ..
  simp only [setPunch, if_neg hg, modStream_of_some h, gateOf_gateCode, setGate, punched, modStream_of_some punched,
    setStream_setStream]
  split
  · rfl
  · exact modTake_of_some (s := modLevel p _ (setStream p _ s)) hr _

/-- Settles O15: each request reads its fields as they were written, and changes its record as one equation of the model
says. -/
theorem takeStartAndGateSet : Obligations.TakeStartAndGateSet := by
  refine ⟨?_, ?_⟩
  · rintro s p title g a b inc ps rfl htakes
    refine ⟨fun h => request_refuses htakes ?_, fun h ht => request_refuses htakes ?_, fun r h ht =>
      ⟨fun hfull => request_refuses htakes ?_, fun k hk hfirst => request_accepts htakes ?_⟩⟩
    · rw [startTake_sent, if_pos (by simpa [Option.isSome_iff_ne_none] using h)]
    · simp only [startTake_sent, h, ht]
      rfl
    · simp only [startTake_sent, h, ht, firstFree_eq_none hfull]
      rfl
    · simp only [startTake_sent, h, ht, firstFree_eq_some hk hfirst, openTake, modTitle_of_some ht]
      rfl
  · rintro s p a b inc w ps rfl htakes
    refine ⟨fun h => request_refuses htakes ?_, ?_⟩
    · rw [setGateValues_sent, capturingStream_eq_none h]
      rfl
    · rintro st r u h hc hr rfl
      have capturing := capturingStream_of_some h hc
      refine ⟨?_, ?_⟩
      · rintro rfl
        refine request_accepts htakes ?_
        rw [setGateValues_sent, capturing, Option.map_none, Option.getD_none, setPunch_none h]
        simp [gatePayload]
      · rintro g rfl
        refine request_accepts htakes ?_
        rw [setGateValues_sent, capturing, Option.map_some, Option.getD_some, setPunch_some h hr]
        by_cases hg : st.gate = g
        · simp [gatePayload, hg]
        · simp [gatePayload, hg, Ne.symm hg, gateMark]

/-! ### A stop -/

/-- A stopped stream (R38). -/
def shutStream (st : Stream) : Stream := { st with gate := .shut, run := none, closing := true }

/-- A take whose stream's open dropout run has ended: its mark is at the take's length (R33). -/
def endedTake (st : Stream) (r : Take) : Take :=
  match st.run with
  | none => r
  | some n => appendMark ⟨.dropout, r.length, n⟩ r

/-- The notice of a dropout run that a stop ends (R33). -/
def runNotice (st : Stream) (ps : PortState) : PortState :=
  match st.run with
  | none => ps
  | some n => pushNotice (notice .dropout st.take.val 1 n) ps

@[simp] theorem appendMark_length (m : Mark) (r : Take) : (appendMark m r).length = r.length := by
  unfold appendMark
  split <;> rfl

@[simp] theorem endedTake_length (st : Stream) (r : Take) : (endedTake st r).length = r.length := by
  unfold endedTake
  split
  · rfl
  · exact appendMark_length _ _

/-- A stop, before the take may close at once. -/
def closing (p : Port) (st : Stream) (r : Take) (reason : StopReason) (s : State) : State :=
  modPort p (runNotice st) (modLevel p (fun e => { e with gate := .shut }) (setStream p (some (shutStream st))
    (setTake st.take (some { endedTake st r with state := .closing, stopReason := some reason }) s)))

theorem endRun_none {st : Stream} {detail : Nat} (h : s.captures[p] = some st) (hrun : st.run = none) :
    endRun p detail s = s := by
  simp only [endRun, h, hrun]

theorem endRun_some {st : Stream} {r : Take} {detail n : Nat} (h : s.captures[p] = some st) (hrun : st.run = some n)
    (hr : s.takes[st.take] = some r) : endRun p detail s =
      notify p (notice .dropout st.take.val detail n) (setTake st.take (some (appendMark ⟨.dropout, r.length, n⟩ r))
        (setStream p (some { st with run := none }) s)) := by
  simp only [endRun, h, hrun, modStream_of_some h]
  rw [modTake_of_some (s := setStream p _ s) hr]

theorem stopStream_eq {st : Stream} {r : Take} (reason : StopReason) (h : s.captures[p] = some st)
    (hr : s.takes[st.take] = some r) : stopStream p reason s = takeClosedDue p (closing p st r reason s) := by
  have shut : modLevel p (fun e => { e with gate := .shut }) (modStream p (fun st => { st with gate := .shut }) s) =
      modLevel p (fun e => { e with gate := .shut }) (setStream p (some { st with gate := .shut }) s) := by
    rw [modStream_of_some h]
  have stream : (modLevel p (fun e => { e with gate := .shut })
      (setStream p (some { st with gate := .shut }) s)).captures[p] = some { st with gate := .shut } :=
    setStream_captures_self ..
  simp only [stopStream, h, shut]
  congr 1
  have hr' : s.takes[st.take.val] = some r := hr
  rcases Option.eq_none_or_eq_some st.run with hrun | ⟨n, hrun⟩
  · rw [endRun_none stream hrun]
    simp [closing, shutStream, endedTake, runNotice, hrun, modStream, modTake, modLevel, modPort, setStream, setTake, hr']
  · rw [endRun_some stream hrun hr]
    simp [closing, shutStream, endedTake, runNotice, hrun, modStream, modTake, modLevel, notify, modPort, setStream,
      setTake]

theorem takeClosedDue_drained {st : Stream} {r : Take} (h : s.captures[p] = some st) (hr : s.takes[st.take] = some r)
    (hd : drained p s = true) : takeClosedDue p s =
      notify p (notice .takeClosed st.take.val ((r.stopReason.map stopCode).getD 0) r.length)
        (modLevel p (fun e => { e with present := false })
          (setStream p none (setTake st.take (some { r with state := .closed, port := none }) s))) := by
  simp only [takeClosedDue, h, hr, hd, if_true, Option.bind_some, Option.map_some, Option.getD_some, modTake_of_some hr]

theorem takeClosedDue_not_drained (hd : drained p s = false) : takeClosedDue p s = s := by
  unfold takeClosedDue
  split
  · rfl
  · exact if_neg (by simp [hd])

theorem closing_captures {st : Stream} {r : Take} {reason : StopReason} :
    (closing p st r reason s).captures[p] = some (shutStream st) := setStream_captures_self ..

theorem closing_takes {st : Stream} {r : Take} {reason : StopReason} : (closing p st r reason s).takes[st.take] =
    some { endedTake st r with state := .closing, stopReason := some reason } := setTake_takes_self ..

theorem drained_closing {st : Stream} {r : Take} {reason : StopReason} :
    drained p (closing p st r reason s) = decide (st.fifo = [] ∧ inStore (.stream p) s.store = false) := by
  have : drained p (closing p st r reason s) = (true && st.fifo.isEmpty && !inStore (.stream p) s.store) := by
    simp only [drained, closing_captures]
    rfl
  rw [this]
  cases h : inStore (.stream p) s.store <;> cases hf : st.fifo <;> simp

/-- A stop with nothing left to drain: the take is CLOSED at once (R38). -/
theorem stopStream_closed {st : Stream} {r : Take} (reason : StopReason) (h : s.captures[p] = some st)
    (hr : s.takes[st.take] = some r) (hd : st.fifo = [] ∧ inStore (.stream p) s.store = false) :
    stopStream p reason s =
      modPort p (fun ps => pushNotice (notice .takeClosed st.take.val (stopCode reason) r.length) (runNotice st ps))
        (modLevel p (fun e => { e with present := false, gate := .shut }) (setStream p none
          (setTake st.take (some { endedTake st r with state := .closed, port := none, stopReason := some reason }) s))) := by
  rw [stopStream_eq reason h hr,
    takeClosedDue_drained closing_captures closing_takes (drained_closing.trans (decide_eq_true hd))]
  simp [closing, shutStream, modLevel, notify, modPort, setStream, setTake]

/-- A stop with samples or a page left: the take drains (R38). -/
theorem stopStream_draining {st : Stream} {r : Take} (reason : StopReason) (h : s.captures[p] = some st)
    (hr : s.takes[st.take] = some r) (hd : ¬(st.fifo = [] ∧ inStore (.stream p) s.store = false)) :
    stopStream p reason s = closing p st r reason s := by
  rw [stopStream_eq reason h hr, takeClosedDue_not_drained (drained_closing.trans (decide_eq_false hd))]

/-- What follows in the store changes nothing of a take but its chain. -/
theorem settle_take {k : TakeId} {r : Take} (h : s.takes[k] = some r) :
    ∃ chain, (settle s).takes[k] = some { r with chain := chain } := by
  have kept := (settle_work (within_true s)).takes k
  have h : s.takes[k.val] = some r := h
  rw [h, Option.map_some] at kept
  obtain ⟨r', hr', hrest⟩ := Option.map_eq_some_iff.mp kept
  exact ⟨r'.chain, hr'.trans (congrArg some (by rw [show r' = { takeRest r' with chain := r'.chain } from rfl, hrest]; rfl))⟩

/-- The state code of TAKE_STOP's payload is that of the stop, whatever follows in the store. -/
theorem stopPayload_settle {k : TakeId} {r : Take} (h : s.takes[k] = some r) :
    stopPayload (settle s) k = u8 k.val ++ u8 (takeCode r.state) ++ u32 r.length := by
  obtain ⟨chain, hr⟩ := settle_take h
  simp only [stopPayload, hr]

/-- Settles O16: a stop is one of two equations, by what is left to drain; TAKE_STOP and TAKE_RETIRE go through their
checks to it and to the freeing of the record. -/
theorem takeStopAndRetire : Obligations.TakeStopAndRetire := by
  refine ⟨?_, ?_, ?_⟩
  · rintro s t p st r r' reason h hr rfl hr'
    have hr' : r' = endedTake st r := by
      rw [hr', endedTake] <;> cases st.run <;> rfl
    subst hr'
    by_cases hd : st.fifo = [] ∧ inStore (.stream p) s.store = false
    · rw [stopStream_closed reason h hr hd]
      refine ⟨fun _ _ => ⟨setStream_captures_self .., setTake_takes_self .., by simp⟩, fun hn => absurd hd hn,
        ?_, rfl, rfl, rfl, fun q hq => ⟨setStream_captures_ne _ _ _ _ hq, by simp [modLevel_levels_ne _ _ _ _ hq],
          modPort_ports_ne _ _ _ _ hq⟩, fun k hk => setTake_takes_ne _ _ _ _ hk⟩
      rcases Option.eq_none_or_eq_some st.run with hrun | ⟨n, hrun⟩ <;> simp [hd, runNotice, hrun]
    · rw [stopStream_draining reason h hr hd]
      refine ⟨fun hf hs => absurd ⟨hf, hs⟩ hd, fun _ => ⟨closing_captures, closing_takes, by simp [closing]⟩,
        ?_, rfl, rfl, rfl, fun q hq => ⟨setStream_captures_ne _ _ _ _ hq, by simp [closing, modLevel_levels_ne _ _ _ _ hq],
          modPort_ports_ne _ _ _ _ hq⟩, fun k hk => setTake_takes_ne _ _ _ _ hk⟩
      rcases Option.eq_none_or_eq_some st.run with hrun | ⟨n, hrun⟩ <;> simp [hd, closing, runNotice, hrun]
  · intro s p htakes
    refine ⟨fun h => request_refuses htakes ?_, fun st r h hc hr => request_accepts htakes ?_⟩
    · simp [stopTake, capturingStream_eq_none h]
    · have capturing := capturingStream_of_some h hc
      simp only [stopTake, capturing, ne_eq, not_true_eq_false, if_false]
      by_cases hd : st.fifo = [] ∧ inStore (.stream p) s.store = false
      · have closed : (stopStream p .requested s).takes[st.take] =
            some { endedTake st r with state := .closed, port := none, stopReason := some .requested } := by
          rw [stopStream_closed _ h hr hd]
          exact setTake_takes_self ..
        rw [stopPayload_settle closed, if_pos hd, endedTake_length]
        rfl
      · have draining : (stopStream p .requested s).takes[st.take] =
            some { endedTake st r with state := .closing, stopReason := some .requested } := by
          rw [stopStream_draining _ h hr hd]
          exact closing_takes
        rw [stopPayload_settle draining, if_neg hd, endedTake_length]
        rfl
  · intro s p k htakes
    refine ⟨fun h => request_refuses htakes ?_, fun r h => ⟨fun hs => request_refuses htakes ?_, fun hs hr =>
      request_refuses htakes ?_, fun hs hr => request_accepts htakes ?_⟩⟩
    · simp [retireTake, h]
    · simp [retireTake, h, hs]
    · simp [retireTake, h, hs, hr]
    · simp only [retireTake, takeAt_u8_self, h, hs, hr, freeTake]
      rfl

end Sys2Proof.Machine

/-! What the release of a source does: the streams that read it are detached, the read in progress for one of them belongs
to no reader any more, and the chain joins the DIRTY pool. -/

namespace Sys2Proof.Machine

variable {s : State}

/-! ### Ports that lose their source -/

/-- A port whose stream has lost its source (R180). -/
def detachedPort (ps : PortState) : PortState := { ps with stream := .detached, xfer := unlink ps.xfer }

/-- The array's operation when the readers of a set of ports have gone (R80). -/
def readLosing (lost : Port → Bool) (op : ArrayOp) : ArrayOp :=
  match op with
  | .reading (.port p) gone slot => .reading (.port p) (gone || lost p) slot
  | op => op

theorem readLosing_readLosing (a b : Port → Bool) (op : ArrayOp) :
    readLosing b (readLosing a op) = readLosing (fun p => a p || b p) op := by
  unfold readLosing
  rcases op with _ | ⟨_ | p, gone, slot⟩ | _ | _ <;> simp [Bool.or_assoc]

/-- Only a read in progress for one of the ports changes. -/
theorem readLosing_eq_self {lost : Port → Bool} {op : ArrayOp}
    (h : ∀ p slot, op = .reading (.port p) false slot → lost p = false) : readLosing lost op = op := by
  unfold readLosing
  rcases op with _ | ⟨_ | p, _ | _, slot⟩ | _ | _ <;> simp_all

theorem orphanRead_eq (p : Port) (st : Store) :
    orphanRead (.port p) st = { st with array := readLosing (· == p) st.array } := by
  have kept (h : ∀ slot, st.array ≠ .reading (.port p) false slot) :
      { st with array := readLosing (· == p) st.array } = st := by
    rw [readLosing_eq_self fun q slot hq => beq_eq_false_iff_ne.mpr (by rintro rfl; exact h slot hq)]
  unfold orphanRead
  split
  · rename_i w slot h
    split
    · rename_i hw
      simp [h, hw, readLosing]
    · rename_i hw
      exact (kept fun slot' h' => hw (by rw [h] at h'; cases h'; rfl)).symm
  · rename_i h
    exact (kept fun slot h' => h _ _ h').symm

/-- The streams of a set of ports have lost their source; no port changes in anything else, nor does the array (R80,
R180). -/
def Detaches (lost : Port → Bool) (s t : State) : Prop :=
  (∀ p : Port, t.ports[p] = if lost p then detachedPort s.ports[p] else s.ports[p]) ∧
    t.store.array = readLosing lost s.store.array

variable {a b : Port → Bool} {t u : State}

theorem Detaches.of_eq (hp : t.ports = s.ports) (ha : t.store.array = s.store.array) : Detaches (fun _ => false) s t :=
  ⟨fun p => by rw [hp]; rfl, by rw [ha, readLosing_eq_self fun _ _ _ => rfl]⟩

theorem detachedPort_detachedPort (ps : PortState) : detachedPort (detachedPort ps) = detachedPort ps := by
  unfold detachedPort unlink
  cases ps.xfer <;> rfl

/-- Sources lost one after the other. -/
theorem Detaches.trans (h : Detaches a s t) (k : Detaches b t u) : Detaches (fun p => a p || b p) s u := by
  refine ⟨fun p => ?_, by rw [k.2, h.2, readLosing_readLosing]⟩
  rw [k.1 p, h.1 p]
  by_cases ha : a p = true <;> by_cases hb : b p = true <;> simp [ha, hb, detachedPort_detachedPort]

/-- The ports and the array's operation change, and nothing else. -/
def PortsOnly (s t : State) : Prop := t = { s with ports := t.ports, store := { s.store with array := t.store.array } }

theorem PortsOnly.trans (h : PortsOnly s t) (k : PortsOnly t u) : PortsOnly s u := by
  unfold PortsOnly at *
  rw [k, h]

/-- One port's stream dropped with its source. -/
theorem detaches_dropStream (p : Port) (s : State) :
    Detaches (· == p) s (dropStream p .detached s) ∧ PortsOnly s (dropStream p .detached s) := by
  refine ⟨⟨fun q => ?_, congrArg Store.array (orphanRead_eq p s.store)⟩, ?_⟩
  · by_cases hq : q = p
    · subst hq
      rw [if_pos (beq_self_eq_true q)]
      exact modPort_ports_self s q fun ps => detachedPort ps
    · rw [if_neg (by simp [hq])]
      exact modPort_ports_ne s p q (fun ps => detachedPort ps) hq
  · rw [PortsOnly, dropStream, modStore, modPort_store, orphanRead_eq]
    rfl

/-- A set of ports by its members. -/
theorem Detaches.of_iff (h : Detaches a s t) (hab : ∀ p, a p = b p) : Detaches b s t := (funext hab : a = b) ▸ h

/-- What a detach changes, and that it changes nothing else (R80, R180). -/
theorem detaches_detach (src : StreamSource) (s : State) :
    Detaches (fun p => activeSource s.ports[p] == some src) s (detach src s) ∧ PortsOnly s (detach src s) := by
  have fold (ps : List Port) (s : State) :
      Detaches (fun p => ps.contains p && activeSource s.ports[p] == some src) s
          (ps.foldl (fun s p => if activeSource s.ports[p] = some src then dropStream p .detached s else s) s) ∧
        PortsOnly s
          (ps.foldl (fun s p => if activeSource s.ports[p] = some src then dropStream p .detached s else s) s) := by
    induction ps generalizing s with
    | nil => exact ⟨.of_eq rfl rfl, rfl⟩
    | cons p ps ih =>
      rw [List.foldl_cons]
      by_cases hp : activeSource s.ports[p] = some src
      · rw [if_pos hp]
        obtain ⟨first, firstOnly⟩ := detaches_dropStream p s
        obtain ⟨rest, restOnly⟩ := ih (dropStream p .detached s)
        refine ⟨(first.trans rest).of_iff fun q => ?_, firstOnly.trans restOnly⟩
        by_cases hq : q = p
        · subst hq
          have hp : activeSource s.ports[q.val] = some src := hp
          simp [hp]
        · have same := first.1 q
          rw [if_neg (by simp [hq])] at same
          rw [same]
          simp [hq]
      · rw [if_neg hp]
        obtain ⟨rest, restOnly⟩ := ih s
        refine ⟨rest.of_iff fun q => ?_, restOnly⟩
        by_cases hq : q = p
        · subst hq
          have hp : activeSource s.ports[q.val] ≠ some src := hp
          simp [hp]
        · simp [hq]
  obtain ⟨detached, only⟩ := fold allPorts s
  refine ⟨detached.of_iff fun p => ?_, only⟩
  have hm : p ∈ allPorts := by fin_cases p <;> simp [allPorts]
  simp [hm]

theorem ports_ext {s t : State} (h : ∀ p : Port, t.ports[p] = s.ports[p]) : t.ports = s.ports :=
  Vector.ext fun i hi => h ⟨i, hi⟩

/-- A detach reads of a state no more than its ports and the array's operation. -/
theorem detach_congr {src : StreamSource} (hp : t.ports = s.ports) (ha : t.store.array = s.store.array) :
    (detach src t).ports = (detach src s).ports ∧ (detach src t).store.array = (detach src s).store.array := by
  obtain ⟨⟨ports, array⟩, -⟩ := detaches_detach src s
  obtain ⟨⟨ports', array'⟩, -⟩ := detaches_detach src t
  exact ⟨ports_ext fun p => by rw [ports' p, ports p, hp], by rw [array', array, ha, hp]⟩

/-! ### The DIRTY pool -/

@[simp] theorem release_ports (chain : List Nat) (s : State) : (release chain s).ports = s.ports := rfl
@[simp] theorem release_titles (chain : List Nat) (s : State) : (release chain s).titles = s.titles := rfl
@[simp] theorem release_takes (chain : List Nat) (s : State) : (release chain s).takes = s.takes := rfl
@[simp] theorem release_chapters (chain : List Nat) (s : State) : (release chain s).chapters = s.chapters := rfl
@[simp] theorem release_queue (chain : List Nat) (s : State) : (release chain s).queue = s.queue := rfl
@[simp] theorem release_lanes (chain : List Nat) (s : State) : (release chain s).lanes = s.lanes := rfl

/-- The chain joins the tail of the DIRTY pool (R67); the ERASED pool and the array's operation stay. -/
theorem release_pools (chain : List Nat) (s : State) : (release chain s).store.dirty = s.store.dirty ++ chain ∧
    (release chain s).store.erased = s.store.erased ∧ (release chain s).store.array = s.store.array := by
  unfold release modStore
  dsimp only
  split <;> exact ⟨rfl, rfl, rfl⟩

@[simp] theorem release_dirty (chain : List Nat) (s : State) : (release chain s).store.dirty = s.store.dirty ++ chain :=
  (release_pools chain s).1

@[simp] theorem release_erased (chain : List Nat) (s : State) : (release chain s).store.erased = s.store.erased :=
  (release_pools chain s).2.1

@[simp] theorem release_array (chain : List Nat) (s : State) : (release chain s).store.array = s.store.array :=
  (release_pools chain s).2.2

/-! ### What a detach leaves -/

@[simp] theorem detach_titles (src : StreamSource) (s : State) : (detach src s).titles = s.titles := by
  rw [(detaches_detach src s).2]
@[simp] theorem detach_takes (src : StreamSource) (s : State) : (detach src s).takes = s.takes := by
  rw [(detaches_detach src s).2]
@[simp] theorem detach_chapters (src : StreamSource) (s : State) : (detach src s).chapters = s.chapters := by
  rw [(detaches_detach src s).2]
@[simp] theorem detach_captures (src : StreamSource) (s : State) : (detach src s).captures = s.captures := by
  rw [(detaches_detach src s).2]
@[simp] theorem detach_levels (src : StreamSource) (s : State) : (detach src s).levels = s.levels := by
  rw [(detaches_detach src s).2]
@[simp] theorem detach_queue (src : StreamSource) (s : State) : (detach src s).queue = s.queue := by
  rw [(detaches_detach src s).2]
@[simp] theorem detach_lanes (src : StreamSource) (s : State) : (detach src s).lanes = s.lanes := by
  rw [(detaches_detach src s).2]
@[simp] theorem detach_profiles (src : StreamSource) (s : State) : (detach src s).profiles = s.profiles := by
  rw [(detaches_detach src s).2]
@[simp] theorem detach_dirty (src : StreamSource) (s : State) : (detach src s).store.dirty = s.store.dirty := by
  rw [(detaches_detach src s).2]
@[simp] theorem detach_erased (src : StreamSource) (s : State) : (detach src s).store.erased = s.store.erased := by
  rw [(detaches_detach src s).2]

/-! ### A chapter's output and a take released -/

theorem releaseOutput_eq {c : ChapterId} {r : Chapter} {o : Output} (h : s.chapters[c] = some r)
    (ho : ownedOutput r = some o) :
    releaseOutput c s = detach (.output c) (release o.chain (setChapter c (some (withoutOutput r)) s)) := by
  simp only [releaseOutput, h, Option.bind_some, ho, modChapter_of_some h]
  rfl

theorem releaseOutput_of_none {c : ChapterId} {r : Chapter} (h : s.chapters[c] = some r) (ho : ownedOutput r = none) :
    releaseOutput c s = s := by
  simp only [releaseOutput, h, Option.bind_some, ho]

theorem freeTake_eq {k : TakeId} {r : Take} (h : s.takes[k] = some r) :
    freeTake k s = setTake k none (detach (.take k) (release r.chain
      (modTitle r.title (fun x => { x with takeCount := x.takeCount - 1 }) s))) := by
  simp only [freeTake, h]

/-- A title's record after the change of one title. -/
theorem modTitle_titles (k n : TitleNo) (f : Title → Title) (s : State) :
    (modTitle k f s).titles[n] = s.titles[n].map fun x => if n = k then f x else x := by
  by_cases h : n = k
  · subst h
    simp
  · have kept : (modTitle k f s).titles[n] = s.titles[n] := modTitle_titles_ne s k n f h
    simp only [kept, if_neg h, Option.map_id']

/-- Settles O12: a detach is described port by port; a release is a detach after the chain has joined the DIRTY pool. -/
theorem releasedSourceDetaches : Obligations.ReleasedSourceDetaches := by
  refine ⟨?_, ?_, ?_⟩
  · rintro s t src rfl
    obtain ⟨⟨ports, array⟩, only⟩ := detaches_detach src s
    refine ⟨fun p => ⟨fun hp => ?_, fun hp => ?_⟩, fun p slot ha hp => ?_, fun ha => ?_, detach_titles .., detach_takes ..,
      detach_chapters .., detach_captures .., detach_levels .., detach_queue .., detach_lanes .., detach_profiles ..⟩
    · refine (ports p).trans ((if_pos (by simpa using hp)).trans ?_)
      unfold detachedPort unlink
      cases s.ports[p].xfer <;> rfl
    · rw [ports p, if_neg (by simpa using hp)]
    · rw [only, array, ha, readLosing, hp]
      simp
    · rw [only, array, readLosing_eq_self fun p slot hs => by simpa using ha p slot hs]
  · rintro s c r h
    refine ⟨releaseOutput_of_none h, ?_⟩
    rintro o t ho rfl
    rw [releaseOutput_eq h ho]
    have same := detach_congr (src := .output c) (s := s) (t := release o.chain (setChapter c (some (withoutOutput r)) s))
      rfl (release_array ..)
    refine ⟨?_, fun d hd => ?_, by simp, by simp, same.2, same.1, by simp, by simp, by simp, by simp⟩
    · rw [detach_chapters]
      exact setChapter_chapters_self ..
    · rw [detach_chapters]
      exact setChapter_chapters_ne _ _ _ _ hd
  · rintro s t k r h rfl
    rw [freeTake_eq h]
    have same := detach_congr (src := .take k) (s := s)
      (t := release r.chain (modTitle r.title (fun x => { x with takeCount := x.takeCount - 1 }) s)) rfl (release_array ..)
    refine ⟨setTake_takes_self .., fun j hj => ?_, by simp, by simp, same.2, same.1, by simp, fun n => ?_⟩
    · refine (setTake_takes_ne _ k j none hj).trans ?_
      simp
    · rw [setTake_titles, detach_titles, release_titles, modTitle_titles]

end Sys2Proof.Machine

/-! A chapter let go: what its removal from the render unit, the release of its output and of its references, and then the
consequences in the store leave of a state (R16, R19, R92, R95, R105). -/

namespace Sys2Proof.Machine

variable {s t v : State} {c : ChapterId}

/-! ### The pools where a lane is given up -/

theorem abandonSource_pools (src : Source) (st : Store) :
    (abandonSource src st).dirty = st.dirty ∧ (abandonSource src st).erased = st.erased := by
  unfold abandonSource
  dsimp only
  split <;> exact ⟨rfl, rfl⟩

theorem orphanRead_pools (who : Reader) (st : Store) :
    (orphanRead who st).dirty = st.dirty ∧ (orphanRead who st).erased = st.erased := by
  unfold orphanRead
  split
  · split <;> exact ⟨rfl, rfl⟩
  · exact ⟨rfl, rfl⟩

/-- A lane given up changes the lanes and the store alone. -/
theorem clearLane_eq (l : Lane) (s : State) :
    clearLane l s = { s with lanes := (clearLane l s).lanes, store := (clearLane l s).store } := by
  unfold clearLane
  split <;> rfl

theorem clearLane_dirty (l : Lane) (s : State) : (clearLane l s).store.dirty = s.store.dirty ++ laneChain s l := by
  unfold clearLane laneChain
  split
  · rename_i h
    simp only [h, Option.map_none, Option.getD_none, List.append_nil]
  · rename_i j h
    simp only [h, release_dirty, setLane_store, Option.map_some, Option.getD_some]
    rw [modStore, (orphanRead_pools _ _).1, (abandonSource_pools _ _).1]

theorem clearLane_erased (l : Lane) (s : State) : (clearLane l s).store.erased = s.store.erased := by
  unfold clearLane
  split
  · rfl
  · simp only [release_erased, setLane_store]
    rw [modStore, (orphanRead_pools _ _).2, (abandonSource_pools _ _).2]

theorem abortJobOf_eq (c : ChapterId) (s : State) :
    abortJobOf c s = { s with lanes := (abortJobOf c s).lanes, store := (abortJobOf c s).store } := by
  unfold abortJobOf
  split
  · exact clearLane_eq _ s
  · rfl

theorem abortJobOf_pools (c : ChapterId) (s : State) : (abortJobOf c s).store.dirty = s.store.dirty ++ jobBlocks s c ∧
    (abortJobOf c s).store.erased = s.store.erased := by
  unfold abortJobOf jobBlocks
  cases h : laneOf s c with
  | none => simp
  | some l => exact ⟨clearLane_dirty l s, clearLane_erased l s⟩

/-! ### Off the render path -/

/-- Off the render path changes the queue, the lanes and the store alone. -/
theorem offRenderPath_eq (c : ChapterId) (s : State) : offRenderPath c s = { s with
    queue := (offRenderPath c s).queue, lanes := (offRenderPath c s).lanes, store := (offRenderPath c s).store } := by
  unfold offRenderPath
  rw [abortJobOf_eq]
  rfl

@[simp] theorem offRenderPath_titles : (offRenderPath c s).titles = s.titles := by rw [offRenderPath_eq]
@[simp] theorem offRenderPath_takes : (offRenderPath c s).takes = s.takes := by rw [offRenderPath_eq]
@[simp] theorem offRenderPath_chapters : (offRenderPath c s).chapters = s.chapters := by rw [offRenderPath_eq]
@[simp] theorem offRenderPath_levels : (offRenderPath c s).levels = s.levels := by rw [offRenderPath_eq]
@[simp] theorem offRenderPath_profiles : (offRenderPath c s).profiles = s.profiles := by rw [offRenderPath_eq]
@[simp] theorem offRenderPath_ports : (offRenderPath c s).ports = s.ports := by rw [offRenderPath_eq]
@[simp] theorem offRenderPath_dirty : (offRenderPath c s).store.dirty = s.store.dirty ++ jobBlocks s c :=
  (abortJobOf_pools c _).1
@[simp] theorem offRenderPath_erased : (offRenderPath c s).store.erased = s.store.erased := (abortJobOf_pools c _).2

/-- The render unit holds a chapter where its view shows it. -/
theorem notHeld_iff : (view s).NotHeld c ↔ NotHeld s c := by
  simp [View.NotHeld, NotHeld, view, laneChapter]

theorem notHeld_off (h : QueueLaw s) (c : ChapterId) : NotHeld (offRenderPath c s) c :=
  notHeld_iff.mp (notHeld_offRenderPath (heldLaw_of_queueLaw h) c)

/-- A chapter that is neither QUEUED nor RENDERING is not held (R87). -/
theorem notHeld_of_state {r : Chapter} (h : QueueLaw s) (hc : s.chapters[c] = some r) (hq : r.state ≠ .queued)
    (hr : r.state ≠ .rendering) : NotHeld s c := by
  obtain ⟨-, -, queued, rendering, -⟩ := h
  have state : chapterState s c = some r.state := by rw [chapterState, hc]; rfl
  refine ⟨fun e he hec => hq ?_, fun l hl => hr ?_⟩
  · exact Option.some.inj (state.symm.trans ((queued c).mpr (List.mem_map.mpr ⟨e, he, hec⟩)))
  · exact Option.some.inj (state.symm.trans ((rendering c).mpr ⟨l, hl⟩))

/-! ### The output let go -/

/-- An output let go changes the chapter's record, the ports and the store alone. -/
theorem releaseOutput_frame (c : ChapterId) (s : State) : releaseOutput c s = { s with
    chapters := (releaseOutput c s).chapters, ports := (releaseOutput c s).ports, store := (releaseOutput c s).store } := by
  unfold releaseOutput
  split
  · rw [(detaches_detach _ _).2]
    rfl
  · rfl

@[simp] theorem releaseOutput_titles : (releaseOutput c s).titles = s.titles := by rw [releaseOutput_frame]
@[simp] theorem releaseOutput_takes : (releaseOutput c s).takes = s.takes := by rw [releaseOutput_frame]
@[simp] theorem releaseOutput_levels : (releaseOutput c s).levels = s.levels := by rw [releaseOutput_frame]
@[simp] theorem releaseOutput_profiles : (releaseOutput c s).profiles = s.profiles := by rw [releaseOutput_frame]
@[simp] theorem releaseOutput_queue : (releaseOutput c s).queue = s.queue := by rw [releaseOutput_frame]
@[simp] theorem releaseOutput_lanes : (releaseOutput c s).lanes = s.lanes := by rw [releaseOutput_frame]

theorem releaseOutput_pools (c : ChapterId) (s : State) :
    (releaseOutput c s).store.dirty = s.store.dirty ++ ownedChain s c ∧
      (releaseOutput c s).store.erased = s.store.erased := by
  unfold releaseOutput ownedChain
  cases h : s.chapters[c].bind ownedOutput with
  | none => simp
  | some o => exact ⟨by simp, by simp⟩

/-- The ports whose stream reads the output a chapter owns. -/
def readsOutput (s : State) (c : ChapterId) (p : Port) : Bool :=
  (s.chapters[c].bind ownedOutput).isSome && activeSource s.ports[p] == some (.output c)

theorem detaches_releaseOutput (c : ChapterId) (s : State) : Detaches (readsOutput s c) s (releaseOutput c s) := by
  unfold releaseOutput
  cases h : s.chapters[c].bind ownedOutput with
  | none => exact (Detaches.of_eq rfl rfl).of_iff fun p => by rw [readsOutput, h]; rfl
  | some o =>
    have first : Detaches (fun _ => false) s (release o.chain
        (modChapter c (fun r => { r with result := r.result.map fun g => { g with output := none } }) s)) :=
      .of_eq rfl (release_array ..)
    exact (first.trans (detaches_detach (.output c) _).1).of_iff fun p => by rw [readsOutput, h]; rfl

/-- The records after an output is let go. -/
theorem chapters_releaseOutput (c : ChapterId) (s : State) :
    (releaseOutput c s).chapters[c] = s.chapters[c].map withoutOutput ∧
      ∀ d, d ≠ c → (releaseOutput c s).chapters[d] = s.chapters[d] := by
  have h := congrArg View.chapter (view_releaseOutput c s)
  refine ⟨(congrFun h c).trans (by simp; rfl), fun d hd => (congrFun h d).trans (by simp [hd]; rfl)⟩

/-! ### What follows -/

/-- Notices are only added at a queue's tail (R190). -/
theorem pushNotice_prefix (n : Notice) (ps : PortState) : ps.notices <+: (pushNotice n ps).notices := by
  unfold pushNotice
  split
  · exact List.prefix_append _ _
  · exact List.prefix_rfl

theorem broadcast_prefix (n : Notice) (s : State) (q : Port) : s.ports[q].notices <+: (broadcast n s).ports[q].notices := by
  have h : (broadcast n s).ports[q] = if subscribed n.kind s.ports[q] then pushNotice n s.ports[q] else s.ports[q] :=
    broadcast_ports s n q
  rw [h]
  split
  · exact pushNotice_prefix n _
  · exact List.prefix_rfl

theorem enterState_prefix (c : ChapterId) (st : ChapterState) (cause : Cause) (s : State) (q : Port) :
    s.ports[q].notices <+: (enterState c st cause s).ports[q].notices := broadcast_prefix _ (modChapter c _ s) q

theorem beginJob_prefix (l : Lane) (c : ChapterId) (origin : Port) (s : State) (q : Port) :
    s.ports[q].notices <+: (beginJob l c origin s).ports[q].notices := by
  unfold beginJob
  split
  · exact List.prefix_rfl
  · dsimp only
    split
    · exact enterState_prefix c .rejected .tooLong (writeResult c _ (setLane l none s)) q
    · exact List.prefix_rfl

theorem clearLane_ports (l : Lane) (s : State) : (clearLane l s).ports = s.ports := by rw [clearLane_eq]

theorem Consequence.notices (h : Consequence s t) (q : Port) : s.ports[q].notices <+: t.ports[q].notices := by
  cases h with
  | store | chain | fifo | job => exact List.prefix_rfl
  | fetch p f hf =>
    by_cases hq : q = p
    · subst hq
      obtain ⟨st, hst, -⟩ := hf s.ports[q]
      have : (modPort q f s).ports[q] = f s.ports[q] := modPort_ports_self ..
      rw [this, hst]
    · have : (modPort p f s).ports[q] = s.ports[q] := modPort_ports_ne _ _ _ _ hq
      rw [this]
  | post n => exact broadcast_prefix n s q
  | start l e rest hl hq =>
    exact (enterState_prefix e.chapter .rendering .started (setQueue rest s) q).trans (beginJob_prefix l _ _ _ q)
  | abort l j hl =>
    have := enterState_prefix j.chapter .ready .storeFull (clearLane l s) q
    rwa [clearLane_ports] at this
  | reject l j g cause hl =>
    have := enterState_prefix j.chapter .rejected cause (writeResult j.chapter g (clearLane l s)) q
    have ports : (writeResult j.chapter g (clearLane l s)).ports = s.ports := clearLane_ports l s
    rwa [ports] at this

theorem Consequences.notices (h : Consequences s t) (q : Port) : s.ports[q].notices <+: t.ports[q].notices := by
  induction h with
  | refl => exact List.prefix_rfl
  | tail _ h ih => exact ih.trans (h.notices q)

/-- What follows an event for a chapter that the render unit does not hold: work in the store that does not reach it,
and notices after those that wait. -/
structure Follows (c : ChapterId) (v t : State) : Prop where
  work : Work (· ≠ c) v t
  notices : ∀ q : Port, v.ports[q].notices <+: t.ports[q].notices

theorem Follows.trans {u : State} (h : Follows c s t) (k : Follows c t u) : Follows c s u :=
  ⟨h.work.trans k.work, fun q => (h.notices q).trans (k.notices q)⟩

theorem within_of_notHeld (h : NotHeld s c) : Within (· ≠ c) s :=
  within_ne h.1 fun l j hj e => h.2 l (by
    have hj : s.lanes[l] = some j := hj
    rw [laneChapter, hj, Option.map_some, e])

theorem follows_settle (h : NotHeld v c) : Follows c v (settle v) :=
  ⟨settle_work (within_of_notHeld h), (consequences_settle v).notices⟩

theorem Follows.notHeld (h : Follows c v t) : NotHeld t c := by
  refine ⟨h.work.within.queue, fun l hl => ?_⟩
  obtain ⟨j, hj, hc⟩ := Option.map_eq_some_iff.mp hl
  exact h.work.within.lanes l j hj hc

theorem follows_lanesTake (h : NotHeld v c) : Follows c v (lanesTake v) :=
  ⟨work_lanesTake (within_of_notHeld h), (consequences_lanesTake v).notices⟩

theorem follows_settleTake (h : NotHeld v c) : Follows c v (settle (lanesTake v)) :=
  (follows_lanesTake h).trans (follows_settle (follows_lanesTake h).notHeld)

theorem Follows.record (h : Follows c v t) : t.chapters[c] = v.chapters[c] := h.work.chapters c fun hn => hn rfl

/-- A stream that is DETACHED stays so through what follows. -/
theorem Follows.detached (h : Follows c v t) {q : Port} (hq : v.ports[q].stream = .detached) :
    t.ports[q].stream = .detached := by
  have kept : fetchless t.ports[q].stream = fetchless v.ports[q].stream := congrArg PortState.stream (h.work.ports q)
  rw [hq] at kept
  unfold fetchless at kept
  split at kept
  · simp at kept
  · exact kept

theorem Follows.takeRest (h : Follows c v t) (k : TakeId) :
    t.takes[k].map (fun x => (x.state, x.length, x.refs)) = v.takes[k].map fun x => (x.state, x.length, x.refs) := by
  have kept : t.takes[k].map Machine.takeRest = v.takes[k].map Machine.takeRest := h.work.takes k
  have := congrArg (Option.map fun x : Take => (x.state, x.length, x.refs)) kept
  simpa only [Option.map_map, Function.comp_def, Machine.takeRest] using this

theorem Follows.chapterRest (h : Follows c v t) (d : ChapterId) :
    t.chapters[d].map (fun x => (x.slots, x.cursor, x.title, x.position)) =
      v.chapters[d].map fun x => (x.slots, x.cursor, x.title, x.position) := by
  have kept : t.chapters[d].map Machine.chapterRest = v.chapters[d].map Machine.chapterRest := h.work.records d
  have := congrArg (Option.map fun x : Chapter => (x.slots, x.cursor, x.title, x.position)) kept
  simpa only [Option.map_map, Function.comp_def, Machine.chapterRest] using this

/-- What the lanes take touches no block (R88, R97). -/
theorem lanesTake_store (s : State) : (lanesTake s).store = s.store := by
  have begin (l : Lane) (d : ChapterId) (p : Port) (s : State) : (beginJob l d p s).store = s.store := by
    unfold beginJob
    split
    · rfl
    · dsimp only
      split <;> rfl
  have take (n : Nat) (s : State) : (takeEntries n s).store = s.store := by
    induction n generalizing s with
    | zero => rfl
    | succ n ih =>
      unfold takeEntries
      split
      · rw [ih, begin]
        rfl
      · rfl
  exact take _ s

/-- A CHAPTER_STATE notice reaches a subscriber with a place in its queue (R12, R190, R192). -/
theorem chapterNotice_notices {q : Port} (c : ChapterId) (code : Nat) (cause : Cause)
    (hs : s.ports[q].subs.getLsbD 0 = true) (hl : s.ports[q].notices.length < 16) :
    (chapterNotice c code cause s).ports[q].notices =
      s.ports[q].notices ++ [notice .chapterState c.val code (causeCode cause)] := by
  have h : (chapterNotice c code cause s).ports[q] = _ := broadcast_ports s _ q
  have hs' : subscribed (notice .chapterState c.val code (causeCode cause)).kind s.ports[q.val] = true := hs
  have hl' : s.ports[q.val].notices.length < Config.noticePlaces := hl
  rw [h, if_pos hs', pushNotice, if_pos hl']
  rfl

end Sys2Proof.Machine

/-! The requests that let a chapter go: CHAPTER_OPEN on a finished chapter, CHAPTER_DISCARD, RENDER_CANCEL and COLLECT. -/

namespace Sys2Proof.Machine

variable {s t v : State} {p : Port} {c : ChapterId} {r : Chapter}

/-! ### Frames -/

theorem notHeld_congr (hq : t.queue = s.queue) (hl : t.lanes = s.lanes) (h : NotHeld s c) : NotHeld t c := by
  unfold NotHeld laneChapter at *
  rw [hq, hl]
  exact h

@[simp] theorem enterState_titles (st cause) : (enterState c st cause s).titles = s.titles := rfl
@[simp] theorem enterState_takes (st cause) : (enterState c st cause s).takes = s.takes := rfl
@[simp] theorem enterState_levels (st cause) : (enterState c st cause s).levels = s.levels := rfl
@[simp] theorem enterState_profiles (st cause) : (enterState c st cause s).profiles = s.profiles := rfl
@[simp] theorem enterState_queue (st cause) : (enterState c st cause s).queue = s.queue := rfl
@[simp] theorem enterState_lanes (st cause) : (enterState c st cause s).lanes = s.lanes := rfl
@[simp] theorem enterState_store (st cause) : (enterState c st cause s).store = s.store := rfl

/-- A chapter's notice leaves every stream as it is. -/
theorem chapterNotice_stream (c : ChapterId) (code : Nat) (cause : Cause) (s : State) (q : Port) :
    (chapterNotice c code cause s).ports[q].stream = s.ports[q].stream := by
  have h : (chapterNotice c code cause s).ports[q] = _ := broadcast_ports s _ q
  rw [h]
  split
  · unfold pushNotice
    split <;> rfl
  · rfl

/-- The record that enters a state, and the others. -/
theorem enterState_chapters (st : ChapterState) (cause : Cause) (s : State) (d : ChapterId) :
    (enterState c st cause s).chapters[d] =
      if d = c then s.chapters[d].map (fun r => { r with state := st }) else s.chapters[d] := by
  by_cases hd : d = c
  · subst hd
    rw [if_pos rfl]
    exact modChapter_chapters_self ..
  · rw [if_neg hd]
    exact modChapter_chapters_ne _ _ _ _ hd

theorem releaseReferences_frame (c : ChapterId) (s : State) :
    releaseReferences c s = { s with takes := (releaseReferences c s).takes } := by
  unfold releaseReferences
  split
  · split
    · rfl
    · exact foldl_modTake_eq _ _ s
  · rfl

@[simp] theorem releaseReferences_titles : (releaseReferences c s).titles = s.titles := by rw [releaseReferences_frame]
@[simp] theorem releaseReferences_chapters : (releaseReferences c s).chapters = s.chapters := by
  rw [releaseReferences_frame]
@[simp] theorem releaseReferences_levels : (releaseReferences c s).levels = s.levels := by rw [releaseReferences_frame]
@[simp] theorem releaseReferences_profiles : (releaseReferences c s).profiles = s.profiles := by
  rw [releaseReferences_frame]
@[simp] theorem releaseReferences_queue : (releaseReferences c s).queue = s.queue := by rw [releaseReferences_frame]
@[simp] theorem releaseReferences_lanes : (releaseReferences c s).lanes = s.lanes := by rw [releaseReferences_frame]
@[simp] theorem releaseReferences_store : (releaseReferences c s).store = s.store := by rw [releaseReferences_frame]
@[simp] theorem releaseReferences_ports : (releaseReferences c s).ports = s.ports := by rw [releaseReferences_frame]

/-- The references a chapter held are released, each take's by one (R9). -/
theorem releaseReferences_takes (h : s.chapters[c] = some r) (k : TakeId) :
    (releaseReferences c s).takes[k].map (fun x => (x.state, x.length, x.refs)) =
      s.takes[k].map fun x => (x.state, x.length, if k ∈ heldTakes r then x.refs - 1 else x.refs) := by
  have dropped := congrFun (congrArg View.take (view_releaseReferences s (c := c) (r := r) h)) k
  have dropped : (releaseReferences c s).takes[k].map Take.facts = (s.takes[k].map Take.facts).map fun f =>
      { f with refs := if k ∈ heldTakes r then f.refs - 1 else f.refs } := dropped
  have := congrArg (Option.map fun f : TakeFacts => (f.state, f.length, f.refs)) dropped
  simpa only [Option.map_map, Function.comp_def, Take.facts] using this

/-! ### A chapter let go -/

theorem letGo_dirty (c : ChapterId) (s : State) : (letGo c s).store.dirty = s.store.dirty ++ heldBlocks s c := by
  have owned : ownedChain (offRenderPath c s) c = ownedChain s c := by
    unfold ownedChain
    rw [offRenderPath_chapters]
  rw [letGo_eq, (releaseOutput_pools c _).1, owned, offRenderPath_dirty, List.append_assoc]
  rfl

theorem letGo_erased (c : ChapterId) (s : State) : (letGo c s).store.erased = s.store.erased := by
  rw [letGo_eq, (releaseOutput_pools c _).2, offRenderPath_erased]

theorem letGo_ports (c : ChapterId) (s : State) (q : Port) :
    (letGo c s).ports[q] = if readsOutput s c q then detachedPort s.ports[q] else s.ports[q] := by
  have h := (detaches_releaseOutput c (offRenderPath c s)).1 q
  have same : readsOutput (offRenderPath c s) c q = readsOutput s c q := by
    unfold readsOutput
    rw [offRenderPath_chapters, offRenderPath_ports]
  rw [same, offRenderPath_ports] at h
  exact h

theorem letGo_chapters (c : ChapterId) (s : State) : (letGo c s).chapters[c] = s.chapters[c].map withoutOutput ∧
    ∀ d, d ≠ c → (letGo c s).chapters[d] = s.chapters[d] := by
  have h := chapters_releaseOutput c (offRenderPath c s)
  rw [offRenderPath_chapters] at h
  exact h

theorem notHeld_letGo (h : QueueLaw s) (c : ChapterId) : NotHeld (letGo c s) c :=
  notHeld_congr releaseOutput_queue releaseOutput_lanes (notHeld_off h c)

@[simp] theorem letGo_titles : (letGo c s).titles = s.titles := by rw [letGo_eq]; simp
@[simp] theorem letGo_takes : (letGo c s).takes = s.takes := by rw [letGo_eq]; simp
@[simp] theorem letGo_levels : (letGo c s).levels = s.levels := by rw [letGo_eq]; simp
@[simp] theorem letGo_profiles : (letGo c s).profiles = s.profiles := by rw [letGo_eq]; simp

/-- Losing its stream, a port keeps its subscriptions and its notices. -/
theorem letGo_notices (c : ChapterId) (s : State) (q : Port) :
    (letGo c s).ports[q].subs = s.ports[q].subs ∧ (letGo c s).ports[q].notices = s.ports[q].notices := by
  rw [letGo_ports]
  split <;> exact ⟨rfl, rfl⟩

theorem letGo_detached (h : s.chapters[c] = some r) (ho : ownedOutput r ≠ none) {q : Port}
    (hq : activeSource s.ports[q] = some (.output c)) : (letGo c s).ports[q].stream = .detached := by
  have reads : readsOutput s c q = true := by
    rw [readsOutput, h, hq]
    simpa [Option.isSome_iff_ne_none] using ho
  rw [letGo_ports, if_pos reads]
  rfl

/-! ### CHAPTER_OPEN -/

theorem setChapter_eq_self (h : s.chapters[c] = some r) : setChapter c (some r) s = s := by
  have h : s.chapters[c.val] = some r := h
  have same : s.chapters.set c.val (some r) c.isLt = s.chapters := by rw [← h, Vector.set_getElem_self]
  rw [setChapter, same]

/-- A chapter returned to assembly, before what the lanes take and what follows in the store (R16). -/
def reopened (p : Port) (c : ChapterId) (s : State) : State :=
  enterState c .assembling .opened
    (modChapter c (fun r => { r with editor := some p, cursor := 0, assembled := none, result := none })
      (releaseReferences c (letGo c s)))

theorem reopen_eq (p : Port) (c : ChapterId) (s : State) : reopen p c s = settle (lanesTake (reopened p c s)) := rfl

theorem notHeld_reopened (h : QueueLaw s) (p : Port) (c : ChapterId) : NotHeld (reopened p c s) c := by
  refine notHeld_congr (s := letGo c s) ?_ ?_ (notHeld_letGo h c) <;> simp [reopened]

theorem reopened_record (h : s.chapters[c] = some r) : (reopened p c s).chapters[c] =
    some { r with state := .assembling, editor := some p, cursor := 0, assembled := none, result := none } := by
  have record : (releaseReferences c (letGo c s)).chapters[c] = some (withoutOutput r) := by
    rw [releaseReferences_chapters, (letGo_chapters c s).1, h]
    rfl
  rw [reopened, enterState_chapters, if_pos rfl, modChapter_of_some record]
  simp [withoutOutput]

theorem reopened_others {d : ChapterId} (hd : d ≠ c) : (reopened p c s).chapters[d] = s.chapters[d] := by
  rw [reopened, enterState_chapters, if_neg hd]
  refine (modChapter_chapters_ne _ c d _ hd).trans ?_
  rw [releaseReferences_chapters]
  exact (letGo_chapters c s).2 d hd

theorem reopened_notices {q : Port} (hs : s.ports[q].subs.getLsbD 0 = true) (hl : s.ports[q].notices.length < 16) :
    (reopened p c s).ports[q].notices = s.ports[q].notices ++ [notice .chapterState c.val 1 1] := by
  have ports : (modChapter c (fun r => { r with state := .assembling })
      (modChapter c (fun r => { r with editor := some p, cursor := 0, assembled := none, result := none })
        (releaseReferences c (letGo c s)))).ports = (letGo c s).ports := releaseReferences_ports
  obtain ⟨subs, notices⟩ := letGo_notices c s q
  refine (chapterNotice_notices c 1 .opened ?_ ?_).trans ?_
  · rw [ports, subs, hs]
  · rw [ports, notices]
    exact hl
  · rw [ports, notices]
    rfl

theorem reopened_takes (h : s.chapters[c] = some r) (hs : r.state ≠ .assembling) (k : TakeId) :
    (reopened p c s).takes[k].map (fun x => (x.state, x.length, x.refs)) =
      s.takes[k].map fun x => (x.state, x.length, if k ∈ namedTakes r.slots then x.refs - 1 else x.refs) := by
  have record : (letGo c s).chapters[c] = some (withoutOutput r) := by rw [(letGo_chapters c s).1, h]; rfl
  have dropped := releaseReferences_takes record k
  have held : heldTakes (withoutOutput r) = namedTakes r.slots := if_neg hs
  rw [letGo_takes, held] at dropped
  rw [reopened, enterState_takes, modChapter_takes]
  exact dropped

theorem openChapter_reopens (h : s.chapters[c] = some r) (hs : r.state ≠ .assembling) (hp : r.state ≠ .published) :
    openChapter p (u8 c.val) s = accept [] (reopen p c s) := by
  simp only [openChapter, chapterAt_u8_self, h]
  exact if_neg (by simp)

/-- Settles O8: on an ASSEMBLING or PUBLISHED chapter the checks decide; any other is let go and reopened, and what follows
does not reach it. -/
theorem chapterOpenRequest : Obligations.ChapterOpenRequest := by
  refine ⟨fun s p c htakes => ⟨fun h => request_refuses htakes ?_, fun r h => ⟨fun hs he => request_accepts htakes ?_,
    fun hs he => request_accepts htakes ?_, fun q hs he hq => request_refuses htakes ?_, fun hs =>
      request_refuses htakes ?_⟩⟩, fun s p c r htakes h hs hp hqueue => ?_⟩
  · simp [openChapter, h]
  · have same : modChapter c (fun r => { r with editor := some p }) s = s := by
      rw [modChapter_of_some h, ← he]
      exact setChapter_eq_self h
    simp [openChapter, h, hs, he, same]
  · simp [openChapter, h, hs, he, modChapter_of_some h]
  · simp [openChapter, h, hs, he, hq]
  · simp [openChapter, h, hs]
  · have follows := follows_settleTake (notHeld_reopened hqueue p c)
    refine ⟨lanesTake (reopened p c s), _, rfl, request_accepts htakes (openChapter_reopens h hs hp), ?_, ?_,
      fun q ho hq => follows.detached ?_, follows.record.trans (reopened_record h), follows.notHeld, ?_, ?_, ?_,
      fun q hs hl => ?_, fun d => (follows.chapterRest d).trans ?_, fun k => (follows.takeRest k).trans (reopened_takes h hs k)⟩
    · rw [lanesTake_store, reopened, enterState_store, modChapter_store, releaseReferences_store, letGo_dirty]
    · rw [lanesTake_store, reopened, enterState_store, modChapter_store, releaseReferences_store, letGo_erased]
    · rw [reopened, enterState, chapterNotice_stream]
      simp only [modChapter_ports, releaseReferences_ports]
      exact letGo_detached h ho hq
    · exact follows.work.titles.trans (by simp [reopened])
    · exact follows.work.profiles.trans (by simp [reopened])
    · exact follows.work.levels.trans (by simp [reopened])
    · rw [← reopened_notices hs hl]
      exact follows.notices q
    · by_cases hd : d = c
      · subst hd
        rw [if_pos rfl, reopened_record h]
        rfl
      · rw [if_neg hd, reopened_others hd]

/-! ### A chapter's record freed -/

theorem renumberFrom_frame (n : Nat) (cs : List ChapterId) (s : State) :
    renumberFrom n cs s = { s with chapters := (renumberFrom n cs s).chapters } := by
  induction cs generalizing n s with
  | nil => rfl
  | cons c rest ih => rw [renumberFrom, ih]; rfl

/-- A freed record changes the titles' lists and the chapters alone. -/
theorem freeChapter_frame (c : ChapterId) (s : State) :
    freeChapter c s = { s with titles := (freeChapter c s).titles, chapters := (freeChapter c s).chapters } := by
  unfold freeChapter
  split
  · rw [reorder, renumberFrom_frame]
    rfl
  · rfl

@[simp] theorem freeChapter_takes : (freeChapter c s).takes = s.takes := by rw [freeChapter_frame]
@[simp] theorem freeChapter_levels : (freeChapter c s).levels = s.levels := by rw [freeChapter_frame]
@[simp] theorem freeChapter_profiles : (freeChapter c s).profiles = s.profiles := by rw [freeChapter_frame]
@[simp] theorem freeChapter_queue : (freeChapter c s).queue = s.queue := by rw [freeChapter_frame]
@[simp] theorem freeChapter_lanes : (freeChapter c s).lanes = s.lanes := by rw [freeChapter_frame]
@[simp] theorem freeChapter_store : (freeChapter c s).store = s.store := by rw [freeChapter_frame]
@[simp] theorem freeChapter_ports : (freeChapter c s).ports = s.ports := by rw [freeChapter_frame]

theorem freeChapter_record (c : ChapterId) (s : State) : (freeChapter c s).chapters[c] = none := by
  unfold freeChapter
  split
  · exact setChapter_chapters_self ..
  · assumption

/-- A freed chapter leaves its title's list (R6). -/
theorem freeChapter_titles (h : s.chapters[c] = some r) (k : TitleNo) : (freeChapter c s).titles[k] = s.titles[k].map fun x =>
    if k = r.title then { x with chapters := x.chapters.erase c } else x := by
  have titles : (freeChapter c s).titles =
      (modTitle r.title (fun x => { x with chapters := (chapterList s r.title).erase c }) s).titles := by
    simp only [freeChapter, h, setChapter_titles, reorder]
    rw [renumberFrom_frame]
  rw [titles, modTitle_titles]
  cases hk : s.titles[k] with
  | none => rfl
  | some x =>
    rw [Option.map_some, Option.map_some]
    by_cases hr : k = r.title
    · subst hr
      rw [if_pos rfl, if_pos rfl]
      simp only [chapterList, hk]
    · rw [if_neg hr, if_neg hr]

/-! ### CHAPTER_DISCARD and CHAPTER_MOVE -/

/-- A chapter discarded, before what the lanes take and what follows in the store (R19). -/
def discarded (c : ChapterId) (s : State) : State :=
  chapterNotice c 0 .discarded (freeChapter c (releaseReferences c (letGo c s)))

theorem discardRecord_eq (c : ChapterId) (s : State) : discardRecord c s = settle (lanesTake (discarded c s)) := rfl

@[simp] theorem chapterNotice_titles (code cause) : (chapterNotice c code cause s).titles = s.titles := rfl
@[simp] theorem chapterNotice_takes (code cause) : (chapterNotice c code cause s).takes = s.takes := rfl
@[simp] theorem chapterNotice_chapters (code cause) : (chapterNotice c code cause s).chapters = s.chapters := rfl
@[simp] theorem chapterNotice_levels (code cause) : (chapterNotice c code cause s).levels = s.levels := rfl
@[simp] theorem chapterNotice_profiles (code cause) : (chapterNotice c code cause s).profiles = s.profiles := rfl
@[simp] theorem chapterNotice_queue (code cause) : (chapterNotice c code cause s).queue = s.queue := rfl
@[simp] theorem chapterNotice_lanes (code cause) : (chapterNotice c code cause s).lanes = s.lanes := rfl
@[simp] theorem chapterNotice_store (code cause) : (chapterNotice c code cause s).store = s.store := rfl

theorem notHeld_discarded (h : QueueLaw s) (c : ChapterId) : NotHeld (discarded c s) c := by
  refine notHeld_congr (s := letGo c s) ?_ ?_ (notHeld_letGo h c) <;> simp [discarded]

theorem discarded_notices {q : Port} (hs : s.ports[q].subs.getLsbD 0 = true) (hl : s.ports[q].notices.length < 16) :
    (discarded c s).ports[q].notices = s.ports[q].notices ++ [notice .chapterState c.val 0 15] := by
  have ports : (freeChapter c (releaseReferences c (letGo c s))).ports = (letGo c s).ports := by simp
  obtain ⟨subs, notices⟩ := letGo_notices c s q
  refine (chapterNotice_notices c 0 .discarded ?_ ?_).trans ?_
  · rw [ports, subs, hs]
  · rw [ports, notices]
    exact hl
  · rw [ports, notices]
    rfl

theorem mem_heldTakes {k : TakeId} : k ∈ heldTakes r ↔ r.state ≠ .assembling ∧ k ∈ namedTakes r.slots := by
  unfold heldTakes
  by_cases h : r.state = .assembling <;> simp [h]

theorem discarded_takes (h : s.chapters[c] = some r) (k : TakeId) :
    (discarded c s).takes[k].map (fun x => (x.state, x.length, x.refs)) = s.takes[k].map fun x =>
      (x.state, x.length, if r.state ≠ .assembling ∧ k ∈ namedTakes r.slots then x.refs - 1 else x.refs) := by
  have record : (letGo c s).chapters[c] = some (withoutOutput r) := by rw [(letGo_chapters c s).1, h]; rfl
  have dropped := releaseReferences_takes record k
  rw [letGo_takes] at dropped
  rw [discarded, chapterNotice_takes, freeChapter_takes, dropped]
  simp only [mem_heldTakes]
  rfl

theorem discarded_titles (h : s.chapters[c] = some r) (k : TitleNo) : (discarded c s).titles[k] = s.titles[k].map fun x =>
    if k = r.title then { x with chapters := x.chapters.erase c } else x := by
  have record : (releaseReferences c (letGo c s)).chapters[c] = some (withoutOutput r) := by
    rw [releaseReferences_chapters, (letGo_chapters c s).1, h]
    rfl
  rw [discarded, chapterNotice_titles, freeChapter_titles record, releaseReferences_titles, letGo_titles]
  rfl

theorem moveChapter_sent {b : Byte} (h : s.chapters[c] = some r) : moveChapter (u8 c.val ++ [b]) s =
    acceptOr (max 1 (min (chapterList s r.title).length b.toNat) != b.toNat)
      (u8 (max 1 (min (chapterList s r.title).length b.toNat)))
      (reorder r.title (insertAt (max 1 (min (chapterList s r.title).length b.toNat)) c
        ((chapterList s r.title).erase c)) s) := by
  have hb : paramAt (u8 c.val ++ [b]) 1 = b.toNat := by rw [paramAt_u8_succ, paramAt_zero]
  simp only [moveChapter, chapterAt_u8, hb, h]
  exact if_neg (by simp)

/-- Settles O11: a discarded chapter is let go and freed, and what follows does not reach its record; a move is one
reordering. -/
theorem chapterDiscardAndMove : Obligations.ChapterDiscardAndMove := by
  refine ⟨fun s p c htakes => ⟨fun h => request_refuses htakes ?_, fun r h => ⟨fun hs => request_refuses htakes ?_,
    fun q hs he hq => request_refuses htakes ?_, fun hqueue hp he => ?_⟩⟩, ?_⟩
  · simp [discardChapter, h]
  · simp [discardChapter, h, hs]
  · simp [discardChapter, h, hs, he, hq]
  · have follows := follows_settleTake (notHeld_discarded hqueue c)
    have mine : ¬(r.state = .assembling ∧ r.editor ≠ none ∧ r.editor ≠ some p) := fun ⟨hs, hn, hne⟩ =>
      (he hs).elim hn hne
    have accepted : discardChapter p (u8 c.val) s = accept [] (discardRecord c s) := by
      simp only [discardChapter, chapterAt_u8_self, h]
      rw [if_neg (by simp), if_neg hp, if_neg mine]
    refine ⟨lanesTake (discarded c s), _, rfl, request_accepts htakes accepted, ?_, ?_, fun q ho hq => follows.detached ?_,
      follows.record.trans ?_, follows.notHeld, ?_, ?_, fun q hs hl => ?_, fun k =>
        (follows.takeRest k).trans (discarded_takes h k), fun k => ?_⟩
    · rw [lanesTake_store, discarded, chapterNotice_store, freeChapter_store, releaseReferences_store, letGo_dirty]
    · rw [lanesTake_store, discarded, chapterNotice_store, freeChapter_store, releaseReferences_store, letGo_erased]
    · rw [discarded, chapterNotice_stream]
      simp only [freeChapter_ports, releaseReferences_ports]
      exact letGo_detached h ho hq
    · rw [discarded, chapterNotice_chapters, freeChapter_record]
    · exact follows.work.profiles.trans (by simp [discarded])
    · exact follows.work.levels.trans (by simp [discarded])
    · rw [← discarded_notices hs hl]
      exact follows.notices q
    · rw [follows.work.titles]
      exact discarded_titles h k
  · rintro s p c b ps rfl htakes
    refine ⟨fun h => request_refuses htakes ?_, ?_⟩
    · simp [moveChapter, h]
    · rintro r cs q h rfl rfl
      exact request_acceptsOr htakes (moveChapter_sent h)

end Sys2Proof.Machine

/-! RENDER_CANCEL, PUBLISH and COLLECT. -/

namespace Sys2Proof.Machine

variable {s t v : State} {p : Port} {c : ChapterId} {r : Chapter}

/-- Two members of what is said of a take. -/
theorem Follows.refs (h : Follows c v t) (k : TakeId) : t.takes[k].map (·.refs) = v.takes[k].map (·.refs) := by
  have := congrArg (Option.map fun x : TakeState × Nat × Nat => x.2.2) (h.takeRest k)
  simpa only [Option.map_map, Function.comp_def] using this

/-! ### RENDER_CANCEL -/

/-- A chapter taken off the render path and left READY, before what the lanes take and what follows (R92). -/
def offReady (c : ChapterId) (s : State) : State := enterState c .ready .cancelled (offRenderPath c s)

theorem cancelled_eq (c : ChapterId) (s : State) : cancelled c s = settle (lanesTake (offReady c s)) := rfl

theorem notHeld_offReady (h : QueueLaw s) (c : ChapterId) : NotHeld (offReady c s) c :=
  notHeld_congr (s := offRenderPath c s) (enterState_queue ..) (enterState_lanes ..) (notHeld_off h c)

theorem offReady_record (h : s.chapters[c] = some r) : (offReady c s).chapters[c] = some { r with state := .ready } := by
  rw [offReady, enterState_chapters, if_pos rfl, offRenderPath_chapters, h]
  rfl

theorem offReady_notices {q : Port} (hs : s.ports[q].subs.getLsbD 0 = true) (hl : s.ports[q].notices.length < 16) :
    (offReady c s).ports[q].notices = s.ports[q].notices ++ [notice .chapterState c.val 2 11] := by
  have ports : (modChapter c (fun r => { r with state := .ready }) (offRenderPath c s)).ports = s.ports :=
    offRenderPath_ports
  refine (chapterNotice_notices c 2 .cancelled ?_ ?_).trans ?_
  · rw [ports, hs]
  · rw [ports]
    exact hl
  · rw [ports]
    rfl

/-! ### COLLECT -/

/-- A chapter collected, before what follows in the store (R95). -/
def collectedRecord (c : ChapterId) (r : Chapter) (s : State) : State :=
  if r.scriptCleared then chapterNotice c 0 .collected (freeChapter c (releaseOutput c s))
  else enterState c .ready .collected (modChapter c (fun r => { r with result := none }) (releaseOutput c s))

theorem collected_eq (c : ChapterId) (r : Chapter) (s : State) : collected c r s = settle (collectedRecord c r s) := rfl

theorem collectedRecord_cleared (hc : r.scriptCleared = true) :
    collectedRecord c r s = chapterNotice c 0 .collected (freeChapter c (releaseOutput c s)) := if_pos hc

theorem collectedRecord_kept (hc : r.scriptCleared = false) : collectedRecord c r s =
    enterState c .ready .collected (modChapter c (fun r => { r with result := none }) (releaseOutput c s)) :=
  if_neg (by simp [hc])

/-- What a collected chapter's record becomes. -/
theorem collectedRecord_record (h : s.chapters[c] = some r) : (collectedRecord c r s).chapters[c] =
    if r.scriptCleared then none else some { r with state := .ready, result := none } := by
  cases hc : r.scriptCleared with
  | true => rw [collectedRecord_cleared hc, if_pos rfl, chapterNotice_chapters, freeChapter_record]
  | false =>
    have record : (releaseOutput c s).chapters[c] = some (withoutOutput r) := by
      rw [(chapters_releaseOutput c s).1, h]
      rfl
    rw [collectedRecord_kept hc, enterState_chapters, if_pos rfl, modChapter_of_some record]
    simp [withoutOutput, hc]

/-- What a collect leaves alone, and what it puts into the pools. -/
theorem collectedRecord_frame (c : ChapterId) (r : Chapter) (s : State) :
    (collectedRecord c r s).takes = s.takes ∧ (collectedRecord c r s).profiles = s.profiles ∧
      (collectedRecord c r s).queue = s.queue ∧ (collectedRecord c r s).lanes = s.lanes ∧
      (collectedRecord c r s).store = (releaseOutput c s).store := by
  unfold collectedRecord
  split <;> simp

theorem collectedRecord_stream (c : ChapterId) (r : Chapter) (s : State) (q : Port) :
    (collectedRecord c r s).ports[q].stream = (releaseOutput c s).ports[q].stream := by
  unfold collectedRecord
  split
  · rw [chapterNotice_stream, freeChapter_ports]
  · rw [enterState, chapterNotice_stream]
    rfl

theorem collectedRecord_notices {q : Port} (hs : s.ports[q].subs.getLsbD 0 = true)
    (hl : s.ports[q].notices.length < 16) : (collectedRecord c r s).ports[q].notices =
      s.ports[q].notices ++ [notice .chapterState c.val (if r.scriptCleared then 0 else 2) 14] := by
  have port : (releaseOutput c s).ports[q].subs = s.ports[q].subs ∧
      (releaseOutput c s).ports[q].notices = s.ports[q].notices := by
    rw [(detaches_releaseOutput c s).1 q]
    split <;> exact ⟨rfl, rfl⟩
  obtain ⟨subs, notices⟩ := port
  have posted {w : State} (hw : w.ports = (releaseOutput c s).ports) (code : Nat) :
      (chapterNotice c code .collected w).ports[q].notices =
        s.ports[q].notices ++ [notice .chapterState c.val code 14] := by
    refine (chapterNotice_notices c code .collected ?_ ?_).trans ?_
    · rw [hw, subs, hs]
    · rw [hw, notices]
      exact hl
    · rw [hw, notices]
      rfl
  cases hc : r.scriptCleared with
  | true =>
    rw [collectedRecord_cleared hc]
    exact posted freeChapter_ports 0
  | false =>
    rw [collectedRecord_kept hc]
    exact posted rfl 2

/-- Settles O27: a cancelled and a collected chapter are not held by the render unit, so what follows does not reach
them. -/
theorem renderUnitRequests : Obligations.RenderUnitRequests := by
  refine ⟨fun s p c htakes => ⟨fun h => request_refuses htakes ?_, fun r h => ⟨fun hq hr => request_refuses htakes ?_,
    fun hqueue hs => ?_⟩⟩, fun s p c htakes => ⟨fun h => request_refuses htakes ?_, fun r h =>
      ⟨fun hs => request_refuses htakes ?_, fun hs => request_accepts htakes ?_⟩⟩, fun s p c htakes =>
    ⟨fun h => request_refuses htakes ?_, fun r h => ⟨fun hs => request_refuses htakes ?_, fun hqueue hs => ?_⟩⟩⟩
  · simp [cancelRender, h]
  · simp [cancelRender, h, hq, hr]
  · have follows := follows_settleTake (notHeld_offReady hqueue c)
    refine ⟨lanesTake (offReady c s), _, rfl, request_accepts htakes (by simp [cancelRender, h, hs, cancelled_eq]), ?_, ?_,
      follows.record.trans (offReady_record h), follows.notHeld, ?_, ?_, ?_, fun k => (follows.refs k).trans ?_,
      fun q hs hl => ?_⟩
    · rw [lanesTake_store, offReady, enterState_store, offRenderPath_dirty]
    · rw [lanesTake_store, offReady, enterState_store, offRenderPath_erased]
    · exact follows.work.titles.trans (by simp [offReady])
    · exact follows.work.profiles.trans (by simp [offReady])
    · exact follows.work.levels.trans (by simp [offReady])
    · rw [offReady, enterState_takes, offRenderPath_takes]
    · rw [← offReady_notices hs hl]
      exact follows.notices q
  · simp [Machine.publish, h]
  · simp [Machine.publish, h, hs]
  · have published : enterState c .published .published s =
        broadcast (notice .chapterState c.val 7 13) (setChapter c (some { r with state := .published }) s) := by
      rw [enterState, modChapter_of_some h]
      rfl
    rw [← published]
    simp [Machine.publish, h, hs]
  · simp [Machine.collect, h]
  · simp [Machine.collect, h, hs]
  · obtain ⟨takes, profiles, queue, lanes, store⟩ := collectedRecord_frame c r s
    have follows := follows_settle (notHeld_congr queue lanes
      (notHeld_of_state hqueue h (by simp [hs]) (by simp [hs])))
    have record := follows.record.trans (collectedRecord_record h)
    have code : stateCode (settle (collectedRecord c r s)) c = if r.scriptCleared then 0 else 2 := by
      rw [stateCode, record]
      cases r.scriptCleared <;> rfl
    have accepted : Machine.collect (u8 c.val) s =
        accept (u8 (if r.scriptCleared then 0 else 2)) (settle (collectedRecord c r s)) := by
      rw [← code]
      simp [Machine.collect, h, hs, collected_eq]
    refine ⟨collectedRecord c r s, _, rfl, request_accepts htakes accepted, ?_, ?_, fun q ho hq => follows.detached ?_, ?_,
      fun k => (follows.refs k).trans (by rw [takes]), fun q hs hl => ?_, fun hc => ⟨?_, ?_⟩, fun hc => ⟨?_, fun k => ?_⟩⟩
    · rw [store, (releaseOutput_pools c s).1]
    · rw [store, (releaseOutput_pools c s).2]
    · have reads : readsOutput s c q = true := by
        rw [readsOutput, h, hq]
        simpa [Option.isSome_iff_ne_none] using ho
      rw [collectedRecord_stream, (detaches_releaseOutput c s).1 q, if_pos reads]
      rfl
    · rw [follows.work.profiles, profiles]
    · rw [← collectedRecord_notices hs hl]
      exact follows.notices q
    · rw [record, if_neg (by simp [hc])]
    · rw [follows.work.titles, collectedRecord_kept hc, enterState_titles, modChapter_titles, releaseOutput_titles]
    · rw [record, if_pos hc]
    · have gone : (releaseOutput c s).chapters[c] = some (withoutOutput r) := by
        rw [(chapters_releaseOutput c s).1, h]
        rfl
      rw [follows.work.titles, collectedRecord_cleared hc, chapterNotice_titles, freeChapter_titles gone,
        releaseOutput_titles]
      rfl

end Sys2Proof.Machine

/-! PORT_RESET (R199). -/

namespace Sys2Proof.Machine

variable {s t w : State} {p : Port}

/-! ### A request of the port's own, taken first -/

theorem settle_xfer (s : State) (q : Port) : (settle s).ports[q].xfer = s.ports[q].xfer := by
  have kept : portRest (settle s).ports[q] = portRest s.ports[q] := (settle_work (within_true s)).ports q
  show (portRest (settle s).ports[q]).xfer = (portRest s.ports[q]).xfer
  rw [kept]

theorem dropStream_xfer {status : PortStream} (h : s.ports[p].xfer = .none) :
    (dropStream p status s).ports[p].xfer = .none := by
  have : (dropStream p status s).ports[p].xfer = unlink s.ports[p].xfer := by
    have port := modPort_ports_self s p fun ps => { ps with stream := status, xfer := unlink ps.xfer }
    exact congrArg PortState.xfer port
  rw [this, h]
  rfl

theorem openReply_xfer {src : StreamSource} {length offset : Nat} {title : TitleNo} (h : s.ports[p].xfer = .none) :
    (openReply p src length offset title s).state.ports[p].xfer = .none := (settle_xfer _ p).trans (dropStream_xfer h)

theorem streamOpen_xfer {ps : List Byte} (h : s.ports[p].xfer = .none) :
    (streamOpen p ps s).state.ports[p].xfer = .none := by
  unfold streamOpen
  split
  · exact h
  · split
    · split
      · exact h
      · unfold openOutput
        split
        · exact h
        · split
          · exact h
          · exact openReply_xfer h
    · split
      · exact h
      · unfold openTakeStream
        split
        · exact h
        · split
          · exact openReply_xfer h
          · exact h
    · exact h

/-- What the port serves itself begins no transaction. -/
theorem portServes_xfer {k : ReqKind} {ps : List Byte} (h : s.ports[p].xfer = .none) :
    (portServes p k ps s).ports[p].xfer = .none := by
  unfold portServes
  split
  · unfold subscribe
    dsimp only
    split
    · exact h
    · exact (congrArg PortState.xfer (modPort_ports_self s p _)).trans h
  · unfold deviceInfo
    split <;> exact h
  · exact streamOpen_xfer h
  · unfold streamClose
    split
    · exact h
    · exact dropStream_xfer h
  · exact h

theorem takeOwnRequest_xfer (h : s.ports[p].xfer = .none) : (takeOwnRequest p s).ports[p].xfer = .none := by
  unfold takeOwnRequest
  split
  · split
    · exact (congrArg PortState.xfer (modPort_ports_self _ p _)).trans (portServes_xfer h)
    · exact h
  · exact h

theorem ended_xfer (p : Port) (s : State) : (ended p s).ports[p].xfer = .none := by
  have h : (endTransaction p s).ports[p].xfer = .none := by
    unfold endTransaction
    split <;> exact congrArg PortState.xfer (modPort_ports_self _ p _)
  exact (congrArg PortState.xfer (attend_ports s (endTransaction p s) p)).trans h

/-- The law of streams holds when the port's own request has been taken (R26). -/
theorem streamLaw_takeOwnRequest (p : Port) (h : StreamLaw s) : StreamLaw (takeOwnRequest p (ended p s)) := by
  have path : View.Path False (view s) (view (takeOwnRequest p (ended p s))) := by
    have := path_takeOwnRequest (H := False) p (ended p s)
    rwa [view_ended] at this
  exact streamLaw_iff.mpr (path.keep (fun _ _ h => h.streamLaw) (streamLaw_iff.mp h))

/-! ### The port emptied -/

/-- The port after the slot, the notices, the settings and the stream have been reset. -/
def emptied (p : Port) (s : State) : State := dropStream p .idle (modPort p resetPort s)

theorem emptied_port (h : s.ports[p].xfer = .none) :
    (emptied p s).ports[p] = { resetPort s.ports[p] with stream := .idle, xfer := .none } := by
  have port : (emptied p s).ports[p] =
      { resetPort s.ports[p] with stream := .idle, xfer := unlink (resetPort s.ports[p]).xfer } := by
    simp [emptied, dropStream]
  have xfer : (resetPort s.ports[p]).xfer = .none := h
  rw [port, xfer]
  rfl

theorem emptied_other {q : Port} (h : q ≠ p) : (emptied p s).ports[q] = s.ports[q] := by
  simp [emptied, dropStream, modPort_ports_ne _ p q _ h]

theorem emptied_store : (emptied p s).store = { s.store with array := readLosing (· == p) s.store.array } :=
  orphanRead_eq p s.store

theorem inStore_emptied (src : Source) : inStore src (emptied p s).store = inStore src s.store := by
  rw [emptied_store]
  rfl

/-! ### The claims released -/

theorem releaseClaims_frame (p : Port) (s : State) :
    releaseClaims p s = { s with chapters := (releaseClaims p s).chapters } := by
  have fold (cs : List ChapterId) (f : Chapter → Chapter) (s : State) :
      cs.foldl (fun s c => modChapter c f s) s = { s with chapters := (cs.foldl (fun s c => modChapter c f s) s).chapters } := by
    induction cs generalizing s with
    | nil => rfl
    | cons c cs ih => rw [List.foldl_cons, ih]; rfl
  exact fold _ _ s

theorem foldl_modChapter_chapters {cs : List ChapterId} (hn : cs.Nodup) (f : Chapter → Chapter) (s : State)
    (c : ChapterId) : (cs.foldl (fun s c => modChapter c f s) s).chapters[c] =
      if c ∈ cs then s.chapters[c].map f else s.chapters[c] := by
  induction cs generalizing s with
  | nil => simp
  | cons d cs ih =>
    obtain ⟨hd, hn⟩ := List.nodup_cons.mp hn
    rw [List.foldl_cons, ih hn]
    by_cases hc : c = d
    · subst hc
      rw [if_neg hd, if_pos List.mem_cons_self]
      exact modChapter_chapters_self ..
    · have same : (modChapter d f s).chapters[c] = s.chapters[c] := modChapter_chapters_ne _ _ _ _ hc
      simp [same, hc]

/-- No chapter has the port as its editor any more (R13). -/
theorem releaseClaims_chapters (p : Port) (s : State) (c : ChapterId) : (releaseClaims p s).chapters[c] =
    s.chapters[c].map fun r => { r with editor := if r.editor = some p then none else r.editor } := by
  have h := foldl_modChapter_chapters (List.nodup_finRange 64)
    (fun r => if r.editor = some p then { r with editor := none } else r) s c
  rw [if_pos (List.mem_finRange c)] at h
  refine h.trans (congrArg (fun f => s.chapters[c].map f) (funext fun r => ?_))
  split <;> rfl

/-! ### The capture stopped -/

/-- The notices of a port reset (R43). -/
def resetNotices (p : Port) (w : State) : List Notice :=
  match w.captures[p] with
  | none => []
  | some st => if st.closing then [] else
    (st.run.map fun n => notice .dropout st.take.val 1 n).toList ++
      if st.fifo = [] ∧ inStore (.stream p) w.store = false then
        [notice .takeClosed st.take.val 1 (((w.takes[st.take]).map (·.length)).getD 0)] else []

/-- The capture of a port stopped, where it has one that is not draining (R43). -/
def captureReset (p : Port) (w : State) : State :=
  match w.captures[p] with
  | none => w
  | some st => if st.closing then w else stopStream p .portReset w

/-- A port emptied, and its capture stopped: `y` is what a reset makes of `w` before the claims are released. -/
structure IsReset (p : Port) (w y : State) : Prop where
  port : y.ports[p] = { resetPort w.ports[p] with stream := .idle, xfer := .none, notices := resetNotices p w }
  captures : y.captures = (captureReset p w).captures
  takes : y.takes = (captureReset p w).takes
  levels : y.levels = (captureReset p w).levels
  store : y.store = (emptied p w).store
  chapters : y.chapters = w.chapters
  titles : y.titles = w.titles
  profiles : y.profiles = w.profiles
  queue : y.queue = w.queue
  lanes : y.lanes = w.lanes
  others : ∀ q : Port, q ≠ p → y.ports[q] = w.ports[q]

/-- Without a stream, or with one that drains, the capture goes on as it is (R43). -/
theorem isReset_unchanged (hx : w.ports[p].xfer = .none) (hn : resetNotices p w = []) (hc : captureReset p w = w) :
    IsReset p w (emptied p w) where
  port := by rw [emptied_port hx, hn]; rfl
  captures := by rw [hc]; rfl
  takes := by rw [hc]; rfl
  levels := by rw [hc]; rfl
  store := rfl
  chapters := rfl
  titles := rfl
  profiles := rfl
  queue := rfl
  lanes := rfl
  others _ hq := emptied_other hq

theorem runNotice_emptied (hx : w.ports[p].xfer = .none) (st : Stream) : runNotice st (emptied p w).ports[p] =
    { resetPort w.ports[p] with stream := .idle, xfer := .none,
                                notices := (st.run.map fun n => notice .dropout st.take.val 1 n).toList } := by
  rw [emptied_port hx]
  unfold runNotice
  rcases Option.eq_none_or_eq_some st.run with hrun | ⟨n, hrun⟩
  · simp [hrun, resetPort]
  · simp [hrun, pushNotice, resetPort, Config.noticePlaces]

/-- A CAPTURING stream is stopped, as it would be on the port as it was. -/
theorem isReset_stopped (hx : w.ports[p].xfer = .none) {st : Stream} {r : Take} (h : w.captures[p] = some st)
    (hc : st.closing = false) (hr : w.takes[st.take] = some r) :
    IsReset p w (stopStream p .portReset (emptied p w)) := by
  have h' : (emptied p w).captures[p] = some st := h
  have hr' : (emptied p w).takes[st.take] = some r := hr
  have reset : captureReset p w = stopStream p .portReset w := by
    simp only [captureReset, h, hc, Bool.false_eq_true, if_false]
  have notices : resetNotices p w = (st.run.map fun n => notice .dropout st.take.val 1 n).toList ++
      if st.fifo = [] ∧ inStore (.stream p) w.store = false then [notice .takeClosed st.take.val 1 r.length] else [] := by
    simp only [resetNotices, h, hc, hr, Bool.false_eq_true, if_false, Option.map_some, Option.getD_some]
  have places : (st.run.map fun n => notice .dropout st.take.val 1 n).toList.length < Config.noticePlaces := by
    cases st.run <;> simp [Config.noticePlaces]
  by_cases hd : st.fifo = [] ∧ inStore (.stream p) w.store = false
  · have hd' : st.fifo = [] ∧ inStore (.stream p) (emptied p w).store = false := by rwa [inStore_emptied]
    rw [stopStream_closed .portReset h' hr' hd']
    rw [if_pos hd] at notices
    rw [stopStream_closed .portReset h hr hd] at reset
    exact {
      port := by
        refine (modPort_ports_self _ p _).trans ?_
        simp only [modLevel_ports, setStream_ports, setTake_ports]
        have ended : runNotice st (emptied p w).ports[p.val] = _ := runNotice_emptied hx st
        rw [ended, pushNotice, if_pos places, notices]
        rfl
      captures := by rw [reset]; rfl
      takes := by rw [reset]; rfl
      levels := by rw [reset]; rfl
      store := rfl
      chapters := rfl
      titles := rfl
      profiles := rfl
      queue := rfl
      lanes := rfl
      others := fun q hq => (modPort_ports_ne _ p q _ hq).trans (emptied_other hq) }
  · have hd' : ¬(st.fifo = [] ∧ inStore (.stream p) (emptied p w).store = false) := by rwa [inStore_emptied]
    rw [stopStream_draining .portReset h' hr' hd']
    rw [if_neg hd, List.append_nil] at notices
    rw [stopStream_draining .portReset h hr hd] at reset
    exact {
      port := by
        refine (modPort_ports_self _ p _).trans ?_
        simp only [modLevel_ports, setStream_ports, setTake_ports]
        have ended : runNotice st (emptied p w).ports[p.val] = _ := runNotice_emptied hx st
        rw [ended, notices]
      captures := by rw [reset]; rfl
      takes := by rw [reset]; rfl
      levels := by rw [reset]; rfl
      store := rfl
      chapters := rfl
      titles := rfl
      profiles := rfl
      queue := rfl
      lanes := rfl
      others := fun q hq => (modPort_ports_ne _ p q _ hq).trans (emptied_other hq) }

theorem isReset_resetCapture (hlaw : StreamLaw w) (hx : w.ports[p].xfer = .none) :
    IsReset p w (resetCapture p (emptied p w)) := by
  have captures : (emptied p w).captures[p] = w.captures[p] := rfl
  unfold resetCapture
  cases h : w.captures[p] with
  | none =>
    rw [captures, h]
    exact isReset_unchanged hx (by simp only [resetNotices, h]) (by simp only [captureReset, h])
  | some st =>
    rw [captures, h]
    cases hc : st.closing with
    | true =>
      simp only [hc, if_true]
      exact isReset_unchanged hx (by simp only [resetNotices, h, hc, if_true]) (by simp only [captureReset, h, hc, if_true])
    | false =>
      obtain ⟨r, hr, -⟩ := hlaw.1 p st h
      simp only [hc, Bool.false_eq_true, if_false]
      exact isReset_stopped hx h hc hr

theorem resetWork_eq (p : Port) (s : State) :
    resetWork p s = releaseClaims p (resetCapture p (emptied p (takeOwnRequest p s))) := rfl

/-- Settles O39: the port is emptied, its capture is stopped as on the port as it was, and its claims are released; each
part changes what the next reads in nothing. -/
theorem portResetRestoresThePort : Obligations.PortResetRestoresThePort := by
  refine ⟨fun s t w p hlaw ht hw => ?_, fun s t p extra ht hextra => ?_⟩
  · have hw : w = takeOwnRequest p t := by
      rw [hw, takeOwnRequest] <;> rcases t.ports[p].exec with _ | ⟨k, ps, _ | _⟩ | _ <;> rfl
    subst ht
    have hx : w.ports[p].xfer = .none := hw ▸ takeOwnRequest_xfer (ended_xfer p s)
    have hreset : IsReset p w (resetCapture p (emptied p w)) :=
      isReset_resetCapture (hw ▸ streamLaw_takeOwnRequest p hlaw) hx
    refine ⟨resetWork p (ended p s), ?_, ?_⟩
    · show execPortReset p 0 s = _
      unfold execPortReset
      exact if_pos rfl
    · rw [resetWork_eq, ← hw, releaseClaims_frame]
      generalize hy : resetCapture p (emptied p w) = y at hreset
      have store := hreset.store.trans emptied_store
      refine ⟨?_, ?_, fun slot ha => ?_, fun ha => ?_, fun c => ?_, hreset.titles, hreset.profiles, hreset.queue,
        hreset.lanes, hreset.others⟩
      · refine hreset.port.trans ?_
        unfold resetPort resetExec resetNotices
        rcases w.ports[p].exec with _ | _ | _ <;> rcases w.captures[p] with _ | st <;> rfl
      · intro v hv
        have hv : v = captureReset p w := by
          rw [hv, captureReset] <;> rcases w.captures[p] with _ | st <;> rfl
        rw [hv]
        exact ⟨hreset.captures, hreset.takes, hreset.levels⟩
      · rw [store, ha]
        simp [readLosing]
      · rw [store, readLosing_eq_self fun q slot hq => beq_eq_false_iff_ne.mpr (by rintro rfl; exact ha slot hq)]
      · rw [← hreset.chapters]
        exact releaseClaims_chapters p y c
  · subst ht
    show execPortReset p extra s = _
    unfold execPortReset
    exact if_neg (by omega)

end Sys2Proof.Machine

/-! What a purge lets go, step by step: ports that lose their source, sources that go, and the blocks that join the DIRTY
pool (R67, R72, R79, R80, R180). -/

namespace Sys2Proof.Machine

variable {s t u : State} {p : Port}

/-! ### The store without some of its sources -/

/-- The array's operation when the readers of a set of ports and a set of sources have gone (R72, R80). -/
def arrayLosing (lost : Port → Bool) (gone : Source → Bool) (op : ArrayOp) : ArrayOp :=
  match op with
  | .reading (.port p) g slot => .reading (.port p) (g || lost p) slot
  | .reading (.lane l) g slot => .reading (.lane l) (g || gone (.lane l)) slot
  | .erasing b (.builtIn src) g => .erasing b (.builtIn src) (g || gone src)
  | op => op

theorem arrayLosing_none (op : ArrayOp) : arrayLosing (fun _ => false) (fun _ => false) op = op := by
  rcases op with _ | ⟨_ | _, _, _⟩ | _ | ⟨_, _ | _, _⟩ <;> simp [arrayLosing]

theorem arrayLosing_arrayLosing (a b : Port → Bool) (f g : Source → Bool) (op : ArrayOp) :
    arrayLosing b g (arrayLosing a f op) = arrayLosing (fun p => a p || b p) (fun src => f src || g src) op := by
  rcases op with _ | ⟨_ | _, _, _⟩ | _ | ⟨_, _ | _, _⟩ <;> simp [arrayLosing, Bool.or_assoc]

theorem arrayLosing_ports (lost : Port → Bool) (op : ArrayOp) :
    arrayLosing lost (fun _ => false) op = readLosing lost op := by
  rcases op with _ | ⟨_ | _, _, _⟩ | _ | ⟨_, _ | _, _⟩ <;> simp [arrayLosing, readLosing]

/-- What becomes of a program buffer when a set of sources goes: a LOADED page is dropped, a PROGRAMMING one belongs to no
source (R79); a page of another source stays, whatever it waits for. -/
def BufferLosing (gone : Source → Bool) (b b' : Buffer) : Prop :=
  match b with
  | .free => b' = .free
  | .loaded w page bytes _ => if gone w then b' = .free else ∃ target, b' = .loaded w page bytes target
  | .programming w g page slot bytes => b' = .programming w (g || gone w) page slot bytes

theorem bufferLosing_refl (b : Buffer) : BufferLosing (fun _ => false) b b := by
  cases b <;> simp [BufferLosing]

theorem BufferLosing.trans {f g : Source → Bool} {b b' b'' : Buffer} (h : BufferLosing f b b')
    (k : BufferLosing g b' b'') : BufferLosing (fun src => f src || g src) b b'' := by
  cases b with
  | free =>
    obtain rfl : b' = .free := h
    exact k
  | programming w gone page slot bytes =>
    obtain rfl : b' = .programming w (gone || f w) page slot bytes := h
    have k : b'' = .programming w ((gone || f w) || g w) page slot bytes := k
    rwa [Bool.or_assoc] at k
  | loaded w page bytes target =>
    by_cases hf : f w = true
    · obtain rfl : b' = .free := by simpa [BufferLosing, hf] using h
      obtain rfl : b'' = .free := k
      simp [BufferLosing, hf]
    · obtain ⟨target', rfl⟩ : ∃ target, b' = .loaded w page bytes target := by simpa [BufferLosing, hf] using h
      simpa [BufferLosing, hf] using k

theorem bufferLosing_repost (b : Buffer) : BufferLosing (fun _ => false) b (repost b) := by
  rcases b with _ | ⟨_, _, _, _ | _ | _ | _⟩ | _ <;> simp [BufferLosing, repost]

theorem bufferLosing_abandonPage (src : Source) (b : Buffer) : BufferLosing (· == src) b (abandonPage src b) := by
  cases b with
  | free => rfl
  | programming => rfl
  | loaded w page bytes target =>
    by_cases hw : w = src
    · simp [BufferLosing, abandonPage, hw]
    · simp [BufferLosing, abandonPage, hw]

/-- A change of both program buffers. -/
theorem foldl_modBuffer_buffers (h : Buffer → Buffer) (st : Store) (i : Fin 2) :
    (allBuffers.foldl (fun st i => modBuffer i h st) st).buffers[i] = h st.buffers[i] := by
  fin_cases i <;> simp [allBuffers, modBuffer]

/-! ### Releases -/

/-- What has been let go on the way from `s` to `t`: the streams of the ports `lost`, the sources `gone`, and the blocks of
`chain`, which have joined the tail of the DIRTY pool in this order. -/
structure Releases (lost : Port → Bool) (gone : Source → Bool) (chain : List Nat) (s t : State) : Prop where
  ports : ∀ p : Port, t.ports[p] = if lost p then detachedPort s.ports[p] else s.ports[p]
  array : t.store.array = arrayLosing lost gone s.store.array
  buffers : ∀ i : Fin 2, BufferLosing gone s.store.buffers[i] t.store.buffers[i]
  dirty : t.store.dirty = s.store.dirty ++ chain
  erased : t.store.erased = s.store.erased

variable {a b : Port → Bool} {f g : Source → Bool} {x y : List Nat}

theorem Releases.of_eq (hp : t.ports = s.ports) (hs : t.store = s.store) :
    Releases (fun _ => false) (fun _ => false) [] s t where
  ports p := by rw [hp]; rfl
  array := by rw [hs, arrayLosing_none]
  buffers i := by rw [hs]; exact bufferLosing_refl _
  dirty := by rw [hs, List.append_nil]
  erased := by rw [hs]

theorem Releases.trans (h : Releases a f x s t) (k : Releases b g y t u) :
    Releases (fun p => a p || b p) (fun src => f src || g src) (x ++ y) s u where
  ports p := by
    rw [k.ports p, h.ports p]
    by_cases ha : a p = true <;> by_cases hb : b p = true <;> simp [ha, hb, detachedPort_detachedPort]
  array := by rw [k.array, h.array, arrayLosing_arrayLosing]
  buffers i := (h.buffers i).trans (k.buffers i)
  dirty := by rw [k.dirty, h.dirty, List.append_assoc]
  erased := k.erased.trans h.erased

/-- The same ports, sources and blocks, otherwise written. -/
theorem Releases.of_eqs (h : Releases a f x s t) (hab : ∀ p, a p = b p) (hfg : ∀ src, f src = g src) (hxy : x = y) :
    Releases b g y s t := by
  obtain rfl : a = b := funext hab
  obtain rfl : f = g := funext hfg
  exact hxy ▸ h

/-- A change that touches neither the ports nor the store adds nothing. -/
theorem Releases.andThen (h : Releases a f x s t) (hp : u.ports = t.ports) (hs : u.store = t.store) :
    Releases a f x s u where
  ports p := by rw [hp]; exact h.ports p
  array := by rw [hs]; exact h.array
  buffers i := by rw [hs]; exact h.buffers i
  dirty := by rw [hs]; exact h.dirty
  erased := by rw [hs]; exact h.erased

theorem releases_release (chain : List Nat) (s : State) :
    Releases (fun _ => false) (fun _ => false) chain s (release chain s) where
  ports _ := rfl
  array := by rw [release_array, arrayLosing_none]
  buffers i := by
    unfold release modStore
    dsimp only
    split
    · rw [foldl_modBuffer_buffers]
      exact bufferLosing_repost _
    · exact bufferLosing_refl _
  dirty := release_dirty ..
  erased := release_erased ..

theorem releases_detach (src : StreamSource) (s : State) :
    Releases (fun p => activeSource s.ports[p] == some src) (fun _ => false) [] s (detach src s) := by
  obtain ⟨⟨ports, array⟩, only⟩ := detaches_detach src s
  have buffers : (detach src s).store.buffers = s.store.buffers := by rw [only]
  exact {
    ports := ports
    array := by rw [array, arrayLosing_ports]
    buffers := fun i => by rw [buffers]; exact bufferLosing_refl _
    dirty := by rw [detach_dirty, List.append_nil]
    erased := detach_erased .. }

theorem abandonSource_buffers (src : Source) (st : Store) (i : Fin 2) :
    BufferLosing (· == src) st.buffers[i] (abandonSource src st).buffers[i] := by
  have buffers : (abandonSource src st).buffers =
      (allBuffers.foldl (fun st i => modBuffer i (abandonPage src) st) st).buffers := by
    unfold abandonSource
    dsimp only
    split <;> rfl
  rw [buffers, foldl_modBuffer_buffers]
  exact bufferLosing_abandonPage _ _

theorem abandonSource_array (src : Source) (st : Store) : (abandonSource src st).array =
    match st.array with
    | .erasing b (.builtIn w) gone => .erasing b (.builtIn w) (gone || w == src)
    | op => op := by
  have array : (allBuffers.foldl (fun st i => modBuffer i (abandonPage src) st) st).array = st.array := rfl
  unfold abandonSource
  dsimp only
  rw [array]
  split <;> simp_all

theorem orphanRead_leaves (who : Reader) (st : Store) :
    (orphanRead who st).buffers = st.buffers ∧ (orphanRead who st).dirty = st.dirty ∧
      (orphanRead who st).erased = st.erased := by
  unfold orphanRead
  split
  · split <;> exact ⟨rfl, rfl, rfl⟩
  · exact ⟨rfl, rfl, rfl⟩

/-- A capture stream's side of the store given up (R44, R79). -/
theorem releases_abandonStream (p : Port) (s : State) :
    Releases (fun _ => false) (· == .stream p) [] s (modStore (abandonSource (.stream p)) s) where
  ports _ := rfl
  array := by
    rw [modStore_store, abandonSource_array]
    rcases s.store.array with _ | ⟨_ | _, _, _⟩ | _ | ⟨_, _ | _, _⟩ <;> simp [arrayLosing]
  buffers i := abandonSource_buffers _ _ i
  dirty := by rw [modStore_store, (abandonSource_pools _ _).1, List.append_nil]
  erased := by rw [modStore_store, (abandonSource_pools _ _).2]

/-- A lane's side of the store given up (R103, R105). -/
theorem releases_abandonLane (l : Lane) (s : State) : Releases (fun _ => false) (· == .lane l) [] s
    (modStore (fun st => orphanRead (.lane l) (abandonSource (.lane l) st)) s) := by
  obtain ⟨buffers, dirty, erased⟩ := orphanRead_leaves (.lane l) (abandonSource (.lane l) s.store)
  exact {
    ports := fun _ => rfl
    array := by
      rw [modStore_store, orphanRead, abandonSource_array]
      rcases h : s.store.array with _ | ⟨l' | p, _ | _, slot⟩ | _ | ⟨_, _ | _, _⟩
      case reading.lane.false =>
        by_cases hl : l' = l <;> simp [arrayLosing, abandonSource_array, h, hl]
      all_goals simp [arrayLosing, abandonSource_array, h]
    buffers := fun i => by
      rw [modStore_store, buffers]
      exact abandonSource_buffers _ _ i
    dirty := by rw [modStore_store, dirty, (abandonSource_pools _ _).1, List.append_nil]
    erased := by rw [modStore_store, erased, (abandonSource_pools _ _).2] }

theorem releases_clearLane {l : Lane} {j : Job} (h : s.lanes[l] = some j) :
    Releases (fun _ => false) (· == .lane l) j.blocks s (clearLane l s) := by
  have given := (releases_abandonLane l s).andThen
    (u := setLane l none (modStore (fun st => orphanRead (.lane l) (abandonSource (.lane l) st)) s)) rfl rfl
  simp only [clearLane, h]
  exact (given.trans (releases_release j.blocks _)).of_eqs (fun _ => rfl) (fun _ => Bool.or_false _) rfl

/-- The sources that go when the job of a chapter is aborted (R105). -/
def jobGone (s : State) (c : ChapterId) (src : Source) : Bool := (laneOf s c).any fun l => src == .lane l

theorem releases_abortJobOf (c : ChapterId) (s : State) :
    Releases (fun _ => false) (jobGone s c) (jobBlocks s c) s (abortJobOf c s) := by
  unfold abortJobOf jobBlocks jobGone
  cases h : laneOf s c with
  | none => exact .of_eq rfl rfl
  | some l =>
    have held := view_lane_of_laneOf h
    obtain ⟨j, hj, -⟩ := Option.map_eq_some_iff.mp held
    have hj : s.lanes[l] = some j := hj
    have blocks : laneChain s l = j.blocks := by rw [laneChain, hj]; rfl
    refine (releases_clearLane hj).of_eqs (fun _ => rfl) (fun _ => rfl) ?_
    simp [blocks]

theorem releases_releaseOutput (c : ChapterId) (s : State) :
    Releases (readsOutput s c) (fun _ => false) (ownedChain s c) s (releaseOutput c s) := by
  unfold releaseOutput ownedChain
  cases h : s.chapters[c].bind ownedOutput with
  | none => exact (Releases.of_eq rfl rfl).of_eqs (fun p => by rw [readsOutput, h]; rfl) (fun _ => rfl) rfl
  | some o =>
    have cleared : Releases (fun _ => false) (fun _ => false) [] s
        (modChapter c (fun r => { r with result := r.result.map fun g => { g with output := none } }) s) := .of_eq rfl rfl
    exact ((cleared.trans (releases_release o.chain _)).trans (releases_detach (.output c) _)).of_eqs
      (fun p => by rw [readsOutput, h]; rfl) (fun _ => rfl) (by simp)

/-- The ports whose stream reads a take. -/
def readsTake (s : State) (k : TakeId) (p : Port) : Bool :=
  s.takes[k].isSome && activeSource s.ports[p] == some (.take k)

theorem releases_freeTake (k : TakeId) (s : State) :
    Releases (readsTake s k) (fun _ => false) (takeChain s k) s (freeTake k s) := by
  unfold freeTake takeChain
  cases h : s.takes[k] with
  | none => exact (Releases.of_eq rfl rfl).of_eqs (fun p => by rw [readsTake, h]; rfl) (fun _ => rfl) rfl
  | some r =>
    have counted : Releases (fun _ => false) (fun _ => false) [] s
        (modTitle r.title (fun x => { x with takeCount := x.takeCount - 1 }) s) := .of_eq rfl rfl
    have all := ((counted.trans (releases_release r.chain _)).trans (releases_detach (.take k) _)).andThen
      (u := setTake k none (detach (.take k) (release r.chain
        (modTitle r.title (fun x => { x with takeCount := x.takeCount - 1 }) s)))) rfl rfl
    exact all.of_eqs (fun p => by rw [readsTake, h]; rfl) (fun _ => rfl) (by simp)

end Sys2Proof.Machine

/-! The records a purge frees, clears or drops, in the order of R85: what has become of a state when the chapters of a list,
the streams of a list and the takes of a list have been purged. -/

namespace Sys2Proof.Machine

variable {s u : State} {c : ChapterId} {D : List ChapterId} {Ps : List Port} {K : List TakeId}

/-! ### What has been purged so far -/

/-- A purge frees the chapter: it has a record that is not PUBLISHED (R84). -/
def isFreed (s : State) (c : ChapterId) : Bool := s.chapters[c].any fun r => r.state != .published

/-- A record without its place, which moves when others are freed. -/
def unplaced (r : Chapter) : Chapter := { r with position := 0 }

/-- A record with its script cleared, without its place (R21). -/
def scriptless (r : Chapter) : Chapter :=
  { r with position := 0, slots := Vector.replicate 32 Step.blank, cursor := 0, scriptCleared := true }

/-- A title without its take count. -/
def uncounted (r : Title) : Title := { r with takeCount := 0 }

/-- A take without its references. -/
def unreferred (r : Take) : Take := { r with refs := 0 }

/-- The ports whose stream has lost its source when chapters `D` and takes `K` have been purged. -/
def lostIn (s : State) (D : List ChapterId) (K : List TakeId) (q : Port) : Bool :=
  match activeSource s.ports[q] with
  | some (.output c) => D.contains c && isFreed s c && (s.chapters[c].bind ownedOutput).isSome
  | some (.take k) => K.contains k && s.takes[k].isSome
  | none => false

/-- The sources that are gone when chapters `D` and streams `Ps` have been purged. -/
def goneIn (s : State) (D : List ChapterId) (Ps : List Port) (src : Source) : Bool :=
  match src with
  | .lane l => s.lanes[l].any fun j => D.contains j.chapter
  | .stream p => Ps.contains p && s.captures[p].isSome

/-- `u` is what a purge has made of `s` when it has come through the chapters `D`, the streams `Ps` and the takes `K`. -/
structure Purged (s : State) (D : List ChapterId) (Ps : List Port) (K : List TakeId) (u : State) : Prop where
  chapters : ∀ c : ChapterId, u.chapters[c].map unplaced =
    if c ∈ D then (s.chapters[c].filter fun r => r.state == .published).map scriptless else s.chapters[c].map unplaced
  titles : ∀ k : TitleNo, u.titles[k].map uncounted =
    s.titles[k].map fun r => uncounted { r with chapters := r.chapters.filter fun c => !(D.contains c && isFreed s c) }
  takes : ∀ k : TakeId, u.takes[k].map unreferred = if k ∈ K then none else s.takes[k].map unreferred
  captures : ∀ p : Port, u.captures[p] = if p ∈ Ps then none else s.captures[p]
  levels : ∀ p : Port, u.levels[p] =
    if p ∈ Ps ∧ s.captures[p] ≠ none then { s.levels[p] with present := false } else s.levels[p]
  lanes : ∀ l : Lane, u.lanes[l] = s.lanes[l].filter fun j => !D.contains j.chapter
  queue : u.queue = []
  profiles : u.profiles = s.profiles
  releases : Releases (lostIn s D K) (goneIn s D Ps)
    ((D.filter (isFreed s)).flatMap (heldBlocks s) ++ K.flatMap (takeChain s)) s u

theorem purged_start (s : State) : Purged s [] [] [] (setQueue [] s) where
  chapters c := by simp
  titles k := by simp
  takes k := by simp
  captures p := by simp
  levels p := by simp
  lanes l := by
    show s.lanes[l] = _
    cases s.lanes[l] <;> rfl
  queue := rfl
  profiles := rfl
  releases := by
    have none_lost (q : Port) : false = lostIn s [] [] q := by
      unfold lostIn
      split <;> rfl
    have none_gone (src : Source) : false = goneIn s [] [] src := by
      unfold goneIn
      split
      · rename_i l
        cases s.lanes[l] <;> rfl
      · rfl
    have nothing : Releases (fun _ => false) (fun _ => false) [] s (setQueue [] s) := .of_eq rfl rfl
    exact nothing.of_eqs none_lost none_gone rfl

/-! ### The source of a stream while a purge goes on -/

theorem Purged.source (h : Purged s D Ps K u) (q : Port) :
    activeSource u.ports[q] = if lostIn s D K q then none else activeSource s.ports[q] := by
  rw [h.releases.ports q]
  split <;> rfl

/-! ### What single operations leave but for places and references -/

/-- A record that differs in its place alone. -/
theorem eq_of_unplaced {r r' : Chapter} (h : unplaced r' = unplaced r) : r' = { r with position := r'.position } := by
  have : r' = { unplaced r' with position := r'.position } := rfl
  rw [this, h]
  rfl

theorem releaseReferences_unreferred (c : ChapterId) (s : State) (k : TakeId) :
    (releaseReferences c s).takes[k].map unreferred = s.takes[k].map unreferred := by
  have one (t : TakeId) (s : State) :
      (modTake t (fun r => { r with refs := r.refs - 1 }) s).takes[k].map unreferred = s.takes[k].map unreferred := by
    by_cases hk : k = t
    · subst hk
      have self := modTake_takes_self s k fun r => { r with refs := r.refs - 1 }
      refine (congrArg (Option.map unreferred) self).trans ?_
      rw [Option.map_map]
      rfl
    · exact congrArg (Option.map unreferred) (modTake_takes_ne s t k _ hk)
  have fold (ts : List TakeId) (s : State) : (dropReferences ts s).takes[k].map unreferred = s.takes[k].map unreferred := by
    induction ts generalizing s with
    | nil => rfl
    | cons t ts ih => exact (ih _).trans (one t s)
  unfold releaseReferences
  split
  · split
    · rfl
    · exact fold _ s
  · rfl

theorem clearScript_frame (c : ChapterId) (s : State) : clearScript c s = { s with
    takes := (clearScript c s).takes, chapters := (clearScript c s).chapters } := by
  unfold clearScript
  rw [releaseReferences_frame]
  rfl

theorem clearScript_chapters (c d : ChapterId) (s : State) : (clearScript c s).chapters[d] = if d = c then
    s.chapters[d].map fun r => { r with slots := Vector.replicate 32 Step.blank, cursor := 0, scriptCleared := true }
    else s.chapters[d] := by
  by_cases hd : d = c
  · subst hd
    refine (modChapter_chapters_self _ d _).trans ?_
    rw [releaseReferences_chapters, if_pos rfl]
    rfl
  · refine (modChapter_chapters_ne _ c d _ hd).trans ?_
    rw [releaseReferences_chapters, if_neg hd]
    rfl

/-! ### Chapters that a purge does not free -/

/-- A chapter without a record, or PUBLISHED, is on no lane (R87). -/
theorem lane_ne_of_not_freed (hq : QueueLaw s) (hf : isFreed s c = false) {l : Lane} {j : Job} (hl : s.lanes[l] = some j) :
    j.chapter ≠ c := by
  rintro rfl
  obtain ⟨-, -, -, rendering, -⟩ := hq
  have state := (rendering j.chapter).mpr ⟨l, by rw [laneChapter, hl]; rfl⟩
  obtain ⟨r, hr, hs⟩ := Option.map_eq_some_iff.mp state
  rw [isFreed, hr] at hf
  simp [hs] at hf

/-- One chapter more that is not freed changes nothing of what is lost. -/
theorem Purged.append_not_freed (h : Purged s D Ps K u) (hq : QueueLaw s) (hf : isFreed s c = false) {t : State}
    (chapters : ∀ d : ChapterId, t.chapters[d].map unplaced = if d ∈ D ++ [c] then
      (s.chapters[d].filter fun r => r.state == .published).map scriptless else s.chapters[d].map unplaced)
    (titles : t.titles = u.titles) (takes : ∀ k : TakeId, t.takes[k].map unreferred = u.takes[k].map unreferred)
    (captures : t.captures = u.captures) (levels : t.levels = u.levels) (lanes : t.lanes = u.lanes)
    (queue : t.queue = u.queue) (profiles : t.profiles = u.profiles) (ports : t.ports = u.ports)
    (store : t.store = u.store) : Purged s (D ++ [c]) Ps K t where
  chapters := chapters
  titles k := by
    have same (d : ChapterId) : ((D ++ [c]).contains d && isFreed s d) = (D.contains d && isFreed s d) := by
      by_cases hd : d = c
      · subst hd
        simp [hf]
      · simp [hd]
    simp only [same]
    rw [titles]
    exact h.titles k
  takes k := (takes k).trans (h.takes k)
  captures p := by rw [captures]; exact h.captures p
  levels p := by rw [levels]; exact h.levels p
  lanes l := by
    rw [lanes, h.lanes l]
    cases hl : s.lanes[l] with
    | none => rfl
    | some j =>
      have := lane_ne_of_not_freed hq hf hl
      simp [Option.filter_some, this]
  queue := queue.trans h.queue
  profiles := profiles.trans h.profiles
  releases := by
    refine (h.releases.andThen ports store).of_eqs (fun q => ?_) (fun src => ?_) ?_
    · unfold lostIn
      split
      · rename_i d _
        by_cases hd : d = c
        · subst hd
          simp [hf]
        · simp [hd]
      · rfl
      · rfl
    · unfold goneIn
      split
      · rename_i l
        cases hl : s.lanes[l] with
        | none => rfl
        | some j =>
          have := lane_ne_of_not_freed hq hf hl
          simp [this]
      · rfl
    · simp [List.filter_append, hf]

/-- One chapter of a purge that has no record. -/
theorem Purged.append_free (h : Purged s D Ps K u) (hq : QueueLaw s) (hc : c ∉ D) (hr : s.chapters[c] = none) :
    Purged s (D ++ [c]) Ps K u := by
  have hf : isFreed s c = false := by rw [isFreed, hr]; rfl
  refine h.append_not_freed hq hf (fun d => ?_) rfl (fun _ => rfl) rfl rfl rfl rfl rfl rfl rfl
  rw [h.chapters d]
  by_cases hd : d = c
  · subst hd
    rw [if_neg hc, if_pos (by simp), hr]
    rfl
  · simp [hd]

/-- One PUBLISHED chapter of a purge: its script is cleared (R21). -/
theorem Purged.append_published (h : Purged s D Ps K u) (hq : QueueLaw s) (hc : c ∉ D) {r : Chapter}
    (hr : s.chapters[c] = some r) (hs : r.state = .published) : Purged s (D ++ [c]) Ps K (clearScript c u) := by
  have hf : isFreed s c = false := by rw [isFreed, hr]; simp [hs]
  have same := h.chapters c
  rw [if_neg hc, hr, Option.map_some] at same
  obtain ⟨r', hr', hplace⟩ := Option.map_eq_some_iff.mp same
  refine h.append_not_freed hq hf (fun d => ?_) ?_ (fun k => releaseReferences_unreferred c u k) ?_ ?_ ?_ ?_ ?_ ?_ ?_
  · rw [clearScript_chapters]
    by_cases hd : d = c
    · subst hd
      rw [if_pos rfl, if_pos (by simp), hr', hr, eq_of_unplaced hplace]
      simp [hs, unplaced, scriptless]
    · rw [if_neg hd, h.chapters d]
      simp [hd]
  all_goals rw [clearScript_frame]

/-! ### A chapter that a purge frees -/

/-- A lane holds at most one chapter, and a chapter is on at most one lane (R87). -/
def OneLane (s : State) : Prop := ∀ (l m : Lane) (c : ChapterId), (view s).lane l = some c → (view s).lane m = some c → l = m

theorem oneLane_of_queueLaw (h : QueueLaw s) : OneLane s := (heldLaw_of_queueLaw h).lanes

theorem laneOf_eq_some (h : OneLane s) {l : Lane} (hl : (view s).lane l = some c) : laneOf s c = some l := by
  cases hm : laneOf s c with
  | none => exact absurd hl (view_lane_of_laneOf_none hm l)
  | some m => rw [h l m c hl (view_lane_of_laneOf hm)]

/-- The lanes while a purge goes on: those of the purged chapters are idle. -/
theorem Purged.lane (h : Purged s D Ps K u) (l : Lane) :
    (view u).lane l = ((view s).lane l).filter fun d => !D.contains d := by
  have lane : (view u).lane l = u.lanes[l].map (·.chapter) := rfl
  have lane' : (view s).lane l = s.lanes[l].map (·.chapter) := rfl
  rw [lane, lane', h.lanes l]
  cases s.lanes[l] with
  | none => rfl
  | some j => by_cases hj : j.chapter ∈ D <;> simp [Option.filter_some, hj]

theorem Purged.lane_iff (h : Purged s D Ps K u) (hc : c ∉ D) (l : Lane) :
    (view u).lane l = some c ↔ (view s).lane l = some c := by
  rw [h.lane l, Option.filter_eq_some_iff]
  simp [hc]

theorem Purged.oneLane (h : Purged s D Ps K u) (hs : OneLane s) : OneLane u := by
  intro l m d hl hm
  rw [h.lane l, Option.filter_eq_some_iff] at hl
  rw [h.lane m, Option.filter_eq_some_iff] at hm
  exact hs l m d hl.1 hm.1

theorem Purged.laneOf (h : Purged s D Ps K u) (hs : OneLane s) (hc : c ∉ D) : laneOf u c = Machine.laneOf s c := by
  cases hl : Machine.laneOf s c with
  | some l => exact laneOf_eq_some (h.oneLane hs) ((h.lane_iff hc l).mpr (view_lane_of_laneOf hl))
  | none =>
    cases hm : Machine.laneOf u c with
    | none => rfl
    | some m => exact absurd ((h.lane_iff hc m).mp (view_lane_of_laneOf hm)) (view_lane_of_laneOf_none hl m)

theorem Purged.jobBlocks (h : Purged s D Ps K u) (hs : OneLane s) (hc : c ∉ D) :
    Machine.jobBlocks u c = Machine.jobBlocks s c := by
  unfold Machine.jobBlocks
  rw [h.laneOf hs hc]
  cases hl : Machine.laneOf s c with
  | none => rfl
  | some l =>
    obtain ⟨j, hj, hjc⟩ := Option.map_eq_some_iff.mp (view_lane_of_laneOf hl)
    have hj : s.lanes[l] = some j := hj
    have kept : u.lanes[l] = some j := by
      rw [h.lanes l, hj]
      simp [Option.filter_some, hjc, hc]
    simp [laneChain, hj, kept]

/-- The output of a chapter that the purge has not come to. -/
theorem Purged.output (h : Purged s D Ps K u) (hc : c ∉ D) : u.chapters[c].bind ownedOutput = s.chapters[c].bind ownedOutput := by
  have same := h.chapters c
  rw [if_neg hc] at same
  have := congrArg (fun o : Option Chapter => o.bind ownedOutput) same
  simp only [Option.bind_map] at this
  exact this

theorem clearLane_lanes (m l : Lane) (s : State) : (clearLane m s).lanes[l] = if l = m then none else s.lanes[l] := by
  unfold clearLane
  by_cases hl : l = m
  · subst hl
    rw [if_pos rfl]
    split
    · assumption
    · rw [release_lanes]
      exact setLane_lanes_self ..
  · rw [if_neg hl]
    split
    · rfl
    · rw [release_lanes]
      exact setLane_lanes_ne _ _ _ _ hl

/-- The lanes after the abort of a chapter's job. -/
theorem abortJobOf_lanes (hs : OneLane s) (c : ChapterId) (l : Lane) :
    (abortJobOf c s).lanes[l] = s.lanes[l].filter fun j => j.chapter != c := by
  have holds {m : Lane} {j : Job} (hj : s.lanes[m] = some j) : (view s).lane m = some j.chapter := view_lane_of_some hj
  unfold abortJobOf
  cases hm : Machine.laneOf s c with
  | none =>
    cases hl : s.lanes[l] with
    | none => rfl
    | some j =>
      have : j.chapter ≠ c := by
        rintro rfl
        exact view_lane_of_laneOf_none hm l (holds hl)
      simp [Option.filter_some, this]
  | some m =>
    show (clearLane m s).lanes[l] = _
    rw [clearLane_lanes]
    cases hl : s.lanes[l] with
    | none => simp
    | some j =>
      by_cases hj : j.chapter = c
      · have : l = m := hs l m c (hj ▸ holds hl) (view_lane_of_laneOf hm)
        simp [this, Option.filter_some, hj]
      · have : l ≠ m := by
          rintro rfl
          exact hj (Option.some.inj ((holds hl).symm.trans (view_lane_of_laneOf hm)))
        simp [this, Option.filter_some, hj]

/-- A freed record moves the others of its title, and changes nothing else of them (R6). -/
theorem freeChapter_others {d : ChapterId} (hd : d ≠ c) (s : State) :
    (freeChapter c s).chapters[d].map unplaced = s.chapters[d].map unplaced := by
  cases hc : s.chapters[c] with
  | none =>
    have same : freeChapter c s = s := by simp only [freeChapter, hc]
    rw [same]
  | some r =>
    have h := congrFun (congrArg View.chapter (view_freeChapter s (c := c) (r := r) hc)) d
    rw [View.setChapter_chapter, Function.update_of_ne hd] at h
    obtain ⟨q, hq⟩ := View.reorder_chapter (view s) r.title (((view s).list r.title).erase c) d
    have h : (freeChapter c s).chapters[d] = s.chapters[d].map fun r => { r with position := q r } := h.trans hq
    rw [h, Option.map_map]
    rfl

/-- A purged chapter that is not PUBLISHED: aborted, released and freed (R84). -/
theorem purgeChapter_freed {r : Chapter} (h : s.chapters[c] = some r) (hs : r.state ≠ .published) :
    purgeChapter s c = freeChapter c (releaseReferences c (releaseOutput c (abortJobOf c s))) := by
  simp only [purgeChapter, h, if_neg hs]

@[simp] theorem abortJobOf_chapters : (abortJobOf c s).chapters = s.chapters := by rw [abortJobOf_eq]
@[simp] theorem abortJobOf_titles : (abortJobOf c s).titles = s.titles := by rw [abortJobOf_eq]
@[simp] theorem abortJobOf_takes : (abortJobOf c s).takes = s.takes := by rw [abortJobOf_eq]
@[simp] theorem abortJobOf_captures : (abortJobOf c s).captures = s.captures := by rw [abortJobOf_eq]
@[simp] theorem abortJobOf_levels : (abortJobOf c s).levels = s.levels := by rw [abortJobOf_eq]
@[simp] theorem abortJobOf_profiles : (abortJobOf c s).profiles = s.profiles := by rw [abortJobOf_eq]
@[simp] theorem abortJobOf_queue : (abortJobOf c s).queue = s.queue := by rw [abortJobOf_eq]
@[simp] theorem abortJobOf_ports : (abortJobOf c s).ports = s.ports := by rw [abortJobOf_eq]
@[simp] theorem releaseOutput_captures : (releaseOutput c s).captures = s.captures := by rw [releaseOutput_frame]
@[simp] theorem releaseReferences_captures : (releaseReferences c s).captures = s.captures := by
  rw [releaseReferences_frame]
@[simp] theorem freeChapter_captures : (freeChapter c s).captures = s.captures := by rw [freeChapter_frame]

/-- A chapter on no title's list but its own (R6). -/
theorem title_of_mem (hp : PositionLaw s) {k : TitleNo} {x : Title} (hx : s.titles[k] = some x) (hc : c ∈ x.chapters) :
    ∃ r, s.chapters[c] = some r ∧ r.title = k := by
  obtain ⟨i, hi⟩ := List.mem_iff_getElem?.mp hc
  have list : chapterList s k = x.chapters := by simp only [chapterList, hx]
  obtain ⟨-, r, hr, ht, -⟩ := (hp.2.2 k c i).mp (by rw [list]; exact hi)
  exact ⟨r, hr, ht⟩

/-- The ports that lose their source with one chapter more. -/
theorem Purged.lost_append (h : Purged s D Ps K u) (hc : c ∉ D) (hf : isFreed s c = true) (q : Port) :
    (lostIn s D K q || readsOutput u c q) = lostIn s (D ++ [c]) K q := by
  have source := h.source q
  rw [readsOutput, h.output hc, source]
  unfold lostIn at *
  cases hs : Machine.activeSource s.ports[q] with
  | none => simp
  | some src =>
    cases src with
    | take k => simp
    | output d =>
      by_cases hd : d = c
      · subst hd
        simp [hc, hf]
      · simp [hd]

/-- The sources that are gone with one chapter more. -/
theorem Purged.gone_append (h : Purged s D Ps K u) (hs : OneLane s) (hc : c ∉ D) (src : Source) :
    (goneIn s D Ps src || jobGone u c src) = goneIn s (D ++ [c]) Ps src := by
  unfold jobGone
  rw [h.laneOf hs hc]
  cases src with
  | stream p => cases Machine.laneOf s c <;> simp [goneIn]
  | lane l =>
    have here : (Machine.laneOf s c).any (fun m => Source.lane l == .lane m) = decide ((view s).lane l = some c) := by
      cases hm : Machine.laneOf s c with
      | none => simp [view_lane_of_laneOf_none hm l]
      | some m =>
        have held := view_lane_of_laneOf hm
        by_cases hl : l = m
        · subst hl
          simp [held]
        · have : (view s).lane l ≠ some c := fun e => hl (hs l m c e held)
          simp [hl, this]
    rw [here]
    show (s.lanes[l].any (fun j => D.contains j.chapter) || _) = s.lanes[l].any fun j => (D ++ [c]).contains j.chapter
    cases hj : s.lanes[l] with
    | none =>
      rw [view_lane_of_none hj]
      rfl
    | some j =>
      rw [view_lane_of_some hj, Option.any_some, Option.any_some]
      simp

/-- The titles' lists with one chapter more taken out: a list holds a chapter once, and that of its title alone (R6). -/
theorem titles_append (hp : PositionLaw s) {r : Chapter} (hr : s.chapters[c] = some r) (hf : isFreed s c = true)
    {k : TitleNo} {o : Option Title}
    (h : o.map uncounted = s.titles[k].map fun x =>
      uncounted { x with chapters := x.chapters.filter fun d => !(D.contains d && isFreed s d) }) :
    (o.map fun x => if k = r.title then { x with chapters := x.chapters.erase c } else x).map uncounted =
      s.titles[k].map fun x =>
        uncounted { x with chapters := x.chapters.filter fun d => !((D ++ [c]).contains d && isFreed s d) } := by
  cases hx : s.titles[k] with
  | none =>
    rw [hx] at h
    rw [Option.map_eq_none_iff.mp h]
    rfl
  | some x =>
    rw [hx] at h
    obtain ⟨y, rfl, hy⟩ := Option.map_eq_some_iff.mp h
    have keep (d : ChapterId) : (!((D ++ [c]).contains d && isFreed s d)) =
        ((d != c) && !(D.contains d && isFreed s d)) := by
      by_cases hd : d = c
      · subst hd
        simp [hf]
      · simp [hd]
    have list : y.chapters = x.chapters.filter fun d => !(D.contains d && isFreed s d) := congrArg Title.chapters hy
    simp only [keep, Option.map_some, Option.some.injEq]
    by_cases hk : k = r.title
    · have nodup : y.chapters.Nodup := list ▸ (hp.1 k x hx).1.filter _
      rw [if_pos hk]
      have erased : y.chapters.erase c = x.chapters.filter fun d => (d != c) && !(D.contains d && isFreed s d) := by
        rw [nodup.erase_eq_filter, list, List.filter_filter]
      rw [← erased]
      exact congrArg (fun z : Title => { z with chapters := y.chapters.erase c }) hy
    · have absent : ∀ d ∈ x.chapters, (d != c) = true := by
        intro d hd
        have : d ≠ c := by
          rintro rfl
          obtain ⟨r', hr', ht⟩ := title_of_mem hp hx hd
          rw [hr] at hr'
          cases hr'
          exact hk ht.symm
        simp [this]
      have kept : (x.chapters.filter fun d => (d != c) && !(D.contains d && isFreed s d)) =
          x.chapters.filter fun d => !(D.contains d && isFreed s d) :=
        List.filter_congr fun d hd => by rw [absent d hd, Bool.true_and]
      rw [if_neg hk, hy, kept]

/-- One chapter of a purge that is not PUBLISHED: it is freed (R84). -/
theorem Purged.append_freed (h : Purged s D [] [] u) (hq : QueueLaw s) (hp : PositionLaw s) (hc : c ∉ D) {r r' : Chapter}
    (hr : s.chapters[c] = some r) (hs : r.state ≠ .published) (hr' : u.chapters[c] = some r') :
    Purged s (D ++ [c]) [] [] (freeChapter c (releaseReferences c (releaseOutput c (abortJobOf c u)))) := by
  have hone := oneLane_of_queueLaw hq
  have hf : isFreed s c = true := by rw [isFreed, hr]; simp [hs]
  have same := h.chapters c
  rw [if_neg hc, hr, hr'] at same
  have hplace := eq_of_unplaced (Option.some.inj same)
  have record : (releaseReferences c (releaseOutput c (abortJobOf c u))).chapters[c] = some (withoutOutput r') := by
    rw [releaseReferences_chapters, (chapters_releaseOutput c _).1, abortJobOf_chapters, hr']
    rfl
  exact {
    chapters := fun d => by
      by_cases hd : d = c
      · subst hd
        rw [freeChapter_record, if_pos (by simp), hr]
        simp [hs]
      · rw [freeChapter_others hd, releaseReferences_chapters, (chapters_releaseOutput c _).2 d hd, abortJobOf_chapters,
          h.chapters d]
        simp [hd]
    titles := fun k => by
      rw [freeChapter_titles record, releaseReferences_titles, releaseOutput_titles, abortJobOf_titles]
      have title : (withoutOutput r').title = r.title := by
        rw [hplace]
        rfl
      rw [title]
      exact titles_append hp hr hf (h.titles k)
    takes := fun k => by
      rw [freeChapter_takes, releaseReferences_unreferred, releaseOutput_takes, abortJobOf_takes]
      exact h.takes k
    captures := fun p => by
      simp only [freeChapter_captures, releaseReferences_captures, releaseOutput_captures, abortJobOf_captures]
      exact h.captures p
    levels := fun p => by
      simp only [freeChapter_levels, releaseReferences_levels, releaseOutput_levels, abortJobOf_levels]
      exact h.levels p
    lanes := fun l => by
      simp only [freeChapter_lanes, releaseReferences_lanes, releaseOutput_lanes]
      rw [abortJobOf_lanes (h.oneLane hone), h.lanes l, Option.filter_filter]
      congr 1
      funext j
      by_cases hj : j.chapter ∈ D <;> by_cases hjc : j.chapter = c <;> simp [hj, hjc]
    queue := by simp [h.queue]
    profiles := by simp [h.profiles]
    releases := by
      have aborted := h.releases.trans (releases_abortJobOf c u)
      have released := aborted.trans (releases_releaseOutput c (abortJobOf c u))
      refine (released.andThen (u := freeChapter c (releaseReferences c (releaseOutput c (abortJobOf c u)))) (by simp)
        (by simp)).of_eqs (fun q => ?_) (fun src => ?_) ?_
      · have reads : readsOutput (abortJobOf c u) c q = readsOutput u c q := by
          unfold readsOutput
          rw [abortJobOf_chapters, abortJobOf_ports]
        rw [reads, Bool.or_false]
        exact h.lost_append hc hf q
      · rw [Bool.or_false]
        exact h.gone_append hone hc src
      · have owned : ownedChain (abortJobOf c u) c = ownedChain s c := by
          unfold ownedChain
          rw [abortJobOf_chapters, h.output hc]
        rw [h.jobBlocks hone hc, owned]
        simp [List.filter_append, hf, heldBlocks] }

end Sys2Proof.Machine

/-! The purge as a whole: its folds over the chapters, the streams, the takes and the titles, its notices, and what the
consequences in the store leave of an empty working area (R84, R85). -/

namespace Sys2Proof.Machine

variable {s u : State} {c : ChapterId} {D : List ChapterId} {Ps : List Port} {K : List TakeId}

/-! ### The chapters -/

/-- The record of a chapter that the purge has not come to, but for its place. -/
theorem Purged.record (h : Purged s D Ps K u) (hc : c ∉ D) : u.chapters[c].map unplaced = s.chapters[c].map unplaced := by
  rw [h.chapters c, if_neg hc]

/-- One chapter more (R84): it has no record, it is PUBLISHED, or it is freed. -/
theorem Purged.append_chapter (h : Purged s D [] [] u) (hq : QueueLaw s) (hp : PositionLaw s) (hc : c ∉ D) :
    Purged s (D ++ [c]) [] [] (purgeChapter u c) := by
  have same := h.record hc
  cases hr' : u.chapters[c] with
  | none =>
    rw [hr', Option.map_none] at same
    have unchanged : purgeChapter u c = u := by simp only [purgeChapter, hr']
    rw [unchanged]
    exact h.append_free hq hc (Option.map_eq_none_iff.mp same.symm)
  | some r' =>
    rw [hr', Option.map_some] at same
    obtain ⟨r, hr, hplace⟩ := Option.map_eq_some_iff.mp same.symm
    have state : (unplaced r).state = (unplaced r').state := congrArg Chapter.state hplace
    have state : r.state = r'.state := state
    by_cases hs : r.state = .published
    · have cleared : purgeChapter u c = clearScript c u := by simp only [purgeChapter, hr', if_pos (state ▸ hs)]
      rw [cleared]
      exact h.append_published hq hc hr hs
    · rw [purgeChapter_freed hr' (state ▸ hs)]
      exact h.append_freed hq hp hc hr hs hr'

theorem Purged.chapters_fold (hq : QueueLaw s) (hp : PositionLaw s) (cs : List ChapterId) :
    ∀ {D : List ChapterId} {u : State}, (D ++ cs).Nodup → Purged s D [] [] u →
      Purged s (D ++ cs) [] [] (cs.foldl purgeChapter u) := by
  induction cs with
  | nil => intro D u _ h; simpa using h
  | cons c cs ih =>
    intro D u nodup h
    have hc : c ∉ D := fun hd => (List.nodup_append.mp nodup).2.2 c hd c (List.mem_cons_self ..) rfl
    rw [List.append_cons] at nodup ⊢
    exact ih nodup (h.append_chapter hq hp hc)

/-- No lane holds a job once every chapter has been purged, so that clearing the lanes changes nothing. -/
theorem Purged.clearLanes (h : Purged s (List.finRange 64) Ps K u) :
    allLanes.foldl (fun s l => clearLane l s) u = u := by
  have idle (l : Lane) : clearLane l u = u := by
    have : u.lanes[l] = none := by
      rw [h.lanes l]
      cases s.lanes[l] <;> simp [Option.filter_some]
    simp only [clearLane, this]
  simp [allLanes, idle]

/-! ### The capture streams -/

/-- One capture stream more (R44). -/
theorem Purged.append_stream (h : Purged s D Ps K u) {p : Port} (hp : p ∉ Ps) :
    Purged s D (Ps ++ [p]) K (purgeStream u p) := by
  have here : u.captures[p] = s.captures[p] := by rw [h.captures p, if_neg hp]
  have level : u.levels[p] = s.levels[p] := by rw [h.levels p, if_neg (by simp [hp])]
  cases hs : s.captures[p] with
  | none =>
    have unchanged : purgeStream u p = u := by simp only [purgeStream, here, hs]
    rw [unchanged]
    have at_p (q : Port) (hq : q = p) : s.captures[q] = none := hq ▸ hs
    exact { h with
      captures := fun q => by
        rw [h.captures q]
        by_cases hq : q = p
        · simp [at_p q hq]
        · simp [hq]
      levels := fun q => by
        rw [h.levels q]
        by_cases hq : q = p
        · simp [at_p q hq]
        · simp [hq]
      releases := h.releases.of_eqs (fun _ => rfl) (fun src => by
        cases src with
        | lane l => rfl
        | stream q =>
          show (Ps.contains q && _) = ((Ps ++ [p]).contains q && _)
          by_cases hq : q = p
          · rw [at_p q hq]; simp
          · simp [hq]) rfl }
  | some st =>
    have gone : purgeStream u p = modLevel p (fun e => { e with present := false })
        (setStream p none (modStore (abandonSource (.stream p)) u)) := by
      simp only [purgeStream, here, hs]
    rw [gone]
    exact { h with
      captures := fun q => by
        by_cases hq : q = p
        · subst hq
          refine (setStream_captures_self ..).trans ?_
          simp
        · refine (setStream_captures_ne _ _ _ _ hq).trans ((h.captures q).trans ?_)
          simp [hq]
      levels := fun q => by
        by_cases hq : q = p
        · subst hq
          refine (modLevel_levels_self ..).trans ?_
          show ({ u.levels[q] with present := false } : LevelEntry) = _
          rw [level]
          simp [hs]
        · refine (modLevel_levels_ne _ _ _ _ hq).trans ((h.levels q).trans ?_)
          simp [hq]
      releases := ((h.releases.trans (releases_abandonStream p u)).andThen (u := modLevel p
          (fun e => { e with present := false }) (setStream p none (modStore (abandonSource (.stream p)) u))) rfl rfl).of_eqs
        (fun _ => Bool.or_false _) (fun src => by
          cases src with
          | lane l => simp [goneIn]
          | stream q =>
            by_cases hq : q = p
            · subst hq
              simp [goneIn, hs]
            · simp [goneIn, hq]) (by simp) }

theorem Purged.streams_fold (ps : List Port) :
    ∀ {Ps : List Port} {u : State}, (Ps ++ ps).Nodup → Purged s D Ps K u →
      Purged s D (Ps ++ ps) K (ps.foldl purgeStream u) := by
  induction ps with
  | nil => intro Ps u _ h; simpa using h
  | cons p ps ih =>
    intro Ps u nodup h
    have hp : p ∉ Ps := fun hd => (List.nodup_append.mp nodup).2.2 p hd p (List.mem_cons_self ..) rfl
    rw [List.append_cons] at nodup ⊢
    exact ih nodup (h.append_stream hp)

/-! ### The takes -/

/-- The ports that lose their source with one take more. -/
theorem Purged.lost_append_take (h : Purged s D Ps K u) {k : TakeId} (hk : k ∉ K) (q : Port) :
    (lostIn s D K q || readsTake u k q) = lostIn s D (K ++ [k]) q := by
  have source := h.source q
  have record : u.takes[k].isSome = s.takes[k].isSome := by
    have := congrArg Option.isSome (h.takes k)
    simpa [hk] using this
  rw [readsTake, record, source]
  unfold lostIn at *
  cases hs : Machine.activeSource s.ports[q] with
  | none => simp
  | some src =>
    cases src with
    | output d => simp
    | take j =>
      by_cases hj : j = k
      · subst hj
        simp [hk]
      · simp [hj]

theorem Purged.takeChain (h : Purged s D Ps K u) {k : TakeId} (hk : k ∉ K) :
    Machine.takeChain u k = Machine.takeChain s k := by
  have same := h.takes k
  rw [if_neg hk] at same
  unfold Machine.takeChain
  cases hs : s.takes[k] with
  | none =>
    rw [hs] at same
    rw [Option.map_eq_none_iff.mp same]
  | some r =>
    rw [hs] at same
    obtain ⟨r', hr', e⟩ := Option.map_eq_some_iff.mp same
    rw [hr']
    have chain : (unreferred r').chain = (unreferred r).chain := congrArg Take.chain e
    exact chain

/-- The freeing of a take as a whole; nothing but the titles' counts, the take, the ports and the store changes. -/
theorem freeTake_frame (k : TakeId) (s : State) : freeTake k s = { s with
    titles := (freeTake k s).titles, takes := (freeTake k s).takes, ports := (freeTake k s).ports
    store := (freeTake k s).store } := by
  unfold freeTake
  split
  · rw [(detaches_detach _ _).2]
    rfl
  · rfl

theorem freeTake_takes (k j : TakeId) (s : State) : (freeTake k s).takes[j] = if j = k then none else s.takes[j] := by
  cases h : s.takes[k] with
  | none =>
    have same : freeTake k s = s := by simp only [freeTake, h]
    rw [same]
    by_cases hj : j = k
    · subst hj
      rw [if_pos rfl, h]
    · rw [if_neg hj]
  | some r =>
    rw [freeTake_eq h]
    by_cases hj : j = k
    · subst hj
      rw [if_pos rfl]
      exact setTake_takes_self ..
    · rw [if_neg hj]
      refine (setTake_takes_ne _ k j none hj).trans ?_
      simp

theorem freeTake_titles_uncounted (k : TakeId) (n : TitleNo) (s : State) :
    (freeTake k s).titles[n].map uncounted = s.titles[n].map uncounted := by
  cases h : s.takes[k] with
  | none =>
    have same : freeTake k s = s := by simp only [freeTake, h]
    rw [same]
  | some r =>
    rw [freeTake_eq h, setTake_titles, detach_titles, release_titles, modTitle_titles, Option.map_map]
    refine congrArg (s.titles[n].map ·) (funext fun x => ?_)
    show uncounted (if n = r.title then _ else x) = uncounted x
    split <;> rfl

/-- One take more (R84). -/
theorem Purged.append_take (h : Purged s D Ps K u) {k : TakeId} (hk : k ∉ K) :
    Purged s D Ps (K ++ [k]) (freeTake k u) where
  chapters c := by rw [freeTake_frame]; exact h.chapters c
  titles n := (freeTake_titles_uncounted k n u).trans (h.titles n)
  takes j := by
    rw [freeTake_takes]
    by_cases hj : j = k
    · simp [hj]
    · rw [if_neg hj, h.takes j]
      simp [hj]
  captures p := by rw [freeTake_frame]; exact h.captures p
  levels p := by rw [freeTake_frame]; exact h.levels p
  lanes l := by rw [freeTake_frame]; exact h.lanes l
  queue := by rw [freeTake_frame]; exact h.queue
  profiles := by rw [freeTake_frame]; exact h.profiles
  releases := (h.releases.trans (releases_freeTake k u)).of_eqs (h.lost_append_take hk) (fun _ => Bool.or_false _) (by
    rw [h.takeChain hk]
    simp)

theorem Purged.takes_fold (ks : List TakeId) :
    ∀ {K : List TakeId} {u : State}, (K ++ ks).Nodup → Purged s D Ps K u →
      Purged s D Ps (K ++ ks) (ks.foldl (fun s k => freeTake k s) u) := by
  induction ks with
  | nil => intro K u _ h; simpa using h
  | cons k ks ih =>
    intro K u nodup h
    have hk : k ∉ K := fun hd => (List.nodup_append.mp nodup).2.2 k hd k (List.mem_cons_self ..) rfl
    rw [List.append_cons] at nodup ⊢
    exact ih nodup (h.append_take hk)

/-! ### The titles -/

/-- What a purge leaves of a title (R84). -/
def purgedTitle (o : Option Title) : Option Title := (o.map uncounted).filter fun r => r.chapters != []

theorem purgeTitles_frame (ks : List TitleNo) (s : State) : ks.foldl purgeTitle s =
    { s with titles := (ks.foldl purgeTitle s).titles } := by
  induction ks generalizing s with
  | nil => rfl
  | cons k ks ih =>
    rw [List.foldl_cons, ih]
    rfl

theorem purgedTitle_purgedTitle (o : Option Title) : purgedTitle (purgedTitle o) = purgedTitle o := by
  cases o with
  | none => rfl
  | some x => by_cases hx : x.chapters = [] <;> simp [purgedTitle, Option.filter_some, uncounted, hx]

theorem purgeTitles_titles (ks : List TitleNo) (s : State) (k : TitleNo) :
    (ks.foldl purgeTitle s).titles[k] = if k ∈ ks then purgedTitle s.titles[k] else s.titles[k] := by
  induction ks generalizing s with
  | nil => simp
  | cons j ks ih =>
    rw [List.foldl_cons, ih]
    by_cases hj : k = j
    · subst hj
      have self : (purgeTitle s k).titles[k] = purgedTitle s.titles[k] := setTitle_titles_self ..
      rw [self, purgedTitle_purgedTitle]
      simp
    · have kept : (purgeTitle s j).titles[k] = s.titles[k] := setTitle_titles_ne _ _ _ _ hj
      rw [kept]
      simp [hj]

/-! ### The records together -/

/-- What a purge has made of every record but the titles, and of the titles (R84). -/
theorem purgeRecords_purged (hq : QueueLaw s) (hp : PositionLaw s) :
    ∃ v, Purged s (List.finRange 64) allPorts (List.finRange 128) v ∧
      purgeRecords s = { v with titles := (purgeRecords s).titles } ∧
      ∀ k : TitleNo, (purgeRecords s).titles[k] = purgedTitle v.titles[k] := by
  have chapters := (purged_start s).chapters_fold hq hp (List.finRange 64) (List.nodup_finRange 64)
  have streams := chapters.streams_fold allPorts (by decide)
  have takes := streams.takes_fold (List.finRange 128) (List.nodup_finRange 128)
  refine ⟨_, takes, ?_, fun k => ?_⟩
  · unfold purgeRecords
    dsimp only
    rw [chapters.clearLanes]
    exact purgeTitles_frame _ _
  · unfold purgeRecords
    dsimp only
    rw [chapters.clearLanes, purgeTitles_titles, if_pos (List.mem_finRange k)]

end Sys2Proof.Machine

/-! The notices of a purge and what the consequences leave of an emptied working area (R84, R85). -/

namespace Sys2Proof.Machine

variable {s u v : State} {c : ChapterId}

/-! ### The notices -/

/-- Two ports that wait for the same records, and take the same. -/
def SameQueue (a b : PortState) : Prop := a.notices = b.notices ∧ a.lost = b.lost ∧ a.subs = b.subs

/-- Two ports with the same stream and transaction. -/
def SameStream (a b : PortState) : Prop := a.stream = b.stream ∧ a.xfer = b.xfer

theorem pushNotice_sameStream (n : Notice) (ps : PortState) : SameStream (pushNotice n ps) ps := by
  unfold pushNotice
  split <;> exact ⟨rfl, rfl⟩

theorem pushNotice_subs (n : Notice) (ps : PortState) : (pushNotice n ps).subs = ps.subs := by
  unfold pushNotice
  split <;> rfl

theorem SameQueue.pushNotice {a b : PortState} (h : SameQueue a b) (n : Notice) :
    SameQueue (pushNotice n a) (pushNotice n b) := by
  obtain ⟨notices, lost, subs⟩ := h
  unfold Machine.pushNotice
  rw [notices]
  split
  · exact ⟨rfl, lost, subs⟩
  · exact ⟨rfl, rfl, subs⟩

/-- A port's TAKE_STOPPED notice of a purge (R44). -/
def stopNoticed (was : State) (q : Port) (ps : PortState) : PortState :=
  match was.captures[q] with
  | none => ps
  | some st => pushNotice (notice .takeStopped st.take.val purgedCode (((was.takes[st.take]).map (·.length)).getD 0)) ps

/-- A port's CHAPTER_STATE notice of a purge where it subscribes (R85, R192). -/
def chapterNoticed (ps : PortState) (c : ChapterId) : PortState :=
  if ps.subs.getLsbD 0 then pushNotice (notice .chapterState c.val 0 16) ps else ps

theorem stopNoticed_sameStream (was : State) (q : Port) (ps : PortState) : SameStream (stopNoticed was q ps) ps := by
  unfold stopNoticed
  split
  · exact ⟨rfl, rfl⟩
  · exact pushNotice_sameStream _ ps

theorem stopNoticed_subs (was : State) (q : Port) (ps : PortState) : (stopNoticed was q ps).subs = ps.subs := by
  unfold stopNoticed
  split
  · rfl
  · exact pushNotice_subs _ ps

theorem SameQueue.stopNoticed {a b : PortState} (h : SameQueue a b) (was : State) (q : Port) :
    SameQueue (stopNoticed was q a) (stopNoticed was q b) := by
  unfold Machine.stopNoticed
  split
  · exact h
  · exact h.pushNotice _

theorem chapterNoticed_sameStream (ps : PortState) (c : ChapterId) : SameStream (chapterNoticed ps c) ps := by
  unfold chapterNoticed
  split
  · exact pushNotice_sameStream _ ps
  · exact ⟨rfl, rfl⟩

theorem chapterNoticed_subs (ps : PortState) (c : ChapterId) : (chapterNoticed ps c).subs = ps.subs := by
  unfold chapterNoticed
  split
  · exact pushNotice_subs _ ps
  · rfl

theorem SameQueue.chapterNoticed {a b : PortState} (h : SameQueue a b) (c : ChapterId) :
    SameQueue (chapterNoticed a c) (chapterNoticed b c) := by
  unfold Machine.chapterNoticed
  rw [h.2.2]
  split
  · exact h.pushNotice _
  · exact h

theorem chaptersNoticed_sameStream (cs : List ChapterId) (ps : PortState) : SameStream (cs.foldl chapterNoticed ps) ps := by
  induction cs generalizing ps with
  | nil => exact ⟨rfl, rfl⟩
  | cons c cs ih =>
    obtain ⟨stream, xfer⟩ := ih (chapterNoticed ps c)
    obtain ⟨stream', xfer'⟩ := chapterNoticed_sameStream ps c
    exact ⟨stream.trans stream', xfer.trans xfer'⟩

/-- Posts do not change who subscribes: the set may be read before the first of them. -/
theorem chaptersNoticed_of_sameQueue (cs : List ChapterId) {a b : PortState} (h : SameQueue a b) :
    SameQueue (cs.foldl chapterNoticed a) (cs.foldl (fun ps c =>
      if b.subs.getLsbD 0 then pushNotice (notice .chapterState c.val 0 16) ps else ps) b) := by
  have all (subs : BitVec 3) (cs : List ChapterId) : ∀ {a b : PortState}, b.subs = subs → SameQueue a b →
      SameQueue (cs.foldl chapterNoticed a) (cs.foldl (fun ps c =>
        if subs.getLsbD 0 then pushNotice (notice .chapterState c.val 0 16) ps else ps) b) := by
    induction cs with
    | nil => exact fun _ h => h
    | cons c cs ih =>
      intro a b hb h
      have step : (if subs.getLsbD 0 then pushNotice (notice .chapterState c.val 0 16) b else b) = chapterNoticed b c := by
        rw [chapterNoticed, hb]
      rw [List.foldl_cons, List.foldl_cons, step]
      exact ih ((chapterNoticed_subs b c).trans hb) (h.chapterNoticed c)
  exact all b.subs cs rfl h

theorem purgedTake_eq (was : State) (s : State) (p : Port) : purgedTake was s p = modPort p (stopNoticed was p) s := by
  cases h : was.captures[p] with
  | none =>
    simp only [purgedTake, h]
    exact (modPort_eq_self s (by simp only [stopNoticed, h])).symm
  | some st =>
    have post : stopNoticed was p = pushNotice (notice .takeStopped st.take.val purgedCode
        (((was.takes[st.take]).map (·.length)).getD 0)) := funext fun ps => by simp only [stopNoticed, h]
    rw [post]
    simp only [purgedTake, h]
    rfl

theorem chapterNotice_purged (c : ChapterId) (s : State) (q : Port) :
    (chapterNotice c 0 .purged s).ports[q] = chapterNoticed s.ports[q] c :=
  broadcast_ports s (notice .chapterState c.val 0 16) q

/-- The notices of a purge, port by port (R85). -/
theorem purgeNotices_ports (was s : State) (q : Port) : (purgeNotices was s).ports[q] =
    (purgedChapters was).foldl chapterNoticed (stopNoticed was q s.ports[q]) := by
  have takes : (allPorts.foldl (purgedTake was) s).ports[q] = stopNoticed was q s.ports[q] := by
    have steps : purgedTake was = fun s p => modPort p (stopNoticed was p) s := funext fun s => funext (purgedTake_eq was s)
    rw [steps]
    exact foldl_modPort_ports s (stopNoticed was) q
  have chapters (cs : List ChapterId) (s : State) :
      (cs.foldl (fun s c => chapterNotice c 0 .purged s) s).ports[q] = cs.foldl chapterNoticed s.ports[q] := by
    induction cs generalizing s with
    | nil => rfl
    | cons c cs ih => rw [List.foldl_cons, List.foldl_cons, ih, chapterNotice_purged]
  rw [purgeNotices, chapters, takes]

theorem purgeNotices_frame (was s : State) : purgeNotices was s = { s with ports := (purgeNotices was s).ports } := by
  have takes (s : State) : allPorts.foldl (purgedTake was) s =
      { s with ports := (allPorts.foldl (purgedTake was) s).ports } := by
    have steps : purgedTake was = fun s p => modPort p (stopNoticed was p) s := funext fun s => funext (purgedTake_eq was s)
    rw [steps]
    rfl
  have chapters (cs : List ChapterId) (s : State) : cs.foldl (fun s c => chapterNotice c 0 .purged s) s =
      { s with ports := (cs.foldl (fun s c => chapterNotice c 0 .purged s) s).ports } := by
    induction cs generalizing s with
    | nil => rfl
    | cons c cs ih =>
      rw [List.foldl_cons, ih]
      rfl
  rw [purgeNotices, chapters, takes]

/-! ### The consequences of a purge -/

/-- Where no entry waits and no lane works, none does after the consequences, and every chapter stays. -/
theorem settle_idle (hq : u.queue = []) (hl : ∀ l : Lane, u.lanes[l] = none) : Work (fun _ => False) u (settle u) := by
  refine settle_work ⟨fun e he => ?_, fun l j hj => ?_⟩
  · rw [hq] at he
    cases he
  · have hl : u.lanes[l.val] = none := hl l
    rw [hl] at hj
    cases hj

theorem Work.queue_idle (h : Work (fun _ => False) u v) : v.queue = [] :=
  List.eq_nil_iff_forall_not_mem.mpr fun e he => h.within.queue e he

theorem Work.lanes_idle (h : Work (fun _ => False) u v) (l : Lane) : v.lanes[l] = none :=
  Option.eq_none_iff_forall_ne_some.mpr fun j hj => h.within.lanes l j hj

end Sys2Proof.Machine

/-! PURGE clears the working area (R84, R85, R21, R44). -/

namespace Sys2Proof.Machine

variable {s u v : State} {c : ChapterId}

/-! ### All chapters, all streams, all takes -/

/-- `v` is what a purge makes of every record of `s` but for the titles it drops. -/
abbrev PurgedAll (s v : State) : Prop := Purged s (List.finRange 64) allPorts (List.finRange 128) v

theorem mem_allPorts (p : Port) : p ∈ allPorts := by fin_cases p <;> decide

theorem PurgedAll.chapter (h : PurgedAll s v) (c : ChapterId) :
    v.chapters[c].map unplaced = (s.chapters[c].filter fun r => r.state == .published).map scriptless := by
  rw [h.chapters c, if_pos (List.mem_finRange c)]

theorem PurgedAll.take (h : PurgedAll s v) (k : TakeId) : v.takes[k] = none := by
  have gone := h.takes k
  rw [if_pos (List.mem_finRange k)] at gone
  exact Option.map_eq_none_iff.mp gone

theorem PurgedAll.capture (h : PurgedAll s v) (p : Port) : v.captures[p] = none := by
  rw [h.captures p, if_pos (mem_allPorts p)]

theorem PurgedAll.level (h : PurgedAll s v) (p : Port) :
    v.levels[p] = if s.captures[p] = none then s.levels[p] else { s.levels[p] with present := false } := by
  rw [h.levels p]
  by_cases hp : s.captures[p] = none <;> simp [hp, mem_allPorts]

theorem PurgedAll.lane_idle (h : PurgedAll s v) (l : Lane) : v.lanes[l] = none := by
  rw [h.lanes l]
  cases s.lanes[l] <;> simp [Option.filter_some]

/-- A title keeps its PUBLISHED chapters, each of which has a record (R6), and is dropped when it has none (R84). -/
theorem PurgedAll.title (h : PurgedAll s v) (hp : PositionLaw s) (k : TitleNo) : purgedTitle v.titles[k] =
    (s.titles[k].map fun r => { r with takeCount := 0, chapters := r.chapters.filter (fun c =>
      s.chapters[c].any fun x => x.state == .published) }).filter fun r => r.chapters != [] := by
  unfold purgedTitle
  rw [h.titles k]
  cases hk : s.titles[k] with
  | none => rfl
  | some x =>
    have kept : (x.chapters.filter fun c => !((List.finRange 64).contains c && isFreed s c)) =
        x.chapters.filter fun c => s.chapters[c].any fun x => x.state == .published := by
      refine List.filter_congr fun c hc => ?_
      obtain ⟨r, hr, -⟩ := title_of_mem hp hk hc
      simp [isFreed, hr, bne]
    rw [Option.map_some, Option.map_some, kept]
    rfl

/-- Every source at work goes in a purge (R84). -/
theorem goneIn_of_present {src : Source} (h : SourcePresent s src) : goneIn s (List.finRange 64) allPorts src = true := by
  cases src with
  | stream p =>
    obtain ⟨st, hst⟩ := Option.ne_none_iff_exists'.mp h
    simp [goneIn, hst, mem_allPorts]
  | lane l =>
    obtain ⟨j, hj⟩ := Option.ne_none_iff_exists'.mp h
    simp [goneIn, hj]

theorem lostIn_all {freed : List ChapterId}
    (hf : freed = (List.finRange 64).filter fun c => s.chapters[c].any fun r => r.state != .published) (q : Port) :
    lostIn s (List.finRange 64) (List.finRange 128) q = match s.ports[q].stream with
      | .active a => (match a.source with
        | .take k => s.takes[k].isSome
        | .output c => freed.contains c && (s.chapters[c].bind ownedOutput).isSome)
      | _ => false := by
  have here (c : ChapterId) : freed.contains c = isFreed s c := by
    rw [hf, List.contains_eq_mem]
    simp [isFreed]
  unfold lostIn activeSource
  cases s.ports[q].stream with
  | idle => rfl
  | detached => rfl
  | active a =>
    cases ha : a.source with
    | take k => simp [ha]
    | output c =>
      simp only [ha]
      rw [here, List.contains_eq_mem, decide_eq_true (List.mem_finRange c), Bool.true_and]

/-! ### What each part of the store keeps -/

theorem PurgedAll.buffer_loaded (h : PurgedAll s v) {src : Source} (hs : SourcePresent s src) {i : Fin 2} {page : Nat}
    {bytes : List Byte} {target : Target} (hb : s.store.buffers[i] = .loaded src page bytes target) :
    v.store.buffers[i] = .free := by
  have lost := h.releases.buffers i
  rw [hb] at lost
  simpa [BufferLosing, goneIn_of_present hs] using lost

theorem PurgedAll.buffer_programming (h : PurgedAll s v) {src : Source} (hs : SourcePresent s src) {i : Fin 2} {gone : Bool}
    {page slot : Nat} {bytes : List Byte} (hb : s.store.buffers[i] = .programming src gone page slot bytes) :
    v.store.buffers[i] = .programming src true page slot bytes := by
  have lost := h.releases.buffers i
  rw [hb] at lost
  simpa [BufferLosing, goneIn_of_present hs] using lost

theorem PurgedAll.erasing (h : PurgedAll s v) {src : Source} (hs : SourcePresent s src) {b : Nat} {gone : Bool}
    (ha : s.store.array = .erasing b (.builtIn src) gone) : v.store.array = .erasing b (.builtIn src) true := by
  rw [h.releases.array, ha, arrayLosing, goneIn_of_present hs, Bool.or_true]

theorem PurgedAll.reading_lane (h : PurgedAll s v) {l : Lane} (hl : s.lanes[l] ≠ none) {gone : Bool} {slot : Nat}
    (ha : s.store.array = .reading (.lane l) gone slot) : v.store.array = .reading (.lane l) true slot := by
  have present : SourcePresent s (.lane l) := hl
  rw [h.releases.array, ha, arrayLosing, goneIn_of_present present, Bool.or_true]

/-! ### The ports -/

theorem Purged.sameQueue {D : List ChapterId} {Ps : List Port} {K : List TakeId} (h : Purged s D Ps K v) (q : Port) :
    SameQueue v.ports[q] s.ports[q] := by
  rw [h.releases.ports q]
  split <;> exact ⟨rfl, rfl, rfl⟩

theorem purgeNotices_sameStream (was s : State) (q : Port) : SameStream (purgeNotices was s).ports[q] s.ports[q] := by
  rw [purgeNotices_ports]
  obtain ⟨stream, xfer⟩ := chaptersNoticed_sameStream (purgedChapters was) (stopNoticed was q s.ports[q])
  obtain ⟨stream', xfer'⟩ := stopNoticed_sameStream was q s.ports[q]
  exact ⟨stream.trans stream', xfer.trans xfer'⟩

/-- A port's queue after the notices of a purge, from its queue before the purge (R85). -/
theorem PurgedAll.notices (h : PurgedAll s v) (q : Port) : SameQueue (purgeNotices s v).ports[q]
    ((purgedChapters s).foldl (fun ps c =>
      if s.ports[q].subs.getLsbD 0 then pushNotice (notice .chapterState c.val 0 16) ps else ps)
        (stopNoticed s q s.ports[q])) := by
  have posted := chaptersNoticed_of_sameQueue (purgedChapters s) ((h.sameQueue q).stopNoticed s q)
  rw [stopNoticed_subs] at posted
  rw [purgeNotices_ports]
  exact posted

/-! ### PURGE -/

/-- Settles O20: the purge is followed record by record to an emptied working area, in which the consequences find no
chapter to work on. -/
theorem purgeClearsTheWorkingArea : Obligations.PurgeClearsTheWorkingArea := by
  rintro s p freed blocks lost htakes hp hq hf rfl hlost
  obtain ⟨v, (h : PurgedAll s v), frame, titles⟩ := purgeRecords_purged hq hp
  generalize hu : purgeNotices s (purgeRecords s) = u
  have rest : u = { v with titles := (purgeRecords s).titles, ports := u.ports } :=
    hu ▸ (purgeNotices_frame s _).trans (congrArg (fun x : State =>
      { x with ports := (purgeNotices s (purgeRecords s)).ports }) frame)
  have ports (q : Port) : u.ports[q] = (purgeNotices s v).ports[q] := by
    rw [← hu, purgeNotices_ports, purgeNotices_ports, frame]
  have work : Work (fun _ => False) u (settle u) := by
    refine settle_idle ?_ fun l => ?_
    · rw [rest]
      exact h.queue
    · rw [rest]
      exact h.lane_idle l
  have store : u.store = v.store := by rw [rest]
  have lostAll : lostIn s (List.finRange 64) (List.finRange 128) = lost :=
    funext fun q => (lostIn_all hf q).trans (hlost q).symm
  have dirty : v.store.dirty = s.store.dirty ++ (freed.flatMap (heldBlocks s) ++ (List.finRange 128).flatMap (takeChain s)) :=
    hf ▸ h.releases.dirty
  have portOf := h.releases.ports
  have array := h.releases.array
  rw [lostAll] at portOf array
  refine ⟨purgePayload s (purgeRecords s), u, settle u, rfl, request_accepts htakes (by rw [← hu]; rfl), fun k => ?_,
    fun q => ?_, work.lanes_idle, work.queue_idle, ?_, fun q => ?_, fun c => ?_, fun k => ?_, ?_, ?_, fun q => ?_,
    fun src hs => ?_, fun l gone slot hl ha => ?_, fun q gone slot ha => ?_, fun q => ?_, ?_⟩
  · have kept : (settle u).takes[k].map takeRest = u.takes[k].map takeRest := work.takes k
    have none_left : u.takes[k] = none := by rw [rest]; exact h.take k
    rw [none_left] at kept
    exact Option.map_eq_none_iff.mp kept
  · have kept : (settle u).captures[q].map streamRest = u.captures[q].map streamRest := work.captures q
    have none_left : u.captures[q] = none := by rw [rest]; exact h.capture q
    rw [none_left] at kept
    exact Option.map_eq_none_iff.mp kept
  · rw [work.profiles, rest]
    exact h.profiles
  · rw [work.levels, rest]
    exact h.level q
  · have kept : (settle u).chapters[c] = u.chapters[c] := work.chapters c id
    rw [kept, rest]
    exact h.chapter c
  · rw [work.titles, rest]
    exact (titles k).trans (h.title hp k)
  · rw [store, dirty]
  · rw [store]
    exact h.releases.erased
  · obtain ⟨stream, xfer⟩ := purgeNotices_sameStream s v q
    rw [ports q, stream, xfer, portOf q]
    cases lost q <;> exact ⟨rfl, rfl⟩
  · rw [store]
    exact ⟨fun i page bytes target hb => h.buffer_loaded hs hb, fun i gone page slot bytes hb => h.buffer_programming hs hb,
      fun b gone ha => h.erasing hs ha⟩
  · rw [store]
    exact h.reading_lane hl ha
  · rw [store, array, ha, arrayLosing]
  · refine ⟨stopNoticed s q s.ports[q], rfl, ?_⟩
    obtain ⟨notices, lostFlag, -⟩ := h.notices q
    rw [ports q, hf]
    exact Prod.ext notices lostFlag
  · have released : (purgeRecords s).store.dirty.length - s.store.dirty.length =
        (freed.flatMap (heldBlocks s) ++ (List.finRange 128).flatMap (takeChain s)).length := by
      have same : (purgeRecords s).store = v.store := by rw [frame]
      rw [same, dirty, List.length_append, Nat.add_sub_cancel_left]
    rw [purgePayload, released, work.titles, rest, hf]
    rfl

end Sys2Proof.Machine

/-! The law of streams (R26), and the law of marks with the FIFO's bound (R32, R34). The catalogue's changes settle the
first. Marks and FIFOs are none of the catalogue's facts: a relation, `Keeps`, follows the two laws through every
operation of the model. Most operations leave the takes and the capture slots, or change of them what neither law
reads. -/

namespace Sys2Proof.Machine

variable {s t u : State}

/-- Settles O46: each single change of the catalogue keeps streams and their takes together. -/
theorem stepKeepsStreamLaw : Obligations.StepKeepsStreamLaw := by
  intro s t hstream hstep
  have path : View.Path False (view s) (view t) := path_step (fun h => h.elim) hstep
  exact streamLaw_iff.mpr (path.keep (fun _ _ h => h.streamLaw) (streamLaw_iff.mp hstream))

/-! ### The two laws together -/

/-- The law of marks, and the FIFO's bound (R32, R34). -/
structure CaptureLaw (s : State) : Prop where
  marks : MarksLaw s
  fifos : FifoLaw s

/-- What led from `s` to `t` keeps the two laws. -/
structure Keeps (s t : State) : Prop where
  law : CaptureLaw s → CaptureLaw t

theorem Keeps.refl (s : State) : Keeps s s := ⟨id⟩

theorem Keeps.trans (h : Keeps s t) (k : Keeps t u) : Keeps s u := ⟨k.law ∘ h.law⟩

/-- The laws read the takes and the capture slots alone. -/
theorem Keeps.of_eq (h : Keeps s t) (hk : u.takes = t.takes) (hc : u.captures = t.captures) : Keeps s u := by
  refine h.trans ⟨fun ⟨hm, hf⟩ => ⟨?_, ?_⟩⟩
  · rwa [MarksLaw, hk]
  · rwa [FifoLaw, hc]

/-- A fold whose every step keeps the laws. -/
theorem Keeps.foldl {α : Type} {f : State → α → State} {as : List α} (h : Keeps s t) (hf : ∀ u a, Keeps u (f u a)) :
    Keeps s (as.foldl f t) := by
  induction as generalizing t with
  | nil => exact h
  | cons a as ih => exact ih (h.trans (hf t a))

/-! ### Updates outside the takes and the slots -/

section
variable (h : Keeps s t)
include h

theorem Keeps.modPort {p f} : Keeps s (modPort p f t) := h.of_eq rfl rfl
theorem Keeps.modStore {f} : Keeps s (modStore f t) := h.of_eq rfl rfl
theorem Keeps.modLevel {p f} : Keeps s (modLevel p f t) := h.of_eq rfl rfl
theorem Keeps.modTitle {k f} : Keeps s (modTitle k f t) := h.of_eq rfl rfl
theorem Keeps.setTitle {k o} : Keeps s (setTitle k o t) := h.of_eq rfl rfl
theorem Keeps.modChapter {c f} : Keeps s (modChapter c f t) := h.of_eq rfl rfl
theorem Keeps.setChapter {c o} : Keeps s (setChapter c o t) := h.of_eq rfl rfl
theorem Keeps.setLane {l o} : Keeps s (setLane l o t) := h.of_eq rfl rfl
theorem Keeps.modJob {l f} : Keeps s (modJob l f t) := h.of_eq rfl rfl
theorem Keeps.setQueue {q} : Keeps s (setQueue q t) := h.of_eq rfl rfl
theorem Keeps.setProfile {n pr} : Keeps s (setProfile n pr t) := h.of_eq rfl rfl
theorem Keeps.notify {p n} : Keeps s (notify p n t) := h.modPort
theorem Keeps.setTransfer {p x} : Keeps s (setTransfer p x t) := h.modPort
theorem Keeps.setSent {p bytes} : Keeps s (setSent p bytes t) := h.modPort
theorem Keeps.fillSlot {p r} : Keeps s (fillSlot p r t) := h.modPort
theorem Keeps.dropStream {p st} : Keeps s (dropStream p st t) := h.modPort.modStore
theorem Keeps.release {chain} : Keeps s (release chain t) := h.modStore
theorem Keeps.appendEntry {e} : Keeps s (appendEntry e t) := h.setQueue
theorem Keeps.writeResult {c g} : Keeps s (writeResult c g t) := h.modChapter

theorem Keeps.broadcast {n} : Keeps s (broadcast n t) := h.of_eq (broadcast_takes t n) (broadcast_captures t n)
theorem Keeps.chapterNotice {c code cause} : Keeps s (chapterNotice c code cause t) := h.broadcast
theorem Keeps.enterState {c st cause} : Keeps s (enterState c st cause t) := h.modChapter.chapterNotice
theorem Keeps.attend {b} : Keeps s (attend b t) := h.of_eq (attend_takes b t) (attend_captures b t)
theorem Keeps.detach {src} : Keeps s (detach src t) := h.of_eq (detach_takes src t) (detach_captures src t)
theorem Keeps.abortJobOf {c} : Keeps s (abortJobOf c t) := h.of_eq abortJobOf_takes abortJobOf_captures
theorem Keeps.releaseOutput {c} : Keeps s (releaseOutput c t) := h.of_eq releaseOutput_takes releaseOutput_captures
theorem Keeps.freeChapter {c} : Keeps s (freeChapter c t) := h.of_eq freeChapter_takes freeChapter_captures
theorem Keeps.offRenderPath {c} : Keeps s (offRenderPath c t) := h.setQueue.abortJobOf
theorem Keeps.letGo {c} : Keeps s (letGo c t) := letGo_eq c t ▸ h.offRenderPath.releaseOutput

theorem Keeps.clearLane {l} : Keeps s (clearLane l t) := by
  rw [clearLane_eq]
  exact h.of_eq rfl rfl

theorem Keeps.reorder {k cs} : Keeps s (reorder k cs t) := by
  rw [Machine.reorder, renumberFrom_frame]
  exact h.of_eq rfl rfl

theorem Keeps.releaseClaims {p} : Keeps s (releaseClaims p t) := by
  rw [releaseClaims_frame]
  exact h.of_eq rfl rfl

theorem Keeps.beginJob {l c origin} : Keeps s (beginJob l c origin t) := by
  unfold Machine.beginJob
  split
  · exact h
  · dsimp only
    split
    · exact h.setLane.writeResult.enterState
    · exact h.setLane

end

/-! ### Updates of takes and slots -/

theorem Keeps.setTake {k : TakeId} {o : Option Take} (h : Keeps s t) (ho : ∀ r, o = some r → CaptureLaw t → MarkLaw r) :
    Keeps s (setTake k o t) := by
  refine h.trans ⟨fun law => ⟨fun j r hj => ?_, law.fifos⟩⟩
  by_cases hjk : j = k
  · subst hjk
    exact ho r ((setTake_takes_self t j o).symm.trans hj) law
  · exact law.marks j r ((setTake_takes_ne t k j o hjk).symm.trans hj)

theorem Keeps.modTake {k : TakeId} {f : Take → Take} (h : Keeps s t) (hf : ∀ r, MarkLaw r → MarkLaw (f r)) :
    Keeps s (modTake k f t) := by
  refine h.setTake fun r' hr' law => ?_
  obtain ⟨r, hr, rfl⟩ := Option.map_eq_some_iff.mp hr'
  exact hf r (law.marks k r hr)

theorem Keeps.setStream {p : Port} {o : Option Stream} (h : Keeps s t)
    (ho : ∀ st, o = some st → CaptureLaw t → st.fifo.length ≤ Config.fifoPlaces) : Keeps s (setStream p o t) := by
  refine h.trans ⟨fun law => ⟨law.marks, fun q st hq => ?_⟩⟩
  by_cases hqp : q = p
  · subst hqp
    exact ho st ((setStream_captures_self t q o).symm.trans hq) law
  · exact law.fifos q st ((setStream_captures_ne t p q o hqp).symm.trans hq)

/-- A change of a stream that makes its FIFO no longer. -/
theorem Keeps.modStream {p : Port} {f : Stream → Stream} (h : Keeps s t)
    (hf : ∀ st, (f st).fifo.length ≤ st.fifo.length) : Keeps s (modStream p f t) := by
  refine h.setStream fun st' hst' law => ?_
  obtain ⟨st, hst, rfl⟩ := Option.map_eq_some_iff.mp hst'
  exact (hf st).trans (law.fifos p st hst)

/-- References are nothing to the laws. -/
theorem Keeps.takeReferences {ts : List TakeId} (h : Keeps s t) : Keeps s (takeReferences ts t) := by
  unfold Machine.takeReferences
  exact h.foldl fun u k => (Keeps.refl u).modTake (f := fun r => { r with refs := r.refs + 1 }) fun _ h => h

theorem Keeps.releaseReferences {c : ChapterId} (h : Keeps s t) : Keeps s (releaseReferences c t) := by
  unfold Machine.releaseReferences dropReferences
  split
  · split
    · exact h
    · exact h.foldl fun u k => (Keeps.refl u).modTake (f := fun r => { r with refs := r.refs - 1 }) fun _ h => h
  · exact h

theorem Keeps.freeTake {k : TakeId} (h : Keeps s t) : Keeps s (freeTake k t) := by
  unfold Machine.freeTake
  split
  · exact h.modTitle.release.detach.setTake nofun
  · exact h

/-! ### What follows from an event -/

theorem Consequence.keeps (k : Consequence t u) : Keeps t u := by
  have h := Keeps.refl t
  cases k with
  | store f => exact h.modStore
  | fetch p f hf => exact h.modPort
  | chain k b => exact h.modTake fun _ h => h
  | fifo p n => exact h.modStream fun st => by simp
  | job l f hf => exact h.modJob
  | post n => exact h.broadcast
  | start l e rest => exact h.setQueue.enterState.beginJob
  | abort l j => exact h.clearLane.enterState
  | reject l j g cause => exact h.clearLane.writeResult.enterState

theorem Keeps.consequences (h : Keeps s t) (k : Consequences t u) : Keeps s u :=
  h.trans ⟨k.keep fun _ _ k => k.keeps.law⟩

theorem Keeps.settle (h : Keeps s t) : Keeps s (settle t) := h.consequences (consequences_settle t)

theorem Keeps.lanesTake (h : Keeps s t) : Keeps s (lanesTake t) := h.consequences (consequences_lanesTake t)

theorem Keeps.commit {b : State} (h : Keeps s t) : Keeps s (commit b t) := h.settle.attend

/-! ### Marks and FIFOs in the capture unit -/

/-- A mark at the take's present length keeps the law of marks (R34). -/
theorem MarkLaw.appendMark {r : Take} {m : Mark} (h : MarkLaw r) (hm : m.index = r.length) :
    MarkLaw (appendMark m r) := by
  obtain ⟨hlen, hsort, hle⟩ := h
  unfold Machine.appendMark
  split
  · rename_i hroom
    refine ⟨by simpa using hroom, ?_, ?_⟩
    · simpa [List.pairwise_append, hsort, hm] using hle
    · simpa [or_imp, forall_and, hm] using hle
  · exact ⟨hlen, hsort, hle⟩

/-- A take one sample longer keeps its marks in order. -/
theorem MarkLaw.longer {r : Take} (h : MarkLaw r) (peak : Int) :
    MarkLaw { r with length := r.length + 1, peak := peak } :=
  ⟨h.1, h.2.1, fun m hm => (h.2.2 m hm).trans (Nat.le_succ _)⟩

theorem Keeps.setGate {p : Port} {g : Gate} (h : Keeps s t) : Keeps s (setGate p g t) := by
  have set := (h.modStream (p := p) (f := fun st => { st with gate := g }) fun _ => le_rfl).modLevel (p := p)
    (f := fun e => { e with gate := g })
  unfold Machine.setGate
  split
  · exact h
  · dsimp only
    split
    · exact set
    · exact set.modTake fun _ h => h.appendMark rfl

theorem Keeps.endRun {p : Port} {detail : Nat} (h : Keeps s t) : Keeps s (endRun p detail t) := by
  unfold Machine.endRun
  split
  · exact h
  · split
    · exact h
    · refine Keeps.notify (Keeps.modTake ?_ fun _ h => h.appendMark rfl)
      exact h.modStream fun _ => le_rfl

theorem Keeps.dropSample {p : Port} (h : Keeps s t) : Keeps s (dropSample p t) := by
  unfold Machine.dropSample
  split
  · exact h
  · refine Keeps.modTake ?_ fun _ h => h
    exact h.modStream fun _ => le_rfl

theorem Keeps.advancePosition {p : Port} (h : Keeps s t) : Keeps s (advancePosition p t) := by
  unfold Machine.advancePosition
  split
  · exact h
  · refine Keeps.modLevel ?_
    exact h.modStream fun _ => le_rfl

theorem Keeps.liveBlockDue {p : Port} (h : Keeps s t) : Keeps s (liveBlockDue p t) := by
  unfold Machine.liveBlockDue
  split
  · exact h
  · split
    · exact h
    · dsimp only
      split
      · refine Keeps.modLevel ?_
        exact h.modStream fun _ => le_rfl
      · exact h

/-! ### What a sample does -/

theorem modStream_of_none {p : Port} (h : s.captures[p] = none) (f : Stream → Stream) : modStream p f s = s := by
  have h : s.captures[p.val] = none := h
  have same : s.captures.set p.val none p.isLt = s.captures := by rw [← h, Vector.set_getElem_self]
  rw [modStream, Fin.getElem_fin, h, Option.map_none, same]

theorem setStream_eq_self {p : Port} {st : Stream} (h : s.captures[p] = some st) : setStream p (some st) s = s := by
  have h : s.captures[p.val] = some st := h
  have same : s.captures.set p.val (some st) p.isLt = s.captures := by rw [← h, Vector.set_getElem_self]
  rw [setStream, same]

/-- A gate write changes the gate of the stream, and nothing else of the slots. -/
theorem setGate_captures (p : Port) (g : Gate) (s : State) :
    (setGate p g s).captures = (modStream p (fun st => { st with gate := g }) s).captures := by
  unfold setGate
  split
  · rename_i h
    rw [modStream_of_none h]
  · dsimp only
    split <;> rfl

/-- The end of a dropout run changes the run of the stream, and nothing else of the slots. -/
theorem endRun_captures (p : Port) (detail : Nat) (s : State) :
    (endRun p detail s).captures = (modStream p (fun st => { st with run := none }) s).captures := by
  unfold endRun
  split
  · rename_i h
    rw [modStream_of_none h]
  · rename_i st h
    split
    · rename_i hrun
      rw [modStream_of_some h, ← hrun]
      exact congrArg State.captures (setStream_eq_self h).symm
    · rfl

/-- The FIFO of a port's slot. -/
def slotFifo (s : State) (p : Port) : Option (List Sample) := s.captures[p].map (·.fifo)

theorem slotFifo_of_some {p : Port} {st : Stream} (h : s.captures[p] = some st) : slotFifo s p = some st.fifo := by
  rw [slotFifo, h, Option.map_some]

theorem slotFifo_of_modStream {p : Port} {f : Stream → Stream} (h : t.captures = (modStream p f s).captures)
    (hf : ∀ st, (f st).fifo = st.fifo) : slotFifo t p = slotFifo s p := by
  have slot := modStream_captures_self s p f
  rw [← h] at slot
  refine (congrArg (Option.map (·.fifo)) slot).trans ?_
  rw [Option.map_map]
  exact congrArg (fun g => s.captures[p].map g) (funext hf)

theorem slotFifo_modStream {p : Port} {f : Stream → Stream} (hf : ∀ st, (f st).fifo = st.fifo) :
    slotFifo (modStream p f s) p = slotFifo s p := slotFifo_of_modStream rfl hf

/-- A sample is kept where the FIFO has room (R32). -/
theorem Keeps.keepSample {p : Port} {x : Sample} (h : Keeps s t)
    (hroom : ∀ fifo, slotFifo t p = some fifo → fifo.length < Config.fifoPlaces) : Keeps s (keepSample p x t) := by
  rw [← slotFifo_of_modStream (endRun_captures p 0 t) fun _ => rfl] at hroom
  have ended := h.endRun (p := p) (detail := 0)
  unfold Machine.keepSample
  dsimp only
  split
  · exact ended
  · rename_i st hst
    refine Keeps.modLevel (Keeps.modTake ?_ fun _ h => h.longer _)
    rw [modStream_of_some hst]
    refine ended.setStream ?_
    rintro _ ⟨⟩ -
    simpa [liveFeed] using hroom st.fifo (slotFifo_of_some hst)

theorem Keeps.passSample {p : Port} {x : Sample} (h : Keeps s t) : Keeps s (passSample p x t) := by
  unfold Machine.passSample
  split
  · exact h
  · rename_i st hst
    dsimp only
    have punched := h.modStream (p := p)
      (f := fun st' => { st' with a := (compared st).2.1, b := (compared st).2.2 }) fun _ => le_rfl
    have gated := punched.setGate (p := p) (g := (compared st).1)
    refine Keeps.advancePosition ?_
    split
    · exact gated
    · split
      · rename_i hroom
        refine gated.keepSample fun fifo hf => ?_
        have same := slotFifo_modStream (s := t) (p := p)
          (f := fun st' => { st' with a := (compared st).2.1, b := (compared st).2.2 }) fun _ => rfl
        rw [slotFifo_of_modStream (setGate_captures p _ _) fun _ => rfl, same, slotFifo_of_some hst] at hf
        exact Option.some.inj hf ▸ hroom
      · exact gated.dropSample

/-! ### Stops -/

theorem Keeps.takeClosedDue {p : Port} (h : Keeps s t) : Keeps s (takeClosedDue p t) := by
  unfold Machine.takeClosedDue
  split
  · exact h
  · split
    · refine Keeps.notify (Keeps.modLevel (Keeps.setStream (o := none) ?_ nofun))
      exact h.modTake fun _ h => h
    · exact h

theorem Keeps.stopStream {p : Port} {reason : StopReason} (h : Keeps s t) : Keeps s (stopStream p reason t) := by
  unfold Machine.stopStream
  split
  · exact h
  · have shut := (h.modStream (p := p) (f := fun st => { st with gate := .shut }) fun _ => le_rfl).modLevel (p := p)
      (f := fun e => { e with gate := .shut })
    have ended := shut.endRun (p := p) (detail := 1)
    refine Keeps.takeClosedDue (Keeps.modStream ?_ fun _ => le_rfl)
    exact ended.modTake fun _ h => h

theorem Keeps.limitStop {p : Port} {reason : StopReason} (h : Keeps s t) : Keeps s (limitStop p reason t) := by
  unfold Machine.limitStop
  split
  · exact h
  · exact h.stopStream.notify

theorem Keeps.takeFullDue {p : Port} (h : Keeps s t) : Keeps s (takeFullDue p t) := by
  unfold Machine.takeFullDue
  split
  · exact h
  · split
    · exact h.limitStop
    · exact h

theorem Keeps.positionLimitDue {p : Port} (h : Keeps s t) : Keeps s (positionLimitDue p t) := by
  unfold Machine.positionLimitDue
  split
  · exact h
  · split
    · exact h.limitStop
    · exact h

theorem Keeps.sampleArrives {p : Port} {x : Sample} (h : Keeps s t) : Keeps s (sampleArrives p x t) := by
  unfold Machine.sampleArrives
  split
  · exact h
  · split
    · exact h
    · exact h.passSample.liveBlockDue.takeFullDue.positionLimitDue

end Sys2Proof.Machine

/-! Every request, transaction and event keeps the law of marks and the FIFO's bound. -/

namespace Sys2Proof.Machine

variable {s t u : State}

/-! ### The requests on titles, chapters and scripts -/

theorem keeps_defineTitle (params : List Byte) (s : State) : Keeps s (defineTitle params s).state := by
  unfold defineTitle
  split
  · split
    · exact .refl s
    · split
      · exact .refl s
      · exact (Keeps.refl s).setTitle
  · exact .refl s

theorem keeps_dropTitle (params : List Byte) (s : State) : Keeps s (dropTitle params s).state := by
  unfold dropTitle
  split
  · exact .refl s
  · split
    · exact .refl s
    · split
      · exact .refl s
      · split
        · exact .refl s
        · exact (Keeps.refl s).setTitle

theorem keeps_setTitleProfile (params : List Byte) (s : State) : Keeps s (setTitleProfile params s).state := by
  unfold setTitleProfile
  split
  · split
    · exact .refl s
    · split
      · exact .refl s
      · exact (Keeps.refl s).setTitle
  · exact .refl s

theorem keeps_createChapter (p : Port) (params : List Byte) (s : State) :
    Keeps s (createChapter p params s).state := by
  unfold createChapter
  split
  · exact .refl s
  · split
    · exact .refl s
    · split
      · exact .refl s
      · split
        · exact .refl s
        · split
          · exact .refl s
          · exact (Keeps.refl s).setChapter.reorder.chapterNotice

theorem keeps_moveChapter (params : List Byte) (s : State) : Keeps s (moveChapter params s).state := by
  unfold moveChapter
  split
  · exact .refl s
  · split
    · exact .refl s
    · split
      · exact .refl s
      · exact (Keeps.refl s).reorder

theorem Keeps.reopen {p : Port} {c : ChapterId} (h : Keeps s t) : Keeps s (reopen p c t) :=
  h.letGo.releaseReferences.modChapter.enterState.lanesTake.settle

theorem Keeps.discardRecord {c : ChapterId} (h : Keeps s t) : Keeps s (discardRecord c t) :=
  h.letGo.releaseReferences.freeChapter.chapterNotice.lanesTake.settle

theorem keeps_openChapter (p : Port) (params : List Byte) (s : State) : Keeps s (openChapter p params s).state := by
  unfold openChapter
  split
  · exact .refl s
  · split
    · exact .refl s
    · split
      · exact .refl s
      · split
        · split
          · exact (Keeps.refl s).modChapter
          · exact .refl s
        · exact .refl s
        · exact (Keeps.refl s).reopen

theorem keeps_closeValid (p : Port) (c : ChapterId) (r : Chapter) (total : Nat) (s : State) :
    Keeps s (closeValid p c r total s) := by
  unfold closeValid
  dsimp only
  have referred := (Keeps.refl s).modChapter (c := c)
    (f := fun r => { r with assembled := some total, editor := none })
    |>.takeReferences (ts := namedTakes r.slots)
  split
  · split
    · exact referred.appendEntry.enterState.lanesTake.settle
    · exact referred.enterState.settle
  · exact referred.enterState.settle

theorem keeps_closeChapter (p : Port) (params : List Byte) (s : State) :
    Keeps s (closeChapter p params s).state := by
  unfold closeChapter
  split
  · exact .refl s
  · split
    · exact .refl s
    · split
      · exact .refl s
      · split
        · exact .refl s
        · split
          · exact .refl s
          · split
            · exact .refl s
            · exact keeps_closeValid ..

theorem keeps_discardChapter (p : Port) (params : List Byte) (s : State) :
    Keeps s (discardChapter p params s).state := by
  unfold discardChapter
  split
  · exact .refl s
  · split
    · exact .refl s
    · split
      · exact .refl s
      · split
        · exact .refl s
        · split
          · exact .refl s
          · exact (Keeps.refl s).discardRecord

theorem keeps_pointScript (p : Port) (params : List Byte) (s : State) : Keeps s (pointScript p params s).state := by
  unfold pointScript
  split
  · exact .refl s
  · split
    · exact .refl s
    · split
      · exact .refl s
      · exact (Keeps.refl s).modChapter

theorem keeps_writeScript (p : Port) (params : List Byte) (s : State) : Keeps s (writeScript p params s).state := by
  unfold writeScript
  split
  · split
    · exact .refl s
    · split
      · exact .refl s
      · split
        · exact .refl s
        · exact (Keeps.refl s).modChapter
  · exact .refl s

theorem keeps_readScript (p : Port) (params : List Byte) (s : State) : Keeps s (readScript p params s).state := by
  unfold readScript
  split
  · exact .refl s
  · split
    · exact .refl s
    · split
      · exact .refl s
      · split
        · exact (Keeps.refl s).modChapter
        · exact .refl s

/-! ### The capture unit -/

theorem Keeps.openTake {p : Port} {title : TitleNo} {k : TakeId} {g : Gate} {a b inc : Word32} (h : Keeps s t) :
    Keeps s (openTake p title k g a b inc t) := by
  refine Keeps.modLevel (Keeps.setStream (Keeps.setTake h.modTitle ?_) ?_)
  · rintro _ ⟨⟩ -
    simp [MarkLaw, freshTake]
  · rintro _ ⟨⟩ -
    exact Nat.zero_le _

theorem Keeps.setPunch {p : Port} {a b inc : Word32} {write : Nat} (h : Keeps s t) :
    Keeps s (setPunch p a b inc write t) := by
  have replaced := h.modStream (p := p) (f := fun st => { st with a := a, b := b, inc := inc }) fun _ => le_rfl
  unfold Machine.setPunch
  dsimp only
  split
  · exact replaced
  · exact replaced.setGate

theorem keeps_startTake (p : Port) (params : List Byte) (s : State) : Keeps s (startTake p params s).state := by
  unfold startTake
  split
  · exact .refl s
  · split
    · exact .refl s
    · split
      · exact .refl s
      · split
        · exact .refl s
        · split
          · exact .refl s
          · exact (Keeps.refl s).openTake

theorem keeps_setGateValues (p : Port) (params : List Byte) (s : State) :
    Keeps s (setGateValues p params s).state := by
  unfold setGateValues
  dsimp only
  split
  · exact .refl s
  · split
    · exact .refl s
    · exact (Keeps.refl s).setPunch

theorem keeps_stopTake (p : Port) (params : List Byte) (s : State) : Keeps s (stopTake p params s).state := by
  unfold stopTake
  split
  · exact .refl s
  · split
    · exact .refl s
    · exact (Keeps.refl s).stopStream.settle

theorem keeps_retireTake (params : List Byte) (s : State) : Keeps s (retireTake params s).state := by
  unfold retireTake
  split
  · exact .refl s
  · split
    · exact .refl s
    · split
      · exact .refl s
      · split
        · exact .refl s
        · split
          · exact .refl s
          · exact (Keeps.refl s).freeTake.settle

/-! ### The render unit -/

theorem Keeps.queueChapter {c : ChapterId} {p : Port} {kind : OriginKind} (h : Keeps s t) :
    Keeps s (queueChapter c p kind t) := h.releaseOutput.modChapter.appendEntry.enterState

theorem keeps_renderChapter (p : Port) (params : List Byte) (s : State) :
    Keeps s (renderChapter p params s).state := by
  unfold renderChapter
  split
  · exact .refl s
  · split
    · exact .refl s
    · split
      · exact .refl s
      · split
        · exact .refl s
        · exact .refl s
        · exact .refl s
        · split
          · exact .refl s
          · exact (Keeps.refl s).clearLane.beginJob.lanesTake.settle
        · split
          · exact .refl s
          · exact (Keeps.refl s).queueChapter.lanesTake.settle

theorem keeps_renderSet (p : Port) (params : List Byte) (s : State) : Keeps s (renderSet p params s).state := by
  unfold renderSet
  split
  · exact .refl s
  · split
    · exact .refl s
    · split
      · exact .refl s
      · split
        · exact .refl s
        · exact (Keeps.foldl (Keeps.refl s) fun u _ => (Keeps.refl u).queueChapter.lanesTake).settle

theorem keeps_cancelRender (params : List Byte) (s : State) : Keeps s (cancelRender params s).state := by
  unfold cancelRender
  split
  · exact .refl s
  · split
    · exact .refl s
    · split
      · exact .refl s
      · split
        · exact (Keeps.refl s).offRenderPath.enterState.lanesTake.settle
        · exact .refl s

theorem keeps_publish (params : List Byte) (s : State) : Keeps s (publish params s).state := by
  unfold publish
  split
  · exact .refl s
  · split
    · exact .refl s
    · split
      · exact .refl s
      · split
        · exact (Keeps.refl s).enterState
        · exact .refl s

theorem Keeps.collected {c : ChapterId} {r : Chapter} (h : Keeps s t) : Keeps s (collected c r t) := by
  unfold Machine.collected
  dsimp only
  split
  · exact h.releaseOutput.freeChapter.chapterNotice.settle
  · exact h.releaseOutput.modChapter.enterState.settle

theorem keeps_collect (params : List Byte) (s : State) : Keeps s (collect params s).state := by
  unfold collect
  split
  · exact .refl s
  · split
    · exact .refl s
    · split
      · exact .refl s
      · split
        · exact (Keeps.refl s).collected
        · exact .refl s

/-! ### The port's requests, and those that report -/

theorem keeps_openReply (p : Port) (src : StreamSource) (length offset : Nat) (title : TitleNo) (s : State) :
    Keeps s (openReply p src length offset title s).state :=
  (Keeps.refl s).dropStream.settle

theorem keeps_streamOpen (p : Port) (params : List Byte) (s : State) : Keeps s (streamOpen p params s).state := by
  unfold streamOpen
  split
  · exact .refl s
  · split
    · split
      · exact .refl s
      · unfold openOutput
        split
        · exact .refl s
        · split
          · exact .refl s
          · exact keeps_openReply ..
    · split
      · exact .refl s
      · unfold openTakeStream
        split
        · exact .refl s
        · split
          · exact keeps_openReply ..
          · exact .refl s
    · exact .refl s

theorem keeps_streamClose (p : Port) (params : List Byte) (s : State) : Keeps s (streamClose p params s).state := by
  unfold streamClose
  split
  · exact .refl s
  · exact (Keeps.refl s).dropStream

theorem keeps_subscribe (p : Port) (params : List Byte) (s : State) : Keeps s (subscribe p params s).state := by
  unfold subscribe
  dsimp only
  split
  · exact .refl s
  · dsimp only [accept]
    exact (Keeps.refl s).modPort

theorem keeps_deviceInfo (p : Port) (params : List Byte) (s : State) : Keeps s (deviceInfo p params s).state := by
  unfold deviceInfo
  split <;> exact .refl s

theorem keeps_writeProfile (params : List Byte) (s : State) : Keeps s (writeProfile params s).state := by
  unfold writeProfile
  split
  · exact .refl s
  · split
    · exact .refl s
    · exact (Keeps.refl s).setProfile

theorem keeps_readProfile (params : List Byte) (s : State) : Keeps s (readProfile params s).state := by
  unfold readProfile
  split
  · exact .refl s
  · split <;> exact .refl s

theorem keeps_reportTitle (params : List Byte) (s : State) : Keeps s (reportTitle params s).state := by
  unfold reportTitle
  split
  · exact .refl s
  · split
    · exact .refl s
    · split <;> exact .refl s

theorem keeps_reportChapter (params : List Byte) (s : State) : Keeps s (reportChapter params s).state := by
  unfold reportChapter
  split
  · exact .refl s
  · split
    · exact .refl s
    · split <;> exact .refl s

theorem keeps_reportTake (params : List Byte) (s : State) : Keeps s (reportTake params s).state := by
  unfold reportTake
  split
  · exact .refl s
  · dsimp only
    split
    · exact .refl s
    · split
      · exact .refl s
      · split <;> exact .refl s

theorem keeps_reportLevels (params : List Byte) (s : State) : Keeps s (reportLevels params s).state := by
  unfold reportLevels
  split <;> exact .refl s

theorem keeps_reportStore (params : List Byte) (s : State) : Keeps s (reportStore params s).state := by
  unfold reportStore
  split <;> exact .refl s

theorem keeps_reportQueue (params : List Byte) (s : State) : Keeps s (reportQueue params s).state := by
  unfold reportQueue
  split <;> exact .refl s

/-! ### The purge -/

theorem Keeps.purgeChapter {c : ChapterId} (h : Keeps s t) : Keeps s (purgeChapter t c) := by
  unfold Machine.purgeChapter
  split
  · exact h
  · split
    · exact h.releaseReferences.modChapter
    · exact h.abortJobOf.releaseOutput.releaseReferences.freeChapter

theorem Keeps.purgeStream {p : Port} (h : Keeps s t) : Keeps s (purgeStream t p) := by
  unfold Machine.purgeStream
  split
  · exact h
  · exact (h.modStore.setStream (o := none) nofun).modLevel

theorem Keeps.purgeRecords (h : Keeps s t) : Keeps s (purgeRecords t) := by
  unfold Machine.purgeRecords
  refine Keeps.foldl (Keeps.foldl (Keeps.foldl (Keeps.foldl (Keeps.foldl h.setQueue ?_) ?_) ?_) ?_) ?_
  · exact fun u c => (Keeps.refl u).purgeChapter
  · exact fun u l => (Keeps.refl u).clearLane
  · exact fun u p => (Keeps.refl u).purgeStream
  · exact fun u k => (Keeps.refl u).freeTake
  · exact fun u k => (Keeps.refl u).setTitle

theorem Keeps.purgeNotices {was : State} (h : Keeps s t) : Keeps s (purgeNotices was t) := by
  rw [purgeNotices_frame]
  exact h.of_eq rfl rfl

theorem keeps_purge (params : List Byte) (s : State) : Keeps s (purge params s).state := by
  unfold purge
  split
  · exact .refl s
  · exact (Keeps.refl s).purgeRecords.purgeNotices.settle

/-! ### Transactions -/

theorem Keeps.receive {p : Port} {bytes : List Byte} (h : Keeps s t) : Keeps s (receive p bytes t) := by
  unfold Machine.receive
  split
  · dsimp only
    split
    · exact h.notify
    · split
      · exact h.fillSlot
      · split
        · exact h.fillSlot
        · exact h.modPort
  · exact h.notify

theorem Keeps.endTransaction {p : Port} (h : Keeps s t) : Keeps s (endTransaction p t) := by
  unfold Machine.endTransaction
  split
  · exact h.receive.setTransfer
  · exact h.notify.setTransfer
  · exact h.setTransfer

theorem Keeps.ended {p : Port} (h : Keeps s t) : Keeps s (ended p t) := h.endTransaction.attend

theorem Keeps.opened {p : Port} {kept : State → Transfer} (h : Keeps s t) : Keeps s (opened p kept t) :=
  h.ended.setSent.setTransfer

theorem Keeps.endRequest {p : Port} {bytes : List Byte} (h : Keeps s t) : Keeps s (endRequest p bytes t) :=
  h.setSent.receive.setTransfer

theorem Keeps.wholeRequest {p : Port} {bytes : List Byte} (h : Keeps s t) : Keeps s (wholeRequest p bytes t) :=
  h.opened.endRequest.attend

theorem Keeps.answer {p : Port} {k : ReqKind} {discard : Bool} {r : Reply} (h : Keeps s r.state) :
    Keeps s (answer p k discard r) := by
  unfold Machine.answer
  split
  · exact h.modPort
  · exact h.fillSlot

/-- A command's answer, where it is a next state, keeps the two laws. -/
def AnswerKeeps (s : State) (a : Answer) : Prop := ∀ t, a = .next t → Keeps s t

theorem answerKeeps_next (h : Keeps s t) : AnswerKeeps s (.next t) := by
  rintro _ ⟨⟩
  exact h

theorem answerKeeps_commit {b : State} (h : Keeps s t) : AnswerKeeps s (.next (commit b t)) :=
  answerKeeps_next h.commit

/-- A request row is the work of its block, on this state or after a transaction (R185). -/
theorem answerKeeps_request {p : Port} {k : ReqKind} {params : List Byte} {act : State → Reply}
    (h : ∀ u, Keeps u (act u).state) : AnswerKeeps s (request p k params act s) := by
  have whole := (Keeps.refl s).wholeRequest (p := p) (bytes := requestBytes k params)
  unfold request
  split
  · split
    · exact answerKeeps_next (h s).answer.attend
    · exact answerKeeps_next whole
  · dsimp only
    split
    · exact answerKeeps_next (whole.trans (h _)).answer.attend
    · exact answerKeeps_next whole

theorem answerKeeps_transact {p : Port} {sent : State → List Byte} {act : State → State} (h : ∀ u, Keeps u (act u)) :
    AnswerKeeps s (transact p sent act s) :=
  answerKeeps_next ((Keeps.refl s).ended.setSent.trans (h _)).attend

theorem answerKeeps_later {α : Type} {p : Port} {kind : Byte} {kept : Transfer → Option α} {opening : State → State}
    {act : α → State → State} (ho : Keeps s (opening s)) (h : ∀ a u, Keeps u (act a u)) :
    AnswerKeeps s (later p kind kept opening act s) := by
  unfold later
  split
  · exact answerKeeps_next (Keeps.refl s).setTransfer
  · split
    · exact answerKeeps_next (h _ s).attend
    · dsimp only
      split
      · exact answerKeeps_next (ho.trans (h _ _)).attend
      · exact answerKeeps_next ho

theorem answerKeeps_execRequest (p : Port) (m : Moment (List Byte)) (s : State) : AnswerKeeps s (execRequest p m s) := by
  cases m with
  | opens => exact answerKeeps_next (Keeps.refl s).opened
  | acts bytes => exact answerKeeps_later (Keeps.refl s).opened fun _ u => (Keeps.refl u).endRequest

theorem answerKeeps_execFetch (p : Port) (m : Moment Nat) (s : State) : AnswerKeeps s (execFetch p m s) := by
  cases m with
  | opens => exact answerKeeps_next (Keeps.refl s).opened
  | acts n => exact answerKeeps_later (Keeps.refl s).opened fun _ u => (Keeps.refl u).modPort

theorem answerKeeps_execCapture (p : Port) (m : Moment Byte) (s : State) : AnswerKeeps s (execCapture p m s) := by
  cases m with
  | opens => exact answerKeeps_next (Keeps.refl s).opened
  | acts count => exact answerKeeps_later (Keeps.refl s).opened fun _ u => (Keeps.refl u).modPort.setTransfer

theorem answerKeeps_attention (p : Port) (n : Nat) (effect : PortState → PortState) (s : State) :
    AnswerKeeps s (attention p n effect s) :=
  answerKeeps_later (Keeps.refl s).opened fun _ u => (Keeps.refl u).modPort

theorem answerKeeps_execAttentionRead (p : Port) (m : Moment Nat) (s : State) :
    AnswerKeeps s (execAttentionRead p m s) := by
  cases m with
  | opens => exact answerKeeps_next (Keeps.refl s).opened
  | acts n => exact answerKeeps_attention p n _ s

theorem answerKeeps_execNotices (p : Port) (s : State) : AnswerKeeps s (execNotices p s) := by
  unfold execNotices
  exact answerKeeps_transact fun u => (Keeps.refl u).setTransfer

theorem answerKeeps_execStreamData (p : Port) (s : State) : AnswerKeeps s (execStreamData p s) := by
  unfold execStreamData
  exact answerKeeps_transact fun u => (Keeps.refl u).setTransfer

theorem answerKeeps_execNoticeRecordSent (p : Port) (s : State) : AnswerKeeps s (execNoticeRecordSent p s) := by
  unfold execNoticeRecordSent
  split
  · exact answerKeeps_next (Keeps.refl s).modPort.attend
  · exact answerKeeps_next (.refl s)

theorem answerKeeps_execCaptureSample (p : Port) (x : Byte × Byte × Byte) (s : State) :
    AnswerKeeps s (execCaptureSample p x s) := by
  unfold execCaptureSample
  split
  · dsimp only
    split
    · exact answerKeeps_commit (Keeps.refl s).modPort.modPort.sampleArrives
    · exact answerKeeps_next (Keeps.refl s).modPort
  · exact answerKeeps_next (.refl s)

theorem answerKeeps_execCaptureEnd (rise : CaptureRise) (s : State) : AnswerKeeps s (execCaptureEnd rise s) := by
  unfold execCaptureEnd
  dsimp only
  split
  · exact answerKeeps_next (Keeps.refl s).endTransaction.attend
  · exact answerKeeps_next (Keeps.refl s).modPort.endTransaction.attend
  · split
    · exact answerKeeps_next (Keeps.refl s).setTransfer
    · exact answerKeeps_next (.refl s)

theorem answerKeeps_execDataByteDelivered (p : Port) (s : State) : AnswerKeeps s (execDataByteDelivered p s) := by
  unfold execDataByteDelivered
  split
  · exact answerKeeps_commit (Keeps.refl s).modPort
  · exact answerKeeps_next (.refl s)

theorem answerKeeps_execStreamDataEnd (p : Port) (s : State) : AnswerKeeps s (execStreamDataEnd p s) := by
  unfold execStreamDataEnd
  split
  · exact answerKeeps_next (Keeps.refl s).setTransfer.attend
  · split
    · exact answerKeeps_next (Keeps.refl s).setTransfer
    · exact answerKeeps_next (.refl s)

theorem answerKeeps_execIgnoredTransaction (p : Port) (tb : Byte) (n : Nat) (s : State) :
    AnswerKeeps s (execIgnoredTransaction p tb n s) := by
  unfold execIgnoredTransaction
  exact answerKeeps_transact Keeps.refl

/-! ### The resets -/

theorem keeps_portServes (p : Port) (k : ReqKind) (params : List Byte) (s : State) :
    Keeps s (portServes p k params s) := by
  unfold portServes
  split
  · exact keeps_subscribe p params s
  · exact keeps_deviceInfo p params s
  · exact keeps_streamOpen p params s
  · exact keeps_streamClose p params s
  · exact .refl s

theorem Keeps.takeOwnRequest {p : Port} (h : Keeps s t) : Keeps s (takeOwnRequest p t) := by
  unfold Machine.takeOwnRequest
  split
  · split
    · exact (h.trans (keeps_portServes p _ _ t)).modPort
    · exact h
  · exact h

theorem Keeps.resetCapture {p : Port} (h : Keeps s t) : Keeps s (resetCapture p t) := by
  unfold Machine.resetCapture
  split
  · split
    · exact h
    · exact h.stopStream
  · exact h

theorem answerKeeps_execPortReset (p : Port) (extra : Nat) (s : State) : AnswerKeeps s (execPortReset p extra s) := by
  unfold execPortReset
  split
  · exact answerKeeps_commit (Keeps.refl s).ended.takeOwnRequest.modPort.dropStream.resetCapture.releaseClaims
  · exact answerKeeps_transact fun u => .refl u

/-- No take and no stream is left by a device reset (R200). -/
theorem captureLaw_reset (ports : Vector PortState 4) (pending : List Instr) :
    CaptureLaw { State.reset with ports := ports, pending := pending } := by
  refine ⟨fun k r h => ?_, fun p st h => ?_⟩
  · simp [State.reset] at h
  · simp [State.reset] at h

theorem answerKeeps_execDeviceReset (s : State) : AnswerKeeps s (execDeviceReset s) := by
  unfold execDeviceReset
  exact answerKeeps_next ⟨fun _ => (Keeps.refl _).settle.law (captureLaw_reset _ _)⟩

/-! ### The array and the lanes -/

theorem Keeps.jobEnd {l : Lane} (h : Keeps s t) : Keeps s (jobEnd l t) := by
  unfold Machine.jobEnd
  split
  · exact h
  · split
    · exact h
    · dsimp only
      split
      · exact h.setLane.writeResult.enterState.lanesTake
      · exact h.setLane.writeResult.enterState.lanesTake

theorem Keeps.deliverPage {who : Reader} {bytes : List Byte} (h : Keeps s t) : Keeps s (deliverPage who bytes t) := by
  cases who with
  | lane l => exact h.modJob
  | port p => exact h.modPort

theorem Keeps.endProgram {i : Fin 2} {slot : Nat} {bytes : List Byte} (h : Keeps s t) :
    Keeps s (endProgram i slot bytes t) := h.modStore

theorem Keeps.endErase {b : Nat} (h : Keeps s t) : Keeps s (endErase b t) := h.modStore

theorem Keeps.joinErased {b : Nat} (h : Keeps s t) : Keeps s (joinErased b t) := h.modStore

theorem Keeps.started (h : Keeps s t) : Keeps s (started t) := by
  unfold Machine.started
  split
  · exact h.settle
  · exact h

theorem answerKeeps_execPageReadComplete (s : State) : AnswerKeeps s (execPageReadComplete s) := by
  unfold execPageReadComplete
  split
  · dsimp only
    split
    · exact answerKeeps_commit (Keeps.refl s).modStore
    · exact answerKeeps_commit (Keeps.refl s).modStore.deliverPage
  · exact answerKeeps_next (.refl s)

theorem answerKeeps_execCapturePageProgrammed (s : State) : AnswerKeeps s (execCapturePageProgrammed s) := by
  unfold execCapturePageProgrammed
  split
  · split
    · dsimp only
      split
      · exact answerKeeps_commit (Keeps.refl s).endProgram
      · exact answerKeeps_commit (Keeps.refl s).endProgram.takeClosedDue
    · exact answerKeeps_next (.refl s)
  · exact answerKeeps_next (.refl s)

theorem answerKeeps_execOutputPageProgrammed (s : State) : AnswerKeeps s (execOutputPageProgrammed s) := by
  unfold execOutputPageProgrammed
  split
  · split
    · dsimp only
      split
      · exact answerKeeps_commit (Keeps.refl s).endProgram.jobEnd
      · exact answerKeeps_commit (Keeps.refl s).endProgram
    · exact answerKeeps_next (.refl s)
  · exact answerKeeps_next (.refl s)

theorem answerKeeps_execBackgroundEraseComplete (s : State) : AnswerKeeps s (execBackgroundEraseComplete s) := by
  unfold execBackgroundEraseComplete
  dsimp only
  split
  · exact answerKeeps_commit (Keeps.refl s).started.endErase.joinErased
  · exact answerKeeps_next (.refl s)

theorem answerKeeps_execBuiltInEraseComplete (s : State) : AnswerKeeps s (execBuiltInEraseComplete s) := by
  unfold execBuiltInEraseComplete
  split
  · dsimp only
    split
    · exact answerKeeps_commit (Keeps.refl s).endErase.joinErased
    · exact answerKeeps_commit ((Keeps.refl s).endErase.consequences (consequences_appendBlock _ _ _))
  · exact answerKeeps_next (.refl s)

theorem answerKeeps_execPageLoad (s : State) : AnswerKeeps s (execPageLoad s) := by
  unfold execPageLoad
  split
  · rename_i hdue
    exact answerKeeps_commit ((Keeps.refl s).consequences (consequences_loadDue hdue))
  · exact answerKeeps_next (.refl s)

theorem answerKeeps_execWaitingAllocationServed (s : State) : AnswerKeeps s (execWaitingAllocationServed s) := by
  unfold execWaitingAllocationServed
  split
  · rename_i hdue
    exact answerKeeps_commit ((Keeps.refl s).consequences (consequences_waitingDue hdue))
  · exact answerKeeps_next (.refl s)

theorem answerKeeps_execMeasureSample (l : Lane) (s : State) : AnswerKeeps s (execMeasureSample l s) := by
  unfold execMeasureSample
  split
  · exact answerKeeps_next (.refl s)
  · split
    · split
      · exact answerKeeps_next (.refl s)
      · exact answerKeeps_commit ((Keeps.refl s).modJob.consequences (consequences_measureEndDue l _))
    · exact answerKeeps_next (.refl s)

theorem answerKeeps_execEncodeFrame (l : Lane) (s : State) : AnswerKeeps s (execEncodeFrame l s) := by
  unfold execEncodeFrame
  split
  · exact answerKeeps_next (.refl s)
  · split
    · exact answerKeeps_commit ((Keeps.refl s).modJob.consequences (consequences_encodeEndDue l _))
    · exact answerKeeps_next (.refl s)

/-! ### Every command -/

/-- Every command keeps the two laws. -/
theorem answerKeeps_exec (i : Instr) (s : State) : AnswerKeeps s (exec i s) := by
  cases i with
  | titleDefine p ps => exact answerKeeps_request (keeps_defineTitle ps)
  | titleDrop p ps => exact answerKeeps_request (keeps_dropTitle ps)
  | titleProfile p ps => exact answerKeeps_request (keeps_setTitleProfile ps)
  | titleInfo p ps => exact answerKeeps_request (keeps_reportTitle ps)
  | chapterCreate p ps => exact answerKeeps_request (keeps_createChapter p ps)
  | chapterOpen p ps => exact answerKeeps_request (keeps_openChapter p ps)
  | chapterClose p ps => exact answerKeeps_request (keeps_closeChapter p ps)
  | chapterDiscard p ps => exact answerKeeps_request (keeps_discardChapter p ps)
  | chapterMove p ps => exact answerKeeps_request (keeps_moveChapter ps)
  | chapterInfo p ps => exact answerKeeps_request (keeps_reportChapter ps)
  | takeStart p ps => exact answerKeeps_request (keeps_startTake p ps)
  | gateSet p ps => exact answerKeeps_request (keeps_setGateValues p ps)
  | takeStop p ps => exact answerKeeps_request (keeps_stopTake p ps)
  | takeRetire p ps => exact answerKeeps_request (keeps_retireTake ps)
  | takeInfo p ps => exact answerKeeps_request (keeps_reportTake ps)
  | levels p ps => exact answerKeeps_request (keeps_reportLevels ps)
  | scriptPoint p ps => exact answerKeeps_request (keeps_pointScript p ps)
  | scriptWrite p ps => exact answerKeeps_request (keeps_writeScript p ps)
  | scriptRead p ps => exact answerKeeps_request (keeps_readScript p ps)
  | storeInfo p ps => exact answerKeeps_request (keeps_reportStore ps)
  | purge p ps => exact answerKeeps_request (keeps_purge ps)
  | render p ps => exact answerKeeps_request (keeps_renderChapter p ps)
  | renderSet p ps => exact answerKeeps_request (keeps_renderSet p ps)
  | renderCancel p ps => exact answerKeeps_request (keeps_cancelRender ps)
  | queueInfo p ps => exact answerKeeps_request (keeps_reportQueue ps)
  | publish p ps => exact answerKeeps_request (keeps_publish ps)
  | collect p ps => exact answerKeeps_request (keeps_collect ps)
  | profileSet p ps => exact answerKeeps_request (keeps_writeProfile ps)
  | profileGet p ps => exact answerKeeps_request (keeps_readProfile ps)
  | streamOpen p ps => exact answerKeeps_request (keeps_streamOpen p ps)
  | streamClose p ps => exact answerKeeps_request (keeps_streamClose p ps)
  | subscribe p ps => exact answerKeeps_request (keeps_subscribe p ps)
  | deviceInfo p ps => exact answerKeeps_request (keeps_deviceInfo p ps)
  | request p m => exact answerKeeps_execRequest p m s
  | fetch p m => exact answerKeeps_execFetch p m s
  | notices p => exact answerKeeps_execNotices p s
  | noticeRecordSent p => exact answerKeeps_execNoticeRecordSent p s
  | capture p m => exact answerKeeps_execCapture p m s
  | captureSample p x => exact answerKeeps_execCaptureSample p x s
  | captureEnd rise => exact answerKeeps_execCaptureEnd rise s
  | takeFull p => exact answerKeeps_commit (Keeps.refl s).takeFullDue
  | positionLimit p => exact answerKeeps_commit (Keeps.refl s).positionLimitDue
  | takeClosed p => exact answerKeeps_commit (Keeps.refl s).takeClosedDue
  | liveBlock p => exact answerKeeps_commit (Keeps.refl s).liveBlockDue
  | streamData p => exact answerKeeps_execStreamData p s
  | dataByteDelivered p => exact answerKeeps_execDataByteDelivered p s
  | streamDataEnd p => exact answerKeeps_execStreamDataEnd p s
  | attentionRead p m => exact answerKeeps_execAttentionRead p m s
  | attentionClear p value n => exact answerKeeps_attention p n _ s
  | attentionMask p value n => exact answerKeeps_attention p n _ s
  | attentionMode p value n => exact answerKeeps_attention p n _ s
  | portReset p extra => exact answerKeeps_execPortReset p extra s
  | ignoredTransaction p tb n => exact answerKeeps_execIgnoredTransaction p tb n s
  | deviceReset => exact answerKeeps_execDeviceReset s
  | pageReadComplete => exact answerKeeps_execPageReadComplete s
  | capturePageProgrammed => exact answerKeeps_execCapturePageProgrammed s
  | outputPageProgrammed => exact answerKeeps_execOutputPageProgrammed s
  | backgroundEraseComplete => exact answerKeeps_execBackgroundEraseComplete s
  | builtInEraseComplete => exact answerKeeps_execBuiltInEraseComplete s
  | pageLoad => exact answerKeeps_execPageLoad s
  | waitingAllocationServed => exact answerKeeps_execWaitingAllocationServed s
  | measureSample l => exact answerKeeps_execMeasureSample l s
  | meterBlock l => exact answerKeeps_commit (Keeps.refl s).modJob
  | measureEnd l => exact answerKeeps_commit ((Keeps.refl s).consequences (consequences_measureEndDue l s))
  | encodeFrame l => exact answerKeeps_execEncodeFrame l s
  | encodeEnd l => exact answerKeeps_commit ((Keeps.refl s).consequences (consequences_encodeEndDue l s))

/-- Settles O47: a mark is made at its take's present length, and a sample joins a FIFO that has room. -/
theorem stepKeepsMarksAndFifoLaws : Obligations.StepKeepsMarksAndFifoLaws := by
  intro s t hm hf hstep
  have kept : CaptureLaw t := by
    unfold step at hstep
    split at hstep
    · cases hstep
      exact ⟨hm, hf⟩
    · exact (answerKeeps_exec _ _ t hstep).law ⟨hm, hf⟩
  exact ⟨kept.marks, kept.fifos⟩

end Sys2Proof.Machine

/-! How transactions begin, act and end (R28, R184, R188, R200; logs 5 and 6): O40. -/

namespace Sys2Proof.Machine

variable {s : State}

/-! ### An event that changes nothing -/

/-- Under the law of level sources the pending bits already are what an event without a change leaves (R195). -/
theorem latch_self {mode latched c : BitVec 4} (h : latched &&& mode = c &&& mode) : latch mode latched c c = latched := by
  refine BitVec.eq_of_getLsbD_eq fun i hi => ?_
  have bit := congrArg (·.getLsbD i) h
  simp only [BitVec.getLsbD_and] at bit
  simp only [latch, BitVec.getLsbD_or, BitVec.getLsbD_and, BitVec.getLsbD_not, hi]
  cases hm : mode.getLsbD i
  · simp
  · simpa [hm] using bit.symm

theorem attendPort_self {ps : PortState} (h : ps.latched &&& ps.mode = conditions ps &&& ps.mode) :
    attendPort ps ps = ps := by
  rw [attendPort, latch_self h]

theorem attend_self (h : LevelLaw s) : attend s s = s := by
  have same : (attend s s).ports = s.ports :=
    Vector.ext fun i hi => (attend_ports s s ⟨i, hi⟩).trans (attendPort_self (h ⟨i, hi⟩))
  calc attend s s = { s with ports := (attend s s).ports } := rfl
    _ = s := by rw [same]

/-! ### How an earlier transaction ends -/

/-- A REQUEST that ends with no byte of its request is dropped: it is short on an idle port, and meets a busy one
otherwise (R185, R188). -/
theorem receive_nil (p : Port) (s : State) : receive p [] s =
    notify p ⟨.requestDropped, 0xFF, if s.ports[p].exec = .idle then 1 else 0, 0⟩ s := by
  unfold receive
  split
  · rename_i idle
    rw [if_pos idle]
    rfl
  · rename_i busy
    rw [if_neg busy]
    rfl

theorem endTransaction_request {p : Port} (h : s.ports[p].xfer = .request) : endTransaction p s =
    setTransfer p .none (notify p ⟨.requestDropped, 0xFF, if s.ports[p].exec = .idle then 1 else 0, 0⟩ s) := by
  rw [← receive_nil, endTransaction, h]

theorem endTransaction_ignoredCapture {p : Port} {free announced arrived discarded : Nat} {subject : Byte}
    {detail : BitVec 16}
    (h : s.ports[p].xfer = .capture free announced arrived (some (subject, detail)) discarded) : endTransaction p s =
      setTransfer p .none (notify p ⟨.captureIgnored, subject, detail, BitVec.ofNat 32 discarded⟩ s) := by
  rw [endTransaction, h]

theorem endTransaction_silent {p : Port} (hrequest : s.ports[p].xfer ≠ .request)
    (hcapture : ∀ free announced arrived found discarded,
      s.ports[p].xfer ≠ .capture free announced arrived (some found) discarded) :
    endTransaction p s = setTransfer p .none s := by
  unfold endTransaction
  split
  · exact absurd ‹_› hrequest
  · exact absurd ‹_› (hcapture _ _ _ _ _)
  · rfl

/-! ### Kinds that act after their transaction byte -/

/-- With none of its kind in progress, a kind acts as on the state that its transaction byte leaves (log 5). -/
theorem later_opening {α : Type} {p : Port} {kind : Byte} {kept : Transfer → Option α} {fixed : State → Transfer}
    (act : α → State → State) {a : α} (hk : kept s.ports[p].xfer = none) (hn : s.ports[p].xfer ≠ .abandoned kind)
    (ho : kept (fixed (ended p s)) = some a) (hf : fixed (ended p s) ≠ .abandoned kind) :
    later p kind kept (opened p fixed) act s = later p kind kept (opened p fixed) act (opened p fixed s) := by
  have xfer : (opened p fixed s).ports[p.val].xfer = fixed (ended p s) := opened_xfer s p fixed
  rw [later_whole s act hk hn ((congrArg kept xfer).trans ho),
    later_kept _ _ act ((congrArg kept xfer).trans ho) (xfer.trans_ne hf)]

/-- In a period that a device reset abandoned, the kind is ignored and the period is over (R200). -/
theorem later_abandoned {α : Type} {p : Port} {kind : Byte} (kept : Transfer → Option α) (opening : State → State)
    (act : α → State → State) (h : s.ports[p].xfer = .abandoned kind) :
    later p kind kept opening act s = .next (setTransfer p .none s) := if_pos h

theorem keptRequest_eq_none {x : Transfer} (h : x ≠ .request) : keptRequest x = none := by
  unfold keptRequest
  split
  · exact absurd rfl h
  · rfl

theorem keptFetch_eq_none {x : Transfer} (h : ∀ r, x ≠ .fetch r) : keptFetch x = none := by
  unfold keptFetch
  split
  · exact absurd rfl (h _)
  · rfl

theorem openedFree_eq_none {x : Transfer} (h : ∀ free, x ≠ .captureOpened free) : openedFree x = none := by
  unfold openedFree
  split
  · exact absurd rfl (h _)
  · rfl

theorem keptAttention_eq_none {x : Transfer} (h : ∀ values, x ≠ .attention values) : keptAttention x = none := by
  unfold keptAttention
  split
  · exact absurd rfl (h _)
  · rfl

theorem attention_opening {p : Port} (n : Nat) (effect : PortState → PortState) (h : ∀ v, s.ports[p].xfer ≠ .attention v)
    (hn : s.ports[p].xfer ≠ .abandoned 0xA6) : attention p n effect s = attention p n effect (openAttention p s) :=
  later_opening (endAttention p n effect) (keptAttention_eq_none h) hn rfl nofun

/-! ### The obligation -/

/-- The kinds that act later, in a period that a device reset abandoned (R200). -/
theorem exec_abandoned {p : Port} (bytes : List Byte) (count value : Byte) (n : Nat) :
    (s.ports[p].xfer = .abandoned 0xA1 → exec (.request p (.acts bytes)) s = .next (setTransfer p .none s)) ∧
    (s.ports[p].xfer = .abandoned 0xA2 → exec (.fetch p (.acts n)) s = .next (setTransfer p .none s)) ∧
    (s.ports[p].xfer = .abandoned 0xA4 → exec (.capture p (.acts count)) s = .next (setTransfer p .none s) ∧
      exec (.captureEnd ⟨p, n⟩) s = .next (setTransfer p .none s)) ∧
    (s.ports[p].xfer = .abandoned 0xA5 → exec (.streamDataEnd p) s = .next (setTransfer p .none s)) ∧
    (s.ports[p].xfer = .abandoned 0xA6 → exec (.attentionRead p (.acts n)) s = .next (setTransfer p .none s) ∧
      exec (.attentionClear p value n) s = .next (setTransfer p .none s) ∧
      exec (.attentionMask p value n) s = .next (setTransfer p .none s) ∧
      exec (.attentionMode p value n) s = .next (setTransfer p .none s)) := by
  refine ⟨fun h => later_abandoned _ _ _ h, fun h => later_abandoned _ _ _ h,
    fun h => ⟨later_abandoned _ _ _ h, ?_⟩, fun h => ?_, fun h => ⟨later_abandoned _ _ _ h, later_abandoned _ _ _ h,
      later_abandoned _ _ _ h, later_abandoned _ _ _ h⟩⟩
  · show execCaptureEnd ⟨p, n⟩ s = _
    simp only [execCaptureEnd, h, if_pos]
  · show execStreamDataEnd p s = _
    simp only [execStreamDataEnd, h, if_pos]

/-- Settles O40: the end of an earlier transaction by its kind, and the command of a kind that acts later by what the
port's transaction in progress is. -/
theorem transactionsBegin : Obligations.TransactionsBegin := by
  refine ⟨⟨fun s p h => ended_none s h, fun s p h => congrArg (attend s) (endTransaction_request h),
    fun s p _ _ _ _ _ _ h => congrArg (attend s) (endTransaction_ignoredCapture h),
    fun s p hr hc => congrArg (attend s) (endTransaction_silent hr hc), fun s _ h => attend_self h⟩, ?_, ?_, ?_, ?_, ?_, ?_⟩
  · rintro s _ p tb n rfl
    rfl
  · intro s p bytes h hn
    exact ⟨openRequest p s, rfl, rfl,
      later_opening (fun _ => endRequest p bytes) (keptRequest_eq_none h) hn rfl nofun⟩
  · intro s p n h hn
    exact ⟨openFetch p s, rfl, later_opening (endFetch p n) (keptFetch_eq_none h) hn rfl nofun⟩
  · intro s p count h hn
    exact ⟨openCapture p s, rfl, later_opening (countArrives p count) (openedFree_eq_none h) hn rfl nofun⟩
  · intro s p value n h hn
    exact ⟨openAttention p s, rfl, attention_opening n _ h hn, attention_opening n _ h hn, attention_opening n _ h hn,
      attention_opening n _ h hn⟩
  · rintro s _ p bytes count value n rfl
    exact exec_abandoned bytes count value n

end Sys2Proof.Machine

/-! A CAPTURE transaction from its transaction byte to its end (R28): O17. -/

namespace Sys2Proof.Machine

variable {s : State} {p : Port}

/-! ### What the transaction byte and the count byte find -/

theorem freeSpace_capturing {st : Stream} (h : s.captures[p] = some st) (hc : st.closing = false) :
    freeSpace s p = 4096 - st.fifo.length := by
  rw [freeSpace, capturingStream_of_some h hc]
  rfl

theorem freeSpace_not_capturing (h : ∀ st, s.captures[p] = some st → st.closing = true) : freeSpace s p = 0 := by
  rw [freeSpace, capturingStream_eq_none h]

theorem captureFinding_capturing {st : Stream} (h : s.captures[p] = some st) (hc : st.closing = false) :
    captureFinding s p = none := by
  simp only [captureFinding, h, hc, Bool.false_eq_true, if_false]

theorem captureFinding_closing {st : Stream} (h : s.captures[p] = some st) (hc : st.closing = true) :
    captureFinding s p = some (BitVec.ofNat 8 st.take.val, 1) := by
  simp only [captureFinding, h, hc, if_true]

theorem captureFinding_none (h : s.captures[p] = none) : captureFinding s p = some (0xFF, 0) := by
  rw [captureFinding, h]

/-! ### The bytes a CAPTURE sends -/

theorem modPort_clockCapture (p : Port) (free n : Nat) (s : State) : modPort p (clockCapture free n) s =
    setSent p (clockedOut (s.ports[p].sent.length + n) (u16 free)) s := rfl

theorem setSent_xfer (p : Port) (bytes : List Byte) (s : State) :
    (setSent p bytes s).ports[p].xfer = s.ports[p].xfer := by
  simp [setSent]

/-- The count byte in the transaction that the transaction byte opened (R28). -/
theorem exec_capture_count {free : Nat} (count : Byte) (h : s.ports[p].xfer = .captureOpened free) :
    exec (.capture p (.acts count)) s = .next (attend s (setTransfer p
      (.capture free (if count = 0 then 256 else count.toNat) 0 (captureFinding s p) 0)
        (setSent p (clockedOut (s.ports[p].sent.length + 1) (u16 free)) s))) :=
  later_kept s (openCapture p) (countArrives p count) (congrArg openedFree h) (ne_of_eq_of_ne h nofun)

/-- The rise of chip-select, before the count byte and after it (R28). -/
theorem exec_captureEnd_opened {free : Nat} (n : Nat) (h : s.ports[p].xfer = .captureOpened free) :
    exec (.captureEnd ⟨p, n⟩) s = .next (attend s (setTransfer p .none s)) := by
  have silent : endTransaction p s = setTransfer p .none s :=
    endTransaction_silent (ne_of_eq_of_ne h nofun) fun _ _ _ _ _ => ne_of_eq_of_ne h nofun
  show execCaptureEnd ⟨p, n⟩ s = _
  simp only [execCaptureEnd, h, silent]

theorem exec_captureEnd_counted {free announced arrived discarded : Nat} {found : Option (Byte × BitVec 16)} (n : Nat)
    (h : s.ports[p].xfer = .capture free announced arrived found discarded) : exec (.captureEnd ⟨p, n⟩) s =
      .next (attend s (endTransaction p (setSent p (clockedOut (s.ports[p].sent.length + n) (u16 free)) s))) := by
  show execCaptureEnd ⟨p, n⟩ s = _
  simp only [execCaptureEnd, h, modPort_clockCapture]

/-- Settles O17: the three moments of a CAPTURE outside its samples, each by what it finds in the port's slot. -/
theorem captureTransaction : Obligations.CaptureTransaction := by
  refine ⟨?_, ?_, fun s p free n h => exec_captureEnd_opened n h, ?_⟩
  · rintro s _ p rfl
    have opens : exec (.capture p .opens) s =
        .next (setTransfer p (.captureOpened (freeSpace (ended p s) p)) (setSent p [] (ended p s))) := rfl
    refine ⟨fun st h hc => ?_, fun h => ?_⟩
    · rw [opens, freeSpace_capturing h hc]
    · rw [opens, freeSpace_not_capturing h]
  · rintro s _ p count free _ h rfl rfl
    have counted := exec_capture_count count h
    refine ⟨fun st hst hc => ?_, fun st hst hc => ?_, fun hnone => ?_⟩
    · rw [counted, captureFinding_capturing hst hc]
    · rw [counted, captureFinding_closing hst hc]
    · rw [counted, captureFinding_none hnone]
  · rintro s _ p free announced arrived discarded n found h rfl
    have xfer (bytes : List Byte) := (setSent_xfer p bytes s).trans h
    rw [exec_captureEnd_counted n h]
    refine ⟨?_, ?_⟩
    · rintro rfl
      rw [endTransaction_silent (ne_of_eq_of_ne (xfer _) nofun) fun _ _ _ _ _ => ne_of_eq_of_ne (xfer _) nofun]
    · rintro subject detail rfl
      rw [endTransaction_ignoredCapture (xfer _)]

end Sys2Proof.Machine

/-! The steps of a capture that another event makes due (R36, R38, R39), and the steps that are not due (log 3): O19. -/

namespace Sys2Proof.Machine

variable {s : State} {p : Port}

/-! ### Steps on a slot that is NONE or CLOSING -/

theorem takeFullDue_not_capturing (h : ∀ st, s.captures[p] = some st → st.closing = true) : takeFullDue p s = s := by
  unfold takeFullDue
  split
  · rfl
  · rename_i st hst
    exact if_neg (by simp [h st hst])

theorem positionLimitDue_not_capturing (h : ∀ st, s.captures[p] = some st → st.closing = true) :
    positionLimitDue p s = s := by
  unfold positionLimitDue
  split
  · rfl
  · rename_i st hst
    exact if_neg (by simp [h st hst])

theorem liveBlockDue_none (h : s.captures[p] = none) : liveBlockDue p s = s := by
  rw [liveBlockDue, h]

theorem drained_none (h : s.captures[p] = none) : drained p s = false := by
  rw [drained, h]

/-! ### Steps on a stream -/

section
variable {st : Stream} {r : Take} (h : s.captures[p] = some st) (hr : s.takes[st.take] = some r)
include h

theorem drained_stream : drained p s = (st.closing && st.fifo.isEmpty && !inStore (.stream p) s.store) := by
  simp only [drained, h]

include hr

theorem limitStop_stream (reason : StopReason) : limitStop p reason s =
    notify p (notice .takeStopped st.take.val (stopCode reason) r.length) (stopStream p reason s) := by
  simp only [limitStop, h, hr, Option.map_some, Option.getD_some]

/-- TAKE_FULL on a CAPTURING stream (R36). -/
theorem takeFullDue_capturing (hc : st.closing = false) : takeFullDue p s = if 2 ^ 28 ≤ r.length then
    notify p (notice .takeStopped st.take.val 2 r.length) (stopStream p .takeFull s) else s := by
  simp only [takeFullDue, h, hr, hc, limitStop_stream h hr, Bool.not_false, true_and, Option.map_some, Option.getD_some]
  rfl

/-- POSITION_LIMIT on a CAPTURING stream (R36). -/
theorem positionLimitDue_capturing (hc : st.closing = false) : positionLimitDue p s = if st.atLimit then
    notify p (notice .takeStopped st.take.val 3 r.length) (stopStream p .positionLimit s) else s := by
  simp only [positionLimitDue, h, hc, limitStop_stream h hr, Bool.not_false, true_and]
  rfl

/-- LIVE_BLOCK on a stream (R39). -/
theorem liveBlockDue_stream : liveBlockDue p s =
    if blockLength (titleRate s r.title) ≤ st.count ∧ st.closing = false then
      modLevel p (fun e => { e with lastBlock := loudnessCode (st.energy / blockLength (titleRate s r.title)) })
        (setStream p (some { st with energy := 0, count := 0 }) s)
    else s := by
  simp only [liveBlockDue, h, hr, modStream_of_some h, Bool.not_eq_eq_eq_not, Bool.not_true]

end

/-! ### Steps of the store and of a lane -/

theorem modJob_none {l : Lane} (h : s.lanes[l] = none) (f : Job → Job) : modJob l f s = s := by
  have h : s.lanes[l.val] = none := h
  have same : s.lanes.set l.val none l.isLt = s.lanes := by rw [← h, Vector.set_getElem_self]
  rw [modJob, Fin.getElem_fin, h, Option.map_none, same]

theorem measureEndDue_none {l : Lane} (h : s.lanes[l] = none) : measureEndDue l s = s := by
  rw [measureEndDue, h]

theorem encodeEndDue_none {l : Lane} (h : s.lanes[l] = none) : encodeEndDue l s = s := by
  rw [encodeEndDue, h]

/-- The completion of an operation that is not in progress (R68). -/
theorem completions_idle (h : s.store.array = .idle) : execPageReadComplete s = .next s ∧
    execCapturePageProgrammed s = .next s ∧ execOutputPageProgrammed s = .next s ∧ execBuiltInEraseComplete s = .next s := by
  refine ⟨?_, ?_, ?_, ?_⟩
  · rw [execPageReadComplete, h]
  · rw [execCapturePageProgrammed, h]
  · rw [execOutputPageProgrammed, h]
  · rw [execBuiltInEraseComplete, h]

/-- A step of an IDLE lane. -/
theorem laneSteps_idle {l : Lane} (h : s.lanes[l] = none) : execMeasureSample l s = .next s ∧
    execEncodeFrame l s = .next s ∧ execMeasureEnd l s = .next (commit s s) ∧ execEncodeEnd l s = .next (commit s s) ∧
    execMeterBlock l s = .next (commit s s) := by
  refine ⟨?_, ?_, ?_, ?_, ?_⟩
  · rw [execMeasureSample, h]
  · rw [execEncodeFrame, h]
  · rw [execMeasureEnd, measureEndDue_none h]
  · rw [execEncodeEnd, encodeEndDue_none h]
  · rw [execMeterBlock, modJob_none h]

/-! ### The obligation -/

section
variable {st : Stream} {r : Take} (h : s.captures[p] = some st) (hr : s.takes[st.take] = some r)
include h hr

/-- The four steps of a capture where none of them is due (log 3). -/
theorem captureSteps_not_due : (r.length < 2 ^ 28 → takeFullDue p s = s) ∧
    (st.atLimit = false → positionLimitDue p s = s) ∧
    (st.closing = false ∨ st.fifo ≠ [] ∨ inStore (.stream p) s.store = true → takeClosedDue p s = s) ∧
    (st.count < blockLength (titleRate s r.title) → liveBlockDue p s = s) := by
  have closing (hc : st.closing = true) : ∀ st', s.captures[p] = some st' → st'.closing = true := by
    intro st' h'
    rwa [← Option.some.inj (h.symm.trans h')]
  refine ⟨fun hlen => ?_, fun hl => ?_, fun hd => ?_, fun hn => ?_⟩
  · cases hc : st.closing with
    | true => exact takeFullDue_not_capturing (closing hc)
    | false => rw [takeFullDue_capturing h hr hc, if_neg (by omega)]
  · cases hc : st.closing with
    | true => exact positionLimitDue_not_capturing (closing hc)
    | false => rw [positionLimitDue_capturing h hr hc, hl, if_neg Bool.false_ne_true]
  · refine takeClosedDue_not_drained ?_
    rw [drained_stream h]
    rcases hd with hc | hf | hs
    · simp [hc]
    · simp [hf]
    · simp [hs]
  · rw [liveBlockDue_stream h hr, if_neg fun hdue => absurd hdue.1 (by omega)]

end

/-- Settles O19: each step of a capture is one equation on a stream, and nothing on a slot that is NONE. -/
theorem captureStepsWhenDue : Obligations.CaptureStepsWhenDue := by
  have ends {s : State} {u v : State} (h : u = v) : (.next (commit s u) : Answer) = .next (commit s v) := h ▸ rfl
  refine ⟨⟨?_, ?_, ?_, ?_⟩, ?_, ?_, fun s h => completions_idle h, fun s l h => laneSteps_idle h⟩
  · exact fun s p st r h hr hc hlen => ends ((takeFullDue_capturing h hr hc).trans (if_pos hlen))
  · exact fun s p st r h hr hc hl => ends ((positionLimitDue_capturing h hr hc).trans (if_pos hl))
  · intro s p st r reason h hr hc hf hs hreason
    have drained : drained p s = true := by simp [drained_stream h, hc, hf, hs]
    have code : (r.stopReason.map stopCode).getD 0 = stopCode reason := by rw [hreason]; rfl
    exact ends (code ▸ takeClosedDue_drained h hr drained)
  · exact fun s p st r h hr hc hn => ends ((liveBlockDue_stream h hr).trans (if_pos ⟨hn, hc⟩))
  · intro s p st r h hr
    obtain ⟨full, limit, closed, block⟩ := captureSteps_not_due h hr
    exact ⟨fun hlen => ends (full hlen), fun hl => ends (limit hl), fun hd => ends (closed hd), fun hn => ends (block hn)⟩
  · intro s p h
    have none : ∀ st, s.captures[p] = some st → st.closing = true := fun st hst => nomatch h.symm.trans hst
    exact ⟨ends (takeFullDue_not_capturing none), ends (positionLimitDue_not_capturing none),
      ends (takeClosedDue_not_drained (drained_none h)), ends (liveBlockDue_none h)⟩

end Sys2Proof.Machine

/-! The samples of a CAPTURE transaction (R28, R29, R30, R32, R33, R36, R39): O18. A sample changes four records at most:
the stream, its take, the port's live level entry and the port. Each step of the capture unit is a function of those
four. -/

namespace Sys2Proof.Machine

variable {s : State} {p : Port} {k : TakeId}

/-! ### The compare unit (R29) -/

/-- The compare unit row by row: A first, then B with its value after A's match. -/
theorem compared_rows (st : Stream) :
    (st.a = st.pos → st.b ≠ st.pos → st.b + st.inc ≠ st.pos → compared st = (toggled st.gate, st.a, st.b + st.inc)) ∧
    (st.a = st.pos → st.inc = 0 → st.b = st.pos → compared st = (st.gate, st.a, st.b)) ∧
    (st.a = st.pos → st.inc ≠ 0 → st.b = st.pos → compared st = (toggled st.gate, st.a, st.pos + st.inc)) ∧
    (st.a ≠ st.pos → st.b = st.pos → compared st = (toggled st.gate, st.a + st.inc, st.b)) ∧
    (st.a = st.pos → st.inc ≠ 0 → st.b + st.inc = st.pos → compared st = (st.gate, st.pos + st.inc, st.pos)) ∧
    (st.a ≠ st.pos → st.b ≠ st.pos → compared st = (st.gate, st.a, st.b)) := by
  have twice : toggled (toggled st.gate) = st.gate := by cases st.gate <;> rfl
  refine ⟨fun ha hb hnext => ?_, fun ha hinc hb => ?_, fun ha hinc hb => ?_, fun ha hb => ?_, fun ha hinc hnext => ?_,
    fun ha hb => ?_⟩
  · by_cases hinc : st.inc = 0#32
    · simp [compared, ha, hinc, Ne.symm hb]
    · simp [compared, ha, hinc, Ne.symm hnext]
  · simp [compared, ha, hinc, hb, twice]
  · have hinc : st.inc ≠ 0#32 := hinc
    simp [compared, ha, hinc, hb]
  · by_cases hinc : st.inc = 0#32
    · simp [compared, Ne.symm ha, hinc, hb]
    · simp [compared, Ne.symm ha, hinc, hb]
  · have hinc : st.inc ≠ 0#32 := hinc
    simp [compared, ha, hinc, hnext, twice]
  · simp [compared, Ne.symm ha, Ne.symm hb]

/-! ### The records of a capture -/

/-- The records that a sample can change. -/
structure CaptureRecords where
  stream : Stream
  take : Take
  level : LevelEntry
  port : PortState

/-- A state with the records of port `p` and take `k` replaced. -/
def withRecords (p : Port) (k : TakeId) (c : CaptureRecords) (s : State) : State :=
  modPort p (fun _ => c.port) (modLevel p (fun _ => c.level) (setStream p (some c.stream) (setTake k (some c.take) s)))

variable {c : CaptureRecords}

theorem withRecords_stream : (withRecords p k c s).captures[p] = some c.stream := setStream_captures_self ..

theorem withRecords_take : (withRecords p k c s).takes[k] = some c.take := setTake_takes_self ..

theorem withRecords_level : (withRecords p k c s).levels[p] = c.level := by simp [withRecords]

theorem withRecords_port : (withRecords p k c s).ports[p] = c.port := by simp [withRecords]

theorem modStream_withRecords (f : Stream → Stream) : modStream p f (withRecords p k c s) =
    withRecords p k { c with stream := f c.stream } s := by
  simp [withRecords, modStream, modPort, modLevel, setStream, setTake]

theorem setStream_withRecords (st : Stream) : setStream p (some st) (withRecords p k c s) =
    withRecords p k { c with stream := st } s := by
  simp [withRecords, modPort, modLevel, setStream, setTake]

theorem modTake_withRecords (f : Take → Take) : modTake k f (withRecords p k c s) =
    withRecords p k { c with take := f c.take } s := by
  simp [withRecords, modTake, modPort, modLevel, setStream, setTake]

theorem modLevel_withRecords (f : LevelEntry → LevelEntry) : modLevel p f (withRecords p k c s) =
    withRecords p k { c with level := f c.level } s := by
  simp [withRecords, modPort, modLevel, setStream, setTake]

theorem modPort_withRecords (f : PortState → PortState) : modPort p f (withRecords p k c s) =
    withRecords p k { c with port := f c.port } s := by
  simp [withRecords, modPort, modLevel, setStream, setTake]

/-- A change of the port is a change of its capture records. -/
theorem modPort_eq_withRecords {st : Stream} {r : Take} (h : s.captures[p] = some st) (hr : s.takes[st.take] = some r)
    (f : PortState → PortState) :
    modPort p f s = withRecords p st.take ⟨st, r, s.levels[p], f s.ports[p]⟩ s := by
  have h : s.captures[p.val] = some st := h
  have hr : s.takes[st.take.val] = some r := hr
  simp [withRecords, modPort, modLevel, setStream, setTake, ← h, ← hr]

/-! ### The steps of a sample, on the records -/

/-- The gate of a stream set (R30, R39). -/
def CaptureRecords.gated (g : Gate) (c : CaptureRecords) : CaptureRecords :=
  { c with stream := { c.stream with gate := g }, level := { c.level with gate := g }
           take := if c.stream.gate = g then c.take else gateMark g c.stream.pos c.take }

/-- An open dropout run ended by a kept sample (R33). -/
def CaptureRecords.runEnded (c : CaptureRecords) : CaptureRecords :=
  match c.stream.run with
  | none => c
  | some n =>
    { c with stream := { c.stream with run := none }, take := appendMark ⟨.dropout, c.take.length, n⟩ c.take
             port := pushNotice (notice .dropout c.stream.take.val 0 n) c.port }

/-- A sample dropped (R33). -/
def CaptureRecords.dropped (c : CaptureRecords) : CaptureRecords :=
  { c with stream := { c.stream with run := some (c.stream.run.getD 0 + 1) }
           take := { c.take with dropout := true, dropoutTotal := min (2 ^ 32 - 1) (c.take.dropoutTotal + 1) } }

/-- A sample that joins the FIFO and the take and is metered (R32, R39). -/
def CaptureRecords.joined (x : Sample) (c : CaptureRecords) : CaptureRecords :=
  { c with stream := liveFeed x { c.stream with fifo := c.stream.fifo ++ [x] }
           take := { c.take with length := c.take.length + 1
                                 peak := amplitudeCode (max c.stream.largest x.natAbs) }
           level := { c.level with peak := amplitudeCode (max c.stream.largest x.natAbs) } }

/-- The position after a sample (R29, R36, R39). -/
def CaptureRecords.advanced (c : CaptureRecords) : CaptureRecords :=
  let last := c.stream.pos == BitVec.allOnes 32
  let pos := if last then c.stream.pos else c.stream.pos + 1
  { c with stream := { c.stream with pos := pos, atLimit := last }, level := { c.level with position := pos } }

/-- The compare unit's result at the arriving sample: the values A and B, and the gate (R29). -/
def CaptureRecords.punched (c : CaptureRecords) : CaptureRecords :=
  { c with stream := { c.stream with a := (compared c.stream).2.1, b := (compared c.stream).2.2 } }.gated
    (compared c.stream).1

/-- A sample through the compare unit, the gate, and the keep-or-drop decision. -/
def CaptureRecords.passed (x : Sample) (c : CaptureRecords) : CaptureRecords :=
  (if (compared c.stream).1 = .shut then c.punched
    else if c.stream.fifo.length < Config.fifoPlaces then c.punched.runEnded.joined x
    else c.punched.dropped).advanced

/-- A live block of `n` samples measured when it is complete (R39). -/
def CaptureRecords.measured (n : Nat) (c : CaptureRecords) : CaptureRecords :=
  if n ≤ c.stream.count then
    { c with stream := { c.stream with energy := 0, count := 0 }
             level := { c.level with lastBlock := loudnessCode (c.stream.energy / n) } }
  else c

/-- The end of a dropout run ends the stream's run, and changes nothing else of it. -/
theorem CaptureRecords.runEnded_stream (c : CaptureRecords) :
    c.runEnded.stream = { c.stream with run := none } := by
  unfold runEnded
  split
  · rename_i hrun
    rw [← hrun]
  · rfl

/-! ### The steps of the model are those on the records -/

section
variable (hk : c.stream.take = k)
include hk

theorem setGate_withRecords (g : Gate) : setGate p g (withRecords p k c s) = withRecords p k (c.gated g) s := by
  subst hk
  simp only [setGate, withRecords_stream, modStream_withRecords, modLevel_withRecords, modTake_withRecords]
  by_cases hg : c.stream.gate = g
  · rw [if_pos hg, CaptureRecords.gated, if_pos hg]
  · rw [if_neg hg, CaptureRecords.gated, if_neg hg]

theorem endRun_withRecords : endRun p 0 (withRecords p k c s) = withRecords p k c.runEnded s := by
  subst hk
  simp only [endRun, withRecords_stream, CaptureRecords.runEnded]
  cases c.stream.run with
  | none => rfl
  | some n => simp only [notify, modStream_withRecords, modTake_withRecords, modPort_withRecords]

theorem dropSample_withRecords : dropSample p (withRecords p k c s) = withRecords p k c.dropped s := by
  subst hk
  simp only [dropSample, withRecords_stream, modStream_withRecords, modTake_withRecords, CaptureRecords.dropped]

theorem keepSample_withRecords (x : Sample) :
    keepSample p x (withRecords p k c s) = withRecords p k (c.runEnded.joined x) s := by
  have hk' := (congrArg Stream.take c.runEnded_stream).trans hk
  simp only [keepSample, endRun_withRecords hk, withRecords_stream]
  rw [hk']
  simp only [modStream_withRecords, modTake_withRecords, modLevel_withRecords, CaptureRecords.joined]

omit hk in
theorem advancePosition_withRecords :
    advancePosition p (withRecords p k c s) = withRecords p k c.advanced s := by
  simp only [advancePosition, withRecords_stream, modStream_withRecords, modLevel_withRecords, CaptureRecords.advanced]

theorem passSample_withRecords (x : Sample) : passSample p x (withRecords p k c s) = withRecords p k (c.passed x) s := by
  have punch : setGate p (compared c.stream).1 (modStream p
      (fun st' => { st' with a := (compared c.stream).2.1, b := (compared c.stream).2.2 }) (withRecords p k c s)) =
      withRecords p k c.punched s := by
    rw [modStream_withRecords, setGate_withRecords (c := { c with stream := { c.stream with
      a := (compared c.stream).2.1, b := (compared c.stream).2.2 } }) hk]
    rfl
  simp only [passSample, withRecords_stream, punch, CaptureRecords.passed]
  split
  · exact advancePosition_withRecords
  · split
    · rw [keepSample_withRecords (c := c.punched) hk, advancePosition_withRecords]
    · rw [dropSample_withRecords (c := c.punched) hk, advancePosition_withRecords]

theorem liveBlockDue_withRecords (hc : c.stream.closing = false) : liveBlockDue p (withRecords p k c s) =
    withRecords p k (c.measured (blockLength (titleRate s c.take.title))) s := by
  subst hk
  have rate : titleRate (withRecords p c.stream.take c s) c.take.title = titleRate s c.take.title := rfl
  rw [liveBlockDue_stream withRecords_stream withRecords_take, rate, CaptureRecords.measured]
  by_cases hn : blockLength (titleRate s c.take.title) ≤ c.stream.count
  · rw [if_pos ⟨hn, hc⟩, if_pos hn, setStream_withRecords, modLevel_withRecords]
  · rw [if_neg fun h => hn h.1, if_neg hn]

end

end Sys2Proof.Machine

/-! The fields of the records after a sample, and O18. -/

namespace Sys2Proof.Machine

variable {s : State} {p : Port} {k : TakeId} {c : CaptureRecords}

/-! ### What a mark leaves alone -/

/-- A mark changes nothing of a take but its marks and their flag (R34). -/
theorem appendMark_frame (m : Mark) (r : Take) :
    appendMark m r = { r with marks := (appendMark m r).marks, marksLost := (appendMark m r).marksLost } := by
  unfold appendMark
  split <;> rfl

@[simp] theorem appendMark_title (m : Mark) (r : Take) : (appendMark m r).title = r.title := by rw [appendMark_frame]
@[simp] theorem appendMark_peak (m : Mark) (r : Take) : (appendMark m r).peak = r.peak := by rw [appendMark_frame]
@[simp] theorem appendMark_dropout (m : Mark) (r : Take) : (appendMark m r).dropout = r.dropout := by
  rw [appendMark_frame]
@[simp] theorem appendMark_dropoutTotal (m : Mark) (r : Take) : (appendMark m r).dropoutTotal = r.dropoutTotal := by
  rw [appendMark_frame]

/-- A notice leaves the transaction in progress and the bytes sent alone (R190). -/
theorem pushNotice_transfer (n : Notice) (ps : PortState) (x : Transfer) (bytes : List Byte) :
    pushNotice n { ps with xfer := x, sent := bytes } = { pushNotice n ps with xfer := x, sent := bytes } := by
  unfold pushNotice
  split <;> rfl

/-! ### What a sample leaves of the records -/

namespace CaptureRecords

theorem punched_take : c.punched.take = if (compared c.stream).1 = c.stream.gate then c.take
    else gateMark (compared c.stream).1 c.stream.pos c.take := by
  simp only [punched, gated, eq_comm]

/-- The compare unit changes nothing of the take but its marks. -/
theorem punched_take_rest (c : CaptureRecords) : c.punched.take.length = c.take.length ∧
    c.punched.take.peak = c.take.peak ∧ c.punched.take.dropout = c.take.dropout ∧
    c.punched.take.dropoutTotal = c.take.dropoutTotal ∧ c.punched.take.title = c.take.title := by
  rw [punched_take]
  split <;> simp [gateMark]

/-- Nor does the end of a dropout run. -/
theorem runEnded_take_rest (c : CaptureRecords) : c.runEnded.take.length = c.take.length ∧
    c.runEnded.take.dropout = c.take.dropout ∧ c.runEnded.take.dropoutTotal = c.take.dropoutTotal ∧
    c.runEnded.take.title = c.take.title := by
  unfold runEnded
  split <;> simp

/-- A sample leaves the stream its take and its state, and the take its title. -/
theorem passed_rest (x : Sample) (c : CaptureRecords) : (c.passed x).stream.take = c.stream.take ∧
    (c.passed x).stream.closing = c.stream.closing ∧ (c.passed x).take.title = c.take.title := by
  have run := c.punched.runEnded_stream
  obtain ⟨-, -, -, -, title⟩ := c.punched_take_rest
  obtain ⟨-, -, -, title'⟩ := c.punched.runEnded_take_rest
  unfold passed
  split
  · exact ⟨rfl, rfl, title⟩
  · split
    · exact ⟨(congrArg Stream.take run :), (congrArg Stream.closing run :), title'.trans title⟩
    · exact ⟨rfl, rfl, title⟩

end CaptureRecords

/-- A live block measured, field by field. -/
theorem CaptureRecords.measured_eq (n : Nat) (c : CaptureRecords) : c.measured n = { c with
    stream := { c.stream with
      energy := if n ≤ c.stream.count then 0 else c.stream.energy
      count := if n ≤ c.stream.count then 0 else c.stream.count }
    level := { c.level with
      lastBlock := if n ≤ c.stream.count then loudnessCode (c.stream.energy / n) else c.level.lastBlock } } := by
  unfold measured
  split <;> rfl

/-! ### A sample kept or dropped -/

/-- A dropout run ended where the sample is kept. -/
def CaptureRecords.closed (kept : Bool) (c : CaptureRecords) : CaptureRecords :=
  if kept then c.punched.runEnded else c.punched

/-- A sample through the compare unit, which it passes `kept`, `dropped` or neither. -/
def CaptureRecords.decided (x : Sample) (kept dropped : Bool) (c : CaptureRecords) : CaptureRecords :=
  if kept then (c.closed kept).joined x else if dropped then c.punched.dropped else c.punched

namespace CaptureRecords

variable {x : Sample} {kept dropped : Bool}

/-- The gate and the FIFO's room decide. -/
theorem passed_eq (hkept : kept = ((compared c.stream).1 == .opened && decide (c.stream.fifo.length < 4096)))
    (hdropped : dropped = ((compared c.stream).1 == .opened && decide (4096 ≤ c.stream.fifo.length))) :
    c.passed x = (c.decided x kept dropped).advanced := by
  subst hkept hdropped
  unfold passed
  cases hg : (compared c.stream).1 with
  | shut => rfl
  | opened =>
    by_cases hroom : c.stream.fifo.length < 4096
    · simp [decided, closed, hroom, Config.fifoPlaces]
    · simp [decided, hroom, Config.fifoPlaces, Nat.not_lt.mp hroom]

theorem runEnded_level (c : CaptureRecords) : c.runEnded.level = c.level := by
  unfold runEnded
  split <;> rfl

theorem closed_of_none (h : (if kept then c.stream.run else none) = none) : c.closed kept = c.punched := by
  cases kept with
  | false => rfl
  | true =>
    have run : c.punched.stream.run = none := h
    simp only [closed, runEnded, run, if_true]

theorem closed_of_some {n : Nat} (h : (if kept then c.stream.run else none) = some n) :
    (c.closed kept).take = appendMark ⟨.dropout, c.take.length, n⟩ c.punched.take ∧
      (c.closed kept).port = pushNotice (notice .dropout c.stream.take.val 0 n) c.port := by
  cases kept with
  | false => exact nomatch h
  | true =>
    have run : c.punched.stream.run = some n := h
    simp only [closed, runEnded, run, if_true, c.punched_take_rest.1, true_and]
    rfl

/-- A sample with the live block it may complete. -/
def sampled (x : Sample) (kept dropped : Bool) (n : Nat) (c : CaptureRecords) : CaptureRecords :=
  (c.decided x kept dropped).advanced.measured n

theorem sampled_stream {last : Bool} {energy count n : Nat} (hlast : last = (c.stream.pos == BitVec.allOnes 32))
    (henergy : energy = if kept then c.stream.energy + energyOf (emphasis c.stream.prev x) else c.stream.energy)
    (hcount : count = if kept then c.stream.count + 1 else c.stream.count) :
    (c.sampled x kept dropped n).stream = { c.stream with
      pos := if last then c.stream.pos else c.stream.pos + 1, atLimit := last, gate := (compared c.stream).1
      a := (compared c.stream).2.1, b := (compared c.stream).2.2
      fifo := if kept then c.stream.fifo ++ [x] else c.stream.fifo
      run := if kept then none else if dropped then some (c.stream.run.getD 0 + 1) else c.stream.run
      prev := if kept then x else c.stream.prev
      energy := if n ≤ count then 0 else energy
      count := if n ≤ count then 0 else count
      largest := if kept then max c.stream.largest x.natAbs else c.stream.largest } := by
  subst hlast henergy hcount
  rw [sampled, measured_eq]
  cases kept with
  | true => simp only [advanced, decided, closed, if_true, joined, runEnded_stream]; rfl
  | false => cases dropped <;> rfl

theorem sampled_level {last : Bool} {energy count n : Nat} (hlast : last = (c.stream.pos == BitVec.allOnes 32))
    (henergy : energy = if kept then c.stream.energy + energyOf (emphasis c.stream.prev x) else c.stream.energy)
    (hcount : count = if kept then c.stream.count + 1 else c.stream.count) :
    (c.sampled x kept dropped n).level = { c.level with
      gate := (compared c.stream).1, position := if last then c.stream.pos else c.stream.pos + 1
      peak := if kept then amplitudeCode (max c.stream.largest x.natAbs) else c.level.peak
      lastBlock := if n ≤ count then loudnessCode (energy / n) else c.level.lastBlock } := by
  subst hlast henergy hcount
  rw [sampled, measured_eq]
  cases kept with
  | true => simp only [advanced, decided, closed, if_true, joined, runEnded_stream, runEnded_level]; rfl
  | false => cases dropped <;> rfl

theorem sampled_take {n : Nat} (both : (kept && dropped) = false) :
    (c.sampled x kept dropped n).take = { (c.closed kept).take with
      length := if kept then c.take.length + 1 else c.take.length
      peak := if kept then amplitudeCode (max c.stream.largest x.natAbs) else c.take.peak
      dropout := c.take.dropout || dropped
      dropoutTotal := if dropped then min (2 ^ 32 - 1) (c.take.dropoutTotal + 1) else c.take.dropoutTotal } := by
  obtain ⟨length, peak, dropout, total, -⟩ := c.punched_take_rest
  obtain ⟨length', dropout', total', -⟩ := c.punched.runEnded_take_rest
  have largest : c.punched.stream.largest = c.stream.largest := rfl
  rw [sampled, measured_eq]
  cases kept with
  | true =>
    obtain rfl : dropped = false := both
    simp [advanced, decided, closed, joined, runEnded_stream, length, dropout, total, length', dropout', total', largest]
  | false =>
    cases dropped with
    | true => simp [advanced, decided, closed, CaptureRecords.dropped, length, peak, total]
    | false => simp [advanced, decided, closed, ← length, ← peak, ← dropout, ← total]

theorem sampled_port {n : Nat} : (c.sampled x kept dropped n).port = (c.closed kept).port := by
  rw [sampled, measured_eq]
  cases kept with
  | true => rfl
  | false => cases dropped <;> rfl

end CaptureRecords

/-! ### Limits (R36) -/

/-- A stop leaves the slot NONE or CLOSING (R38). -/
theorem stopStream_not_capturing {st : Stream} {r : Take} (reason : StopReason) (h : s.captures[p] = some st)
    (hr : s.takes[st.take] = some r) {st' : Stream} (hst' : (stopStream p reason s).captures[p] = some st') :
    st'.closing = true := by
  by_cases hd : st.fifo = [] ∧ inStore (.stream p) s.store = false
  · rw [stopStream_closed reason h hr hd] at hst'
    exact nomatch (setStream_captures_self ..).symm.trans hst'
  · rw [stopStream_draining reason h hr hd, closing_captures] at hst'
    exact Option.some.inj hst' ▸ rfl

/-- TAKE_FULL before POSITION_LIMIT: a stopped stream meets no further limit. -/
theorem limits_capturing {st : Stream} {r : Take} (h : s.captures[p] = some st) (hr : s.takes[st.take] = some r)
    (hc : st.closing = false) : positionLimitDue p (takeFullDue p s) =
      if 2 ^ 28 ≤ r.length then notify p (notice .takeStopped st.take.val 2 r.length) (stopStream p .takeFull s)
      else if st.atLimit then notify p (notice .takeStopped st.take.val 3 r.length) (stopStream p .positionLimit s)
      else s := by
  rw [takeFullDue_capturing h hr hc]
  split
  · exact positionLimitDue_not_capturing fun st' hst' => stopStream_not_capturing .takeFull h hr hst'
  · exact positionLimitDue_capturing h hr hc

/-! ### A sample in its transaction (R28) -/

theorem toNat_append_byte {w : Nat} (x : BitVec w) (b : Byte) : (x ++ b).toNat = x.toNat * 256 + b.toNat := by
  rw [BitVec.toNat_append, ← Nat.shiftLeft_add_eq_or_of_lt b.isLt, Nat.shiftLeft_eq]

theorem sampleOf_bytes (low middle high : Byte) : sampleOf (low, middle, high) = (high ++ middle ++ low).toInt := by
  refine congrArg BitVec.toInt (BitVec.eq_of_toNat_eq ?_)
  have hlow := low.isLt
  have hmiddle := middle.isLt
  have hhigh := high.isLt
  simp only [fieldAt, toNat_append_byte, BitVec.toNat_ofNat, List.drop_zero, Nat.mul_zero, List.getD_cons_zero,
    List.getD_cons_succ]
  omega

/-- A complete sample within the announced count: the port counts it and sends on, and its stream takes it (R28). -/
theorem exec_captureSample {free announced arrived discarded : Nat} {found : Option (Byte × BitVec 16)}
    (low middle high : Byte) (h : s.ports[p].xfer = .capture free announced arrived found discarded)
    (hlt : arrived < announced) : exec (.captureSample p (low, middle, high)) s =
      .next (commit s (sampleArrives p (high ++ middle ++ low).toInt (modPort p (fun ps => { ps with
        xfer := .capture free announced (arrived + 1) found (discarded + flag (capturingStream s p).isNone)
        sent := clockedOut (ps.sent.length + 3) (u16 free) }) s))) := by
  have h : s.ports[p.val].xfer = .capture free announced arrived found discarded := h
  show execCaptureSample p (low, middle, high) s = _
  simp only [execCaptureSample, Fin.getElem_fin, h, if_pos hlt, sampleOf_bytes]
  simp [countSample, modPort, clockCapture, h]

/-- Three bytes after the announced samples (R28). -/
theorem exec_captureSample_ignored {free announced arrived discarded : Nat} {found : Option (Byte × BitVec 16)}
    (x : Byte × Byte × Byte) (h : s.ports[p].xfer = .capture free announced arrived found discarded)
    (hle : announced ≤ arrived) : exec (.captureSample p x) s =
      .next (setSent p (clockedOut (s.ports[p].sent.length + 3) (u16 free)) s) := by
  show execCaptureSample p x s = _
  simp only [execCaptureSample, h, if_neg (Nat.not_lt.mpr hle), modPort_clockCapture]

theorem sampleArrives_not_capturing {x : Sample} (h : ∀ st, s.captures[p] = some st → st.closing = true) :
    sampleArrives p x s = s := by
  unfold sampleArrives
  split
  · rfl
  · rename_i st hst
    exact if_pos (h st hst)

theorem sampleArrives_withRecords {x : Sample} (hk : c.stream.take = k) (hc : c.stream.closing = false) :
    sampleArrives p x (withRecords p k c s) = positionLimitDue p (takeFullDue p
      (withRecords p k ((c.passed x).measured (blockLength (titleRate s c.take.title))) s)) := by
  obtain ⟨key, closing, title⟩ := c.passed_rest x
  simp only [sampleArrives, withRecords_stream, hc, Bool.false_eq_true, if_false, passSample_withRecords hk,
    liveBlockDue_withRecords (key.trans hk) (closing.trans hc), title]

/-- What the records of a sample leave alone. -/
theorem withRecords_others (p : Port) (c : CaptureRecords) (s : State) {q : Port} (hq : q ≠ p) :
    (withRecords p k c s).captures[q] = s.captures[q] ∧ (withRecords p k c s).levels[q] = s.levels[q] ∧
      (withRecords p k c s).ports[q] = s.ports[q] :=
  ⟨setStream_captures_ne _ _ _ _ hq, by simp [withRecords, modLevel_levels_ne _ _ _ _ hq], modPort_ports_ne _ _ _ _ hq⟩

/-- The limits after a sample (R36). -/
theorem limits_withRecords (hk : c.stream.take = k) (hc : c.stream.closing = false) :
    positionLimitDue p (takeFullDue p (withRecords p k c s)) =
      if 2 ^ 28 ≤ c.take.length then
        notify p (notice .takeStopped k.val 2 c.take.length) (stopStream p .takeFull (withRecords p k c s))
      else if c.stream.atLimit then
        notify p (notice .takeStopped k.val 3 c.take.length) (stopStream p .positionLimit (withRecords p k c s))
      else withRecords p k c s := by
  subst hk
  exact limits_capturing withRecords_stream withRecords_take hc

/-- Settles O18: a sample is a function of four records, whose fields `CaptureRecords` gives by what the gate and the
FIFO's room decide. -/
theorem captureSampleIsGated : Obligations.CaptureSampleIsGated := by
  refine ⟨compared_rows, ?_, ?_⟩
  · intro s p low middle high x free announced arrived discarded found st r r' g kept dropped last closed energy count n
      length hx hlt h hc hr hsample hg hkept hdropped hclosed hr' hlast henergy hcount hn hlength
    subst hg
    have capturing : (capturingStream s p).isNone = false := by rw [capturingStream_of_some h hc]; rfl
    have both : (kept && dropped) = false := by
      rw [hkept, hdropped]
      by_cases hroom : st.fifo.length < 4096 <;> simp [hroom]
    rw [exec_captureSample low middle high hx hlt, capturing, modPort_eq_withRecords h hr, ← hsample]
    set c : CaptureRecords := ⟨st, r, s.levels[p], _⟩
    have pass : (c.passed x).measured n = c.sampled x kept dropped n :=
      congrArg (CaptureRecords.measured n) (c.passed_eq hkept hdropped)
    have stream := c.sampled_stream (dropped := dropped) (n := n) hlast henergy hcount
    have level := c.sampled_level (dropped := dropped) (n := n) hlast henergy hcount
    have take := c.sampled_take (x := x) (n := n) both
    have punch : c.punched.take = r' := c.punched_take.trans hr'.symm
    have hlimit : (c.sampled x kept dropped n).stream.atLimit = last := congrArg Stream.atLimit stream
    have htake : (c.sampled x kept dropped n).take.length = length := (congrArg Take.length take).trans hlength.symm
    have hkey : (c.sampled x kept dropped n).stream.take = st.take := (congrArg Stream.take stream :)
    have ends := limits_withRecords (p := p) (s := s) hkey ((congrArg Stream.closing stream).trans hc)
    rw [hlimit, htake] at ends
    rw [sampleArrives_withRecords (c := c) rfl hc, ← show n = blockLength (titleRate s c.take.title) from hn, pass]
    refine ⟨withRecords p st.take (c.sampled x kept dropped n) s, by rw [ends],
      withRecords_stream.trans (congrArg some stream), withRecords_level.trans level,
      withRecords_take.trans (congrArg some (take.trans ?_)), withRecords_port.trans (c.sampled_port.trans ?_),
      rfl, rfl, rfl, rfl, rfl, rfl, rfl, fun k hk => setTake_takes_ne _ _ _ _ hk, fun q hq => withRecords_others _ _ _ hq⟩
    · rw [hlength]
      cases closed with
      | none => rw [CaptureRecords.closed_of_none hclosed.symm, punch]
      | some m => rw [(CaptureRecords.closed_of_some hclosed.symm).1, punch]
    · cases closed with
      | none => rw [CaptureRecords.closed_of_none hclosed.symm]; rfl
      | some m => exact (CaptureRecords.closed_of_some hclosed.symm).2.trans (pushNotice_transfer ..)
  · intro s p low middle high free announced arrived discarded found hx
    refine ⟨fun hlt h => ?_, fun hle => exec_captureSample_ignored _ hx hle⟩
    rw [exec_captureSample low middle high hx hlt, capturingStream_eq_none h]
    exact congrArg (fun u => (.next (commit s u) : Answer)) (sampleArrives_not_capturing h)

end Sys2Proof.Machine

/-! The three script requests (R47 to R51): O13, O14. -/

namespace Sys2Proof.Machine

variable {s : State} {p : Port} {c : ChapterId} {r : Chapter}

/-! ### The editor's script (R45, R47) -/

theorem editable_editor (h : s.chapters[c] = some r) (hs : r.state = .assembling) (he : r.editor = some p) :
    editable p c s = .ok r := by
  simp [editable, h, hs, he]

theorem setCursor_of_some (h : s.chapters[c] = some r) (n : Nat) :
    setCursor c n s = setChapter c (some { r with cursor := n }) s :=
  modChapter_of_some h _

/-- What a block accepts is answered CLAMPED where a value was clamped (R1). -/
theorem request_acceptOr {k : ReqKind} {ps payload : List Byte} {clamped : Prop} [Decidable clamped] {t : State}
    {act : State → Reply} (h : Takes s p k ps) (hr : act s = acceptOr (decide clamped) payload t) :
    request p k ps act s = Responds p k (if clamped then .clamped else .accepted) payload s t := by
  simp only [request_takes h, hr, acceptOr, decide_eq_true_eq]

/-! ### SCRIPT_POINT and SCRIPT_READ -/

theorem pointScript_sent (h : s.chapters[c] = some r) (hs : r.state = .assembling) (he : r.editor = some p) (b : Byte) :
    pointScript p (u8 c.val ++ [b]) s = acceptOr (decide (31 < b.toNat)) (u8 (min b.toNat 31))
      (setChapter c (some { r with cursor := min b.toNat 31 }) s) := by
  have sent : paramAt (u8 c.val ++ [b]) 1 = b.toNat := by rw [paramAt_u8_succ, paramAt_zero]
  simp only [pointScript, chapterAt_u8, editable_editor h hs he, sent, setCursor_of_some h]
  exact if_neg (by simp)

theorem readScript_sent (h : s.chapters[c] = some r) (hs : r.state = .assembling) (he : r.editor = some p) :
    readScript p (u8 c.val) s =
      if hc : r.cursor < 32 then
        accept (u8 r.cursor ++ stepBytes r.slots[r.cursor]) (setChapter c (some { r with cursor := r.cursor + 1 }) s)
      else accept (u8 32 ++ stepBytes Step.blank) s := by
  simp only [readScript, chapterAt_u8_self, editable_editor h hs he, setCursor_of_some h]
  exact if_neg (by simp)

/-- A blank step is 17 bytes of 0x00 (R51). -/
theorem stepBytes_blank : stepBytes Step.blank = List.replicate 17 0 := rfl

/-- Settles O13: the cursor within 31, and clamped above it; the step at the cursor, and the blank step at 32. -/
theorem scriptPointAndRead : Obligations.ScriptPointAndRead := by
  refine ⟨?_, fun s p c r htakes h hs he => ⟨fun hc => request_accepts htakes ?_, fun hc => request_accepts htakes ?_⟩⟩
  · rintro s p c b r ps rfl htakes h hs he
    have answer := request_acceptOr htakes (pointScript_sent h hs he b)
    refine ⟨fun hb => answer.trans ?_, fun hb => answer.trans ?_⟩
    · rw [if_neg (not_lt.mpr hb), min_eq_left hb]
    · rw [if_pos (Nat.lt_of_succ_le hb), min_eq_right (by omega)]
  · rw [readScript_sent h hs he, dif_pos hc]
  · rw [readScript_sent h hs he, dif_neg (by omega), stepBytes_blank]

/-! ### The step of a SCRIPT_WRITE (R50) -/

theorem u8_toNat (b : Byte) : u8 b.toNat = [b] := by simp [u8]

theorem fieldAt_u32 (w : Word32) (rest : List Byte) : fieldAt (u32 w.toNat ++ rest) 0 4 = w.toNat := by
  have := w.isLt
  simp only [fieldAt, u32, u16, List.cons_append, List.nil_append, List.getD_cons_zero, List.getD_cons_succ,
    BitVec.toNat_ofNat]
  omega

theorem fieldAt_u16 (w : BitVec 16) (rest : List Byte) : fieldAt (u16 w.toNat ++ rest) 0 2 = w.toNat := by
  have := w.isLt
  simp only [fieldAt, u16, List.cons_append, List.nil_append, List.getD_cons_zero, List.getD_cons_succ,
    BitVec.toNat_ofNat]
  omega

theorem clampInt_eq_max_min {lo hi : Int} (h : lo ≤ hi) (v : Int) : clampInt lo hi v = max lo (min hi v) := by
  unfold clampInt
  split <;> [skip; split] <;> omega

/-- A step as SCRIPT_WRITE stores it: an END step blank, a SPLICE without fill, the crossfade and the trim clamped
(R50). -/
def treated (kind : StepKind) (take : TakeId) (a l n : Word32) (xf : BitVec 16) (trim : BitVec 8) : Step :=
  match kind with
  | .finish => Step.blank
  | .splice => ⟨.splice, take, a.toNat, l.toNat, 0, min xf.toNat 9600, max (-120) (min 120 trim.toInt)⟩
  | .tone => ⟨.tone, take, a.toNat, l.toNat, n.toNat, min xf.toNat 9600, max (-120) (min 120 trim.toInt)⟩

/-- The parameter bytes of a SCRIPT_WRITE. -/
def writeBytes (c : ChapterId) (kind : StepKind) (sent : Byte) (a l n : Word32) (xf : BitVec 16) (trim : BitVec 8) :
    List Byte :=
  u8 c.val ++ u8 (stepCode kind) ++ [sent] ++ u32 a.toNat ++ u32 l.toNat ++ u32 n.toNat ++ u16 xf.toNat ++ [trim]

theorem putStep_of_lt {i : Nat} (h : i < 32) (st : Step) (slots : Vector Step 32) :
    putStep i st slots = slots.set i st h :=
  dif_pos h

section
variable {kind : StepKind} {sent : Byte} {take : TakeId} {a l n : Word32} {xf : BitVec 16} {trim : BitVec 8}
  {ps : List Byte} (hps : ps = writeBytes c kind sent a l n xf trim)
include hps

/-- The fields of a SCRIPT_WRITE read as they were written. -/
theorem fields_writeBytes : chapterAt ps 0 = some c ∧ ps.length = 18 ∧ paramAt ps 1 = stepCode kind ∧
    paramAt ps 2 = sent.toNat ∧ fieldAt ps 3 4 = a.toNat ∧ fieldAt ps 7 4 = l.toNat ∧ fieldAt ps 11 4 = n.toNat ∧
    fieldAt ps 15 2 = xf.toNat ∧ signed8At ps 17 = trim.toInt := by
  have hkind : stepCode kind < 256 := by cases kind <;> decide
  subst hps
  simp only [writeBytes, List.append_assoc]
  refine ⟨chapterAt_u8 .., rfl, ?_, ?_, ?_, ?_, ?_, ?_, rfl⟩
  · rw [paramAt_u8_succ, paramAt_u8 hkind]
  · rw [paramAt_u8_succ, paramAt_u8_succ, List.singleton_append, paramAt_zero]
  all_goals rw [← u8_toNat sent, fieldAt_u8_succ, fieldAt_u8_succ, fieldAt_u8_succ]
  · rw [fieldAt_u32]
  · rw [fieldAt_u32_add, fieldAt_u32]
  · rw [fieldAt_u32_add, fieldAt_u32_add, fieldAt_u32]
  · rw [fieldAt_u32_add, fieldAt_u32_add, fieldAt_u32_add, fieldAt_u16]

/-- The step of a SCRIPT_WRITE, treated by its kind, and whether a value of it was clamped (R50). -/
theorem stepSent_writeBytes (hsent : kind = .finish ∨ sent.toNat = take.val) :
    stepSent ps = some (treated kind take a l n xf trim,
      decide (kind ≠ .finish ∧ (9600 < xf.toNat ∨ trim.toInt < -120 ∨ 120 < trim.toInt))) := by
  obtain ⟨-, -, hkind, htake, ha, hl, hn, hxf, htrim⟩ := fields_writeBytes hps
  have clamped : (trim.toInt < -120 ∨ 120 < trim.toInt ∨ 9600 < xf.toNat) ↔
      (9600 < xf.toNat ∨ trim.toInt < -120 ∨ 120 < trim.toInt) := by omega
  have takeSent (h : sent.toNat = take.val) : takeAt ps 2 = some take := by rw [takeAt, htake, h, inTable_val]
  simp only [stepSent, hkind, ha, hl, hn, hxf, htrim, clampInt_eq_max_min (show (-120 : Int) ≤ 120 by decide), clamped]
  cases kind with
  | finish => rfl
  | splice => simp [stepCode, treated, takeSent (hsent.resolve_left (by decide))]
  | tone => simp [stepCode, treated, takeSent (hsent.resolve_left (by decide))]

/-- SCRIPT_WRITE by the editor, after the parameter checks (R49). -/
theorem writeScript_sent (h : s.chapters[c] = some r) (hs : r.state = .assembling) (he : r.editor = some p)
    (hsent : kind = .finish ∨ sent.toNat = take.val) :
    (32 ≤ r.cursor → writeScript p ps s = refuse .scriptFull s) ∧
    ∀ hc : r.cursor < 32, writeScript p ps s =
      acceptOr (decide (kind ≠ .finish ∧ (9600 < xf.toNat ∨ trim.toInt < -120 ∨ 120 < trim.toInt)))
        (u8 r.cursor ++ stepBytes (treated kind take a l n xf trim))
        (setChapter c (some { r with
          slots := r.slots.set r.cursor (treated kind take a l n xf trim) hc, cursor := r.cursor + 1 }) s) := by
  obtain ⟨hid, hlength, -⟩ := fields_writeBytes hps
  simp only [writeScript, hid, hlength, stepSent_writeBytes hps hsent, editable_editor h hs he, modChapter_of_some h]
  exact ⟨fun hfull => if_pos hfull, fun hc => by rw [← putStep_of_lt hc]; exact if_neg (not_le.mpr hc)⟩

end

/-- Settles O14: SCRIPT_FULL at a cursor of 32; below it the slot at the cursor takes the treated step. -/
theorem scriptWriteStoresStep : Obligations.ScriptWriteStoresStep := by
  intro s p c r kind sent take a l n xf trim st ps hsent hps hst htakes h hs he
  have hst : st = treated kind take a l n xf trim := hst.trans (by cases kind <;> rfl)
  obtain ⟨full, stored⟩ := writeScript_sent hps h hs he hsent
  refine ⟨fun hfull => request_refuses htakes (full hfull), fun hc => ?_⟩
  rw [hst]
  exact request_acceptOr htakes (stored hc)

end Sys2Proof.Machine

/-! Validation at close: the checks of one step, and the walk to the first failure (R53 to R57, R61): O10. -/

namespace Sys2Proof.Machine

variable {s : State} {title : TitleNo} {before first : Option Nat} {st : Step} {r : Take} {steps : List Step}

/-! ### The checks of one step (R54 to R56) -/

theorem rangeBad_iff (st : Step) (n : Nat) : rangeBad st n = true ↔ 2 ^ 28 - 1 < st.start ∨ 2 ^ 28 - 1 < st.len ∨
    st.len = 0 ∨ n < st.start + st.len ∨ (st.kind = .tone ∧ (2 ^ 28 - 1 < st.fill ∨ st.fill = 0)) := by
  simp only [rangeBad, Bool.or_eq_true, Bool.and_eq_true, decide_eq_true_eq, beq_iff_eq, or_assoc]
  rfl

theorem stepBad_noTake (h : s.takes[st.take] = none) : stepBad s title before st = some (1, st.take.val) := by
  simp [stepBad, h]

section
variable (h : s.takes[st.take] = some r)
include h

theorem stepBad_otherTitle (ht : r.title ≠ title) : stepBad s title before st = some (2, r.title.val) := by
  simp [stepBad, h, ht]

theorem stepBad_takeOpen (ht : r.title = title) (hs : r.state ≠ .closed) :
    stepBad s title before st = some (3, r.length) := by
  simp [stepBad, h, ht, hs]

theorem stepBad_range (ht : r.title = title) (hs : r.state = .closed) (hr : rangeBad st r.length = true) :
    stepBad s title before st = some (4, r.length) := by
  simp [stepBad, h, ht, hs, hr]

/-- A step whose take and range pass is left to the crossfade checks. -/
theorem stepBad_crossfade (ht : r.title = title) (hs : r.state = .closed) (hr : ¬rangeBad st r.length = true) :
    stepBad s title before st = (crossfadeBad before st).map fun v => (5, v) := by
  simp [stepBad, h, ht, hs, hr]

end

/-- The crossfade checks of a script's first step (R56). -/
theorem crossfadeBad_first (st : Step) : crossfadeBad none st = if 0 < st.xf then some 0 else none := by
  by_cases h : 0 < st.xf
  · simp [crossfadeBad, h]
  · simp [crossfadeBad, Nat.eq_zero_of_not_pos h]

/-- The crossfade checks of a step after one that contributes `n` samples (R56). -/
theorem crossfadeBad_after (n : Nat) (st : Step) : crossfadeBad (some n) st =
    if stepLength st < st.xf then some (stepLength st) else if n < st.xf then some n else none := by
  simp [crossfadeBad]

/-! ### The walk (R53) -/

/-- The net contribution of the step before step `k`, where `first` is that of the step before the first. -/
def contributionBefore (first : Option Nat) (steps : List Step) : Nat → Option Nat
  | 0 => first
  | k + 1 => (steps[k]?).map netContribution

theorem contributionBefore_cons_succ (k : Nat) : contributionBefore first (st :: steps) (k + 1) =
    contributionBefore (some (netContribution st)) steps k := by
  cases k <;> rfl

/-- The steps before step `k` pass their checks. -/
def PassesBefore (s : State) (title : TitleNo) (first : Option Nat) (steps : List Step) (k : Nat) : Prop :=
  ∀ j st, j < k → steps[j]? = some st → stepBad s title (contributionBefore first steps j) st = none

theorem passesBefore_cons_succ {k : Nat} : PassesBefore s title first (st :: steps) (k + 1) ↔
    stepBad s title first st = none ∧ PassesBefore s title (some (netContribution st)) steps k := by
  constructor
  · exact fun h => ⟨h 0 st k.succ_pos rfl, fun j x hj hx => by
      rw [← contributionBefore_cons_succ]
      exact h (j + 1) x (Nat.succ_lt_succ hj) hx⟩
  · rintro ⟨hst, h⟩ (_ | j) x hj hx
    · cases hx
      exact hst
    · rw [contributionBefore_cons_succ]
      exact h j x (Nat.lt_of_succ_lt_succ hj) hx

theorem checkSteps_cons_passes {i sum : Nat} (h : stepBad s title first st = none) :
    checkSteps s title i first sum (st :: steps) =
      checkSteps s title (i + 1) (some (netContribution st)) (sum + netContribution st) steps := by
  rw [checkSteps, h]

/-- The walk stops at the first step that fails. -/
theorem checkSteps_fails {i k sum reason value : Nat} (hpass : PassesBefore s title first steps k)
    (hk : steps[k]? = some st) (hbad : stepBad s title (contributionBefore first steps k) st = some (reason, value)) :
    checkSteps s title i first sum steps = .error ⟨i + k, reason, value⟩ := by
  induction k generalizing i first sum steps with
  | zero =>
    obtain ⟨rest, rfl⟩ : ∃ rest, steps = st :: rest := by
      cases steps <;> simp_all
    rw [checkSteps, show stepBad s title first st = _ from hbad]
    rfl
  | succ k ih =>
    cases steps with
    | nil => simp at hk
    | cons x rest =>
      rw [passesBefore_cons_succ] at hpass
      obtain ⟨hx, hrest⟩ := hpass
      rw [contributionBefore_cons_succ] at hbad
      rw [checkSteps_cons_passes hx, ih hrest hk hbad, Nat.add_assoc, Nat.add_comm 1]

/-- A walk without a failure answers the sum of the net contributions (R57, R61). -/
theorem checkSteps_passes {i sum : Nat} (h : PassesBefore s title first steps steps.length) :
    checkSteps s title i first sum steps = .ok (sum + (steps.map netContribution).sum) := by
  induction steps generalizing i first sum with
  | nil => rfl
  | cons st rest ih =>
    rw [List.length_cons, passesBefore_cons_succ] at h
    obtain ⟨hst, hrest⟩ := h
    rw [checkSteps_cons_passes hst, ih hrest, List.map_cons, List.sum_cons, Nat.add_assoc]

/-! ### The obligation -/

theorem validate_fails {slots : Vector Step 32} {e : ScriptFault}
    (h : checkSteps s title 0 none 0 (scriptSteps slots) = .error e) : validate s title slots = .error e := by
  rw [validate, h]

/-- The whole-script checks of a script whose steps pass theirs (R57). -/
theorem validate_passes {slots : Vector Step 32} {n : Nat}
    (h : checkSteps s title 0 none 0 (scriptSteps slots) = .ok n) : validate s title slots =
      if scriptSteps slots = [] then .error ⟨0, 6, 0⟩
      else if n < blockLength (titleRate s title) then .error ⟨(scriptSteps slots).length, 7, n⟩
      else if 2 ^ 28 < n then .error ⟨(scriptSteps slots).length, 8, min n 0xFFFFFFFF⟩
      else .ok n := by
  rw [validate, h]
  rfl

/-- Settles O10: the checks of a step one after the other, and the walk by induction on the steps before the failure. -/
theorem validationFindsFirstFailure : Obligations.ValidationFindsFirstFailure := by
  refine ⟨fun s title before st => ⟨stepBad_noTake, ?_⟩, ?_⟩
  · rintro r len range h hlen hrange
    have hlen : len = stepLength st := hlen
    rw [← rangeBad_iff] at hrange
    refine ⟨stepBad_otherTitle h, stepBad_takeOpen h, fun ht hs hr => stepBad_range h ht hs (hrange.mp hr),
      fun ht hs hr => ?_⟩
    rw [stepBad_crossfade h ht hs (fun hbad => hr (hrange.mpr hbad)), hlen]
    refine ⟨?_, ?_, ?_, ?_, ?_⟩
    · rintro rfl hxf
      rw [crossfadeBad_first, if_pos hxf, Option.map_some]
    · rintro n rfl hxf
      rw [crossfadeBad_after, if_pos hxf, Option.map_some]
    · rintro n rfl hle hxf
      rw [crossfadeBad_after, if_neg (not_lt.mpr hle), if_pos hxf, Option.map_some]
    · rintro rfl hxf
      rw [crossfadeBad_first, if_neg (by omega), Option.map_none]
    · rintro n rfl hle hxf
      rw [crossfadeBad_after, if_neg (not_lt.mpr hle), if_neg (not_lt.mpr hxf), Option.map_none]
  · rintro s title slots steps before n rfl rfl hbefore
    have hbefore (k : Nat) : before k = contributionBefore none (scriptSteps slots) k := by
      subst hbefore
      cases k <;> rfl
    simp only [hbefore]
    refine ⟨fun k st reason value hk hbad hpass => ?_, fun hpass => ?_⟩
    · rw [validate_fails (checkSteps_fails hpass hk hbad), Nat.zero_add]
    · have sum := checkSteps_passes (i := 0) (sum := 0) (first := none) (s := s) (title := title)
        (fun j st _ => hpass j st)
      rw [Nat.zero_add] at sum
      rw [validate_passes sum]
      refine ⟨fun h => if_pos h, fun h hn => ?_, fun h hn hlim => ?_, fun h hn hlim => ?_⟩
      · rw [if_neg h, if_pos hn]
      · rw [if_neg h, if_neg (not_lt.mpr hn), if_pos hlim]
      · rw [if_neg h, if_neg (not_lt.mpr hn), if_neg (not_lt.mpr hlim)]

end Sys2Proof.Machine

/-! The sequence x that a lane produces sample by sample is the one that R60 lays down step by step (R58 to R62): O60. -/

namespace Sys2Proof.Machine

variable {raw : Nat → Nat → Sample} {k before n : Nat} {placed : List Sample} {st : Step} {rest steps : List Step}

/-! ### One step laid down (R60) -/

@[simp] theorem length_material (take : Nat → Sample) (st : Step) : (material take st).length = stepLength st := by
  simp [material]

theorem getElem?_material {take : Nat → Sample} {j : Nat} (h : j < stepLength st) :
    (material take st)[j]? = some (trimmed st.trim (take (takeSample st j))) := by
  simp [material, h]

section
variable {xf : Nat} {v : List Sample} (hplaced : xf ≤ placed.length)
include hplaced

theorem length_layDown (hv : xf ≤ v.length) : (layDown placed xf v).length = placed.length + (v.length - xf) := by
  simp only [layDown, List.length_append, List.length_take, List.length_map, List.length_range, List.length_drop]
  omega

/-- Up to the crossfade the sequence stays. -/
theorem getElem?_layDown_kept (h : n < placed.length - xf) : (layDown placed xf v)[n]? = placed[n]? := by
  rw [layDown, List.append_assoc, List.getElem?_append_left (by rw [List.length_take]; omega), List.getElem?_take_of_lt h]

/-- In the crossfade the sample placed and the incoming one are blended. -/
theorem getElem?_layDown_blended (h : placed.length - xf ≤ n) (hn : n < placed.length) :
    (layDown placed xf v)[n]? =
      some (blended xf (n + xf - placed.length) (placed.getD n 0) (v.getD (n + xf - placed.length) 0)) := by
  have start : (placed.take (placed.length - xf)).length = placed.length - xf := by rw [List.length_take]; omega
  have place : n - (placed.length - xf) = n + xf - placed.length := by omega
  have index : placed.length - xf + (n + xf - placed.length) = n := by omega
  have inside : n + xf - placed.length < xf := by omega
  rw [layDown, List.append_assoc, List.getElem?_append_right (by omega), start, place,
    List.getElem?_append_left (by simpa using inside), List.getElem?_map, List.getElem?_range inside, Option.map_some, index]

/-- After the crossfade the incoming step's material follows. -/
theorem getElem?_layDown_appended (h : placed.length ≤ n) :
    (layDown placed xf v)[n]? = v[xf + (n - placed.length)]? := by
  have front : (placed.take (placed.length - xf) ++ (List.range xf).map fun i =>
      blended xf i (placed.getD (placed.length - xf + i) 0) (v.getD i 0)).length = placed.length := by
    rw [List.length_append, List.length_take, List.length_map, List.length_range]
    omega
  rw [layDown, List.getElem?_append_right (by omega), front, List.getElem?_drop]

end

/-! ### What the later steps leave -/

/-- With crossfades that pass R56 a step adds its net contribution (R61). -/
theorem length_layDown_material (hfit : crossfadesFit before (st :: rest)) (hb : before ≤ placed.length) :
    (layDown placed st.xf (material (raw k) st)).length = placed.length + netContribution st := by
  obtain ⟨hlen, hxf, -⟩ := hfit
  rw [length_layDown (hxf.trans hb) (by simpa using hlen), length_material, netContribution]

/-- The length of x is the sum of the net contributions (R61). -/
theorem length_laidDown (hfit : crossfadesFit before steps) (hb : before ≤ placed.length) :
    (laidDown raw k placed steps).length = placed.length + (steps.map netContribution).sum := by
  induction steps generalizing k before placed with
  | nil => rfl
  | cons st rest ih =>
    have hlen := length_layDown_material (raw := raw) (k := k) hfit hb
    obtain ⟨-, -, hrest⟩ := hfit
    rw [laidDown, ih hrest (by omega), hlen, List.map_cons, List.sum_cons, Nat.add_assoc]

/-- A crossfade reaches back no further than the previous step's net contribution, so what stood before it stays. -/
theorem getElem?_laidDown_kept (hfit : crossfadesFit before steps) (hb : before ≤ placed.length)
    (hn : n < placed.length - before) : (laidDown raw k placed steps)[n]? = placed[n]? := by
  induction steps generalizing k before placed with
  | nil => rfl
  | cons st rest ih =>
    have hlen := length_layDown_material (raw := raw) (k := k) hfit hb
    obtain ⟨-, hxf, hrest⟩ := hfit
    rw [laidDown, ih hrest (by omega) (by omega), getElem?_layDown_kept (by omega) (by omega)]

/-- What the sequence holds where a step is laid down is changed by that step alone. -/
theorem getElem?_laidDown_cons (hfit : crossfadesFit before (st :: rest)) (hb : before ≤ placed.length)
    (hn : n < placed.length) :
    (laidDown raw k placed (st :: rest))[n]? = (layDown placed st.xf (material (raw k) st))[n]? := by
  have hlen := length_layDown_material (raw := raw) (k := k) hfit hb
  obtain ⟨-, -, hrest⟩ := hfit
  rw [laidDown, getElem?_laidDown_kept hrest (by omega) (by omega)]

/-! ### The draws of an index (R60, R62) -/

section
variable {base : Nat}

/-- Past a step's contribution an index draws on the steps after it. -/
theorem drawsFrom_later (h : base + netContribution st ≤ n) :
    drawsFrom k base (st :: rest) n = drawsFrom (k + 1) (base + netContribution st) rest n :=
  if_neg (not_lt.mpr h)

/-- In the last step's contribution an index draws on that step alone. -/
theorem drawsFrom_last (h : n < base + netContribution st) :
    drawsFrom k base [st] n = [(k, st.xf + (n - base))] :=
  if_pos h

/-- Before the next step's crossfade an index draws on its own step alone. -/
theorem drawsFrom_plain {nx : Step} (h : n + nx.xf < base + netContribution st) :
    drawsFrom k base (st :: nx :: rest) n = [(k, st.xf + (n - base))] :=
  (if_pos (by omega)).trans (congrArg _ (if_neg (not_le.mpr h)))

/-- In the next step's crossfade an index draws on both steps. -/
theorem drawsFrom_blended {nx : Step} (h : n < base + netContribution st)
    (hnx : base + netContribution st ≤ n + nx.xf) :
    drawsFrom k base (st :: nx :: rest) n =
      [(k, st.xf + (n - base)), (k + 1, n + nx.xf - (base + netContribution st))] :=
  (if_pos h).trans (congrArg _ (if_pos hnx))

end

/-! ### The sample that draws make -/

/-- A material sample of step `k` of a script, trimmed (R58, R59). -/
def drawnValue (raw : Nat → Nat → Sample) (steps : List Step) (d : Nat × Nat) : Option Sample :=
  steps[d.1]?.map fun st => trimmed st.trim (raw d.1 (takeSample st d.2))

/-- The sample that an index draws: nothing, one material sample, or two blended (R60). -/
def drawnSample (raw : Nat → Nat → Sample) (steps : List Step) : List (Nat × Nat) → Option Sample
  | [] => none
  | [d] => drawnValue raw steps d
  | d :: e :: _ => do
    let prev ← drawnValue raw steps d
    let v ← drawnValue raw steps e
    let st ← steps[e.1]?
    return blended st.xf e.2 prev v

theorem assembledSample_eq_drawnSample (raw : Nat → Nat → Sample) (steps : List Step) (n : Nat) :
    assembledSample (fun k i => some (raw k i)) steps n = drawnSample raw steps (draws steps n) := by
  have value (d : Nat × Nat) : (do
      let st ← steps[d.1]?
      let x ← some (raw d.1 (takeSample st d.2))
      return trimmed st.trim x) = drawnValue raw steps d := by
    rw [drawnValue]
    cases steps[d.1]? <;> rfl
  rw [assembledSample]
  simp only [value]
  rcases draws steps n with _ | ⟨d, _ | ⟨e, more⟩⟩ <;> rfl

/-- A material sample that a step holds, as the draws find it. -/
theorem drawnValue_eq_getElem? {j : Nat} (hk : steps[k]? = some st) (hj : j < stepLength st) :
    drawnValue raw steps (k, j) = (material (raw k) st)[j]? := by
  rw [getElem?_material hj, drawnValue, hk, Option.map_some]

theorem drawnSample_pair {d e : Nat × Nat} {x y : Sample} (hd : drawnValue raw steps d = some x)
    (he : drawnValue raw steps e = some y) (hst : steps[e.1]? = some st) :
    drawnSample raw steps [d, e] = some (blended st.xf e.2 x y) := by
  simp [drawnSample, hd, he, hst]

theorem getElem?_eq_some_getD {xs : List Sample} (h : n < xs.length) : xs[n]? = some (xs.getD n 0) := by
  rw [List.getElem?_eq_getElem h, List.getD_eq_getElem _ _ h]

/-! ### The obligation -/

/-- From the end of what is placed on, the sequence that the steps from step `k` on lay down is the one that they draw.
An index in step `k`'s contribution is its own material sample, blended where the next step's crossfade covers it. -/
theorem getElem?_laidDown_drawn {all : List Step} (hall : all.drop k = steps) (hfit : crossfadesFit before steps)
    (hb : before ≤ placed.length) (hn : placed.length ≤ n) :
    (laidDown raw k placed steps)[n]? = drawnSample raw all (drawsFrom k placed.length steps n) := by
  induction steps generalizing k before placed with
  | nil => exact List.getElem?_eq_none hn
  | cons st rest ih =>
    have hlen := length_layDown_material (raw := raw) (k := k) hfit hb
    obtain ⟨hst, hxf, hrest⟩ := hfit
    have hnext : all.drop (k + 1) = rest := by rw [← List.drop_drop, hall, List.drop_one, List.tail_cons]
    have head {j : Nat} {x : Step} {xs : List Step} (h : all.drop j = x :: xs) : all[j]? = some x := by
      rw [← List.head?_drop, h, List.head?_cons]
    rw [laidDown]
    by_cases hin : n < placed.length + netContribution st
    · have own : (layDown placed st.xf (material (raw k) st))[n]? =
          drawnValue raw all (k, st.xf + (n - placed.length)) := by
        rw [getElem?_layDown_appended (hxf.trans hb) hn,
          drawnValue_eq_getElem? (head hall) (by rw [netContribution] at hin; omega)]
      cases rest with
      | nil => rwa [drawsFrom_last hin]
      | cons nx more =>
        rw [getElem?_laidDown_cons hrest (by omega) (by omega)]
        obtain ⟨hnx, hnxf, -⟩ := hrest
        by_cases hblend : placed.length + netContribution st ≤ n + nx.xf
        · have incoming := drawnValue_eq_getElem? (raw := raw) (head hnext)
            (j := n + nx.xf - (placed.length + netContribution st)) (by omega)
          rw [drawsFrom_blended hin hblend,
            drawnSample_pair (own.symm.trans (getElem?_eq_some_getD (by omega)))
              (incoming.trans (getElem?_eq_some_getD (by rw [length_material]; omega))) (head hnext),
            getElem?_layDown_blended (by omega) (by omega) (by omega), hlen]
        · rw [drawsFrom_plain (not_le.mp hblend), getElem?_layDown_kept (by omega) (by omega)]
          exact own
    · rw [drawsFrom_later (not_lt.mp hin), ih hnext hrest (by omega) (by omega), hlen]

/-- Settles O60: both sequences have the same sample at each index, by induction on the steps. -/
theorem assembledSequenceIsLaidDown : Obligations.AssembledSequenceIsLaidDown := by
  intro raw steps hfit
  refine ⟨by simpa using length_laidDown hfit (placed := []) le_rfl, fun n => ?_⟩
  rw [assembledSample_eq_drawnSample, draws]
  exact (getElem?_laidDown_drawn (placed := []) rfl hfit le_rfl n.zero_le).symm

end Sys2Proof.Machine

/-! The pages in the program buffers (R75, R76): what finds the page of a source, what changes it, and the law of
pages as a property of the two buffers, of the array's operation and of the sources at work. -/

namespace Sys2Proof.Machine

variable {s t : State} {st : Store} {src w : Source} {target : Target}

/-! ### The page of a source -/

/-- What a buffer's LOADED page waits for, where the page is of the source. -/
def targetOf (src : Source) (b : Buffer) : Option Target :=
  match b with
  | .loaded w _ _ target => if w = src then some target else none
  | _ => none

/-- A LOADED page of the source waits for something else; every other page stays. -/
def retargeted (src : Source) (target : Target) (b : Buffer) : Buffer :=
  match b with
  | .loaded w page bytes old => if w = src then .loaded w page bytes target else .loaded w page bytes old
  | b => b

theorem targetOf_eq_some {b : Buffer} :
    targetOf src b = some target ↔ ∃ page bytes, b = .loaded src page bytes target := by
  cases b with
  | loaded w page bytes old =>
    by_cases hw : w = src
    · simp [targetOf, hw]
    · simp [targetOf, hw]
  | _ => simp [targetOf]

/-- X is looked at before Y. -/
theorem loadedBuffer_eq (src : Source) (st : Store) : loadedBuffer src st =
    ((targetOf src st.buffers[(0 : Fin 2)]).map fun t => ((0 : Fin 2), t)).or
      ((targetOf src st.buffers[(1 : Fin 2)]).map fun t => ((1 : Fin 2), t)) := by
  have one : loadedBuffer src st = allBuffers.findSome? fun i => (targetOf src st.buffers[i]).map fun t => (i, t) := by
    unfold loadedBuffer
    congr 1
    funext i
    unfold targetOf
    rcases st.buffers[i] with _ | ⟨w, _, _, target⟩ | _
    · rfl
    · by_cases hw : w = src <;> simp [hw]
    · rfl
  rw [one, allBuffers, List.findSome?_cons, List.findSome?_cons, List.findSome?_nil]
  cases targetOf src st.buffers[(0 : Fin 2)] <;> cases targetOf src st.buffers[(1 : Fin 2)] <;> rfl

theorem loadedBuffer_some {i : Fin 2} (h : loadedBuffer src st = some (i, target)) :
    ∃ page bytes, st.buffers[i] = .loaded src page bytes target := by
  rw [loadedBuffer_eq, Option.or_eq_some_iff] at h
  rcases h with h | ⟨-, h⟩ <;>
    obtain ⟨t, ht, he⟩ := Option.map_eq_some_iff.mp h <;> cases he <;> exact targetOf_eq_some.mp ht

/-- A page that is in neither buffer is not found. -/
theorem loadedBuffer_eq_none (h : ∀ i : Fin 2, targetOf src st.buffers[i] = none) : loadedBuffer src st = none := by
  rw [loadedBuffer_eq, h 0, h 1]
  rfl

/-- The only page of a source is found. -/
theorem loadedBuffer_of_only {i : Fin 2} (hi : targetOf src st.buffers[i] = some target)
    (hk : ∀ k, k ≠ i → targetOf src st.buffers[k] = none) : loadedBuffer src st = some (i, target) := by
  rw [loadedBuffer_eq]
  fin_cases i
  · have hi : targetOf src st.buffers[(0 : Fin 2)] = some target := hi
    rw [hi]
    rfl
  · have hi : targetOf src st.buffers[(1 : Fin 2)] = some target := hi
    rw [hi, hk 0 (by decide)]
    rfl

theorem waitsForBlock_iff : waitsForBlock src st = true ↔
    ∃ i target, loadedBuffer src st = some (i, target) ∧ (target = .unposted ∨ target = .posted) := by
  unfold waitsForBlock
  rcases loadedBuffer src st with _ | ⟨i, target⟩
  · simp
  · cases target <;> simp

/-- A source whose allocation waits has a LOADED page that no erase has been started for (R73, R74). -/
theorem loaded_of_waitsForBlock (h : waitsForBlock src st = true) :
    ∃ (i : Fin 2) (target : Target), targetOf src st.buffers[i] = some target ∧ target ≠ .erasing := by
  obtain ⟨i, target, hl, ht⟩ := waitsForBlock_iff.mp h
  obtain ⟨page, bytes, hb⟩ := loadedBuffer_some hl
  exact ⟨i, target, targetOf_eq_some.mpr ⟨page, bytes, hb⟩, by rcases ht with rfl | rfl <;> simp⟩

/-- A source has a page in the store where a buffer holds one of it that has not gone. -/
theorem inStore_iff : inStore src st = true ↔ ∃ i : Fin 2, pageSource st.buffers[i] = some src := by
  have one : inStore src st = allBuffers.any fun i => pageSource st.buffers[i] == some src := by
    unfold inStore
    congr 1
    funext i
    unfold pageSource
    rcases st.buffers[i] with _ | _ | ⟨w, gone, _, _, _⟩
    · rfl
    · rfl
    · cases gone <;> simp
  have all (i : Fin 2) : i ∈ allBuffers := by fin_cases i <;> simp [allBuffers]
  rw [one, List.any_eq_true]
  simp only [beq_iff_eq, all, true_and]

theorem inStore_eq_false : inStore src st = false ↔ ∀ i : Fin 2, pageSource st.buffers[i] ≠ some src := by
  rw [← Bool.not_eq_true, inStore_iff, not_exists]

theorem pageSource_of_targetOf {b : Buffer} (h : targetOf src b = some target) : pageSource b = some src := by
  obtain ⟨page, bytes, rfl⟩ := targetOf_eq_some.mp h
  rfl

theorem targetOf_of_pageSource_ne {b : Buffer} (h : pageSource b ≠ some src) : targetOf src b = none :=
  Option.eq_none_iff_forall_ne_some.mpr fun _ ht => h (pageSource_of_targetOf ht)

/-! ### Pages retargeted, loaded, abandoned and reposted -/

theorem setTarget_buffers (src : Source) (target : Target) (st : Store) (i : Fin 2) :
    (setTarget src target st).buffers[i] = retargeted src target st.buffers[i] := by
  unfold setTarget
  rw [foldl_modBuffer_buffers]
  unfold retargeted
  rcases st.buffers[i] with _ | _ | _ <;> rfl

@[simp] theorem setTarget_erased (src target st) : (setTarget src target st).erased = st.erased := rfl
@[simp] theorem setTarget_dirty (src target st) : (setTarget src target st).dirty = st.dirty := rfl
@[simp] theorem setTarget_array (src target st) : (setTarget src target st).array = st.array := rfl
@[simp] theorem setTarget_sweep (src target st) : (setTarget src target st).sweep = st.sweep := rfl

theorem retargeted_loaded (page : Nat) (bytes : List Byte) (old : Target) :
    retargeted src target (.loaded src page bytes old) = .loaded src page bytes target := if_pos rfl

theorem retargeted_of_ne {b : Buffer} (h : pageSource b ≠ some src) : retargeted src target b = b := by
  cases b with
  | loaded w page bytes old => exact if_neg fun hw => h (congrArg some hw)
  | _ => rfl

@[simp] theorem pageSource_retargeted (b : Buffer) : pageSource (retargeted src target b) = pageSource b := by
  cases b with
  | loaded w page bytes old => by_cases hw : w = src <;> simp [retargeted, hw, pageSource]
  | _ => rfl

theorem targetOf_retargeted (b : Buffer) : targetOf w (retargeted src target b) =
    if w = src then (targetOf w b).map (fun _ => target) else targetOf w b := by
  cases b with
  | loaded x page bytes old =>
    by_cases hx : x = src
    · by_cases hw : w = src
      · simp [retargeted, targetOf, hx, hw]
      · simp [retargeted, targetOf, hx, hw, Ne.symm hw]
    · by_cases hw : w = src <;> simp [retargeted, targetOf, hx, hw]
  | _ => simp [retargeted, targetOf]

/-- The page of the retargeted source is found where it was found before, waiting for the new target. -/
theorem loadedBuffer_setTarget_self (src : Source) (target : Target) (st : Store) :
    loadedBuffer src (setTarget src target st) = (loadedBuffer src st).map fun x => (x.1, target) := by
  rw [loadedBuffer_eq, loadedBuffer_eq, setTarget_buffers, setTarget_buffers, targetOf_retargeted, targetOf_retargeted,
    if_pos rfl, if_pos rfl]
  cases targetOf src st.buffers[(0 : Fin 2)] <;> cases targetOf src st.buffers[(1 : Fin 2)] <;> rfl

theorem modBuffer_buffers_self (i : Fin 2) (f : Buffer → Buffer) (st : Store) :
    (modBuffer i f st).buffers[i] = f st.buffers[i] := by simp [modBuffer]

theorem modBuffer_buffers_ne {i k : Fin 2} (h : k ≠ i) (f : Buffer → Buffer) (st : Store) :
    (modBuffer i f st).buffers[k] = st.buffers[k] := by
  have hv : i.val ≠ k.val := fun e => h (Fin.ext e.symm)
  simp [modBuffer, hv]

theorem pageSource_abandonPage (b : Buffer) :
    pageSource (abandonPage w b) = if pageSource b = some w then none else pageSource b := by
  cases b with
  | free => rfl
  | loaded x page bytes target => by_cases hx : x = w <;> simp [abandonPage, pageSource, hx]
  | programming x gone page slot bytes =>
    cases gone
    · by_cases hx : x = w <;> simp [abandonPage, pageSource, hx]
    · simp [abandonPage, pageSource]

theorem targetOf_abandonPage (b : Buffer) :
    targetOf src (abandonPage w b) = if src = w then none else targetOf src b := by
  cases b with
  | loaded x page bytes target =>
    by_cases hx : x = w
    · by_cases hs : src = w
      · simp [abandonPage, targetOf, hx, hs]
      · simp [abandonPage, targetOf, hx, hs, Ne.symm hs]
    · by_cases hs : src = w <;> simp [abandonPage, targetOf, hx, hs]
  | _ => simp [abandonPage, targetOf]

@[simp] theorem pageSource_repost (b : Buffer) : pageSource (repost b) = pageSource b := by
  rcases b with _ | ⟨_, _, _, _ | _ | _ | _⟩ | _ <;> rfl

theorem targetOf_repost (b : Buffer) : targetOf src (repost b) = some .erasing ↔ targetOf src b = some .erasing := by
  rcases b with _ | ⟨x, _, _, _ | _ | _ | _⟩ | _ <;> simp [repost, targetOf]

theorem release_buffers (chain : List Nat) (s : State) (i : Fin 2) :
    (release chain s).store.buffers[i] = s.store.buffers[i] ∨
      (release chain s).store.buffers[i] = repost s.store.buffers[i] := by
  unfold release modStore
  dsimp only
  split
  · exact .inr (by rw [foldl_modBuffer_buffers])
  · exact .inl rfl

theorem abandonSource_buffers_eq (w : Source) (st : Store) (i : Fin 2) :
    (abandonSource w st).buffers[i] = abandonPage w st.buffers[i] := by
  have buffers : (abandonSource w st).buffers =
      (allBuffers.foldl (fun st i => modBuffer i (abandonPage w) st) st).buffers := by
    unfold abandonSource
    dsimp only
    split <;> rfl
  rw [buffers, foldl_modBuffer_buffers]

/-! ### The law of pages -/

/-- The array is at work on the built-in erase of a source that has not lost its allocation (R72). -/
def erasesFor (src : Source) (op : ArrayOp) : Prop := ∃ b, op = .erasing b (.builtIn src) false

/-- The law of pages, of the sources at work, the array's operation and the two buffers. -/
structure PagesFit (present : Source → Prop) (op : ArrayOp) (page : Fin 2 → Buffer) : Prop where
  owner : ∀ i src, pageSource (page i) = some src → present src
  single : ∀ i k src, pageSource (page i) = some src → pageSource (page k) = some src → i = k
  erase : ∀ src, erasesFor src op ↔ ∃ i, targetOf src (page i) = some .erasing

theorem pageLaw_iff : PageLaw s ↔ PagesFit (SourcePresent s) s.store.array fun i => s.store.buffers[i] := by
  have erase (src : Source) : (∃ i : Fin 2, ∃ page bytes, s.store.buffers[i] = .loaded src page bytes .erasing) ↔
      ∃ i : Fin 2, targetOf src s.store.buffers[i] = some .erasing := by simp only [targetOf_eq_some]
  constructor
  · rintro ⟨owner, apart, erases⟩
    have apart {src : Source} (h0 : pageSource s.store.buffers[(0 : Fin 2)] = some src)
        (h1 : pageSource s.store.buffers[(1 : Fin 2)] = some src) : False :=
      apart (by rw [h0]; simp) (h0.trans h1.symm)
    refine ⟨owner, fun i k src hi hk => ?_, fun src => (erases src).trans (erase src)⟩
    fin_cases i <;> fin_cases k
    · rfl
    · exact (apart hi hk).elim
    · exact (apart hk hi).elim
    · rfl
  · rintro ⟨owner, single, erases⟩
    refine ⟨owner, fun h0 he => ?_, fun src => (erases src).trans (erase src).symm⟩
    obtain ⟨src, h0⟩ := Option.ne_none_iff_exists'.mp h0
    exact absurd (single 0 1 src h0 (he ▸ h0)) (by decide)

variable {P P' : Source → Prop} {op op' : ArrayOp} {f g : Fin 2 → Buffer}

/-- Sources that start, and sources without a page that end, do not matter to the law. -/
theorem PagesFit.of_present (h : PagesFit P op f) (hP : ∀ i src, pageSource (f i) = some src → P src → P' src) :
    PagesFit P' op f := ⟨fun i src hi => hP i src hi (h.owner i src hi), h.single, h.erase⟩

/-- The law reads of the array only which built-in erase is at work. -/
theorem PagesFit.of_op (h : PagesFit P op f) (ho : ∀ src, erasesFor src op' ↔ erasesFor src op) : PagesFit P op' f :=
  ⟨h.owner, h.single, fun src => (ho src).trans (h.erase src)⟩

/-- Pages of the same sources, of which the same wait for their erase. -/
theorem PagesFit.of_pages (h : PagesFit P op f) (hs : ∀ i, pageSource (g i) = pageSource (f i))
    (ht : ∀ i src, targetOf src (g i) = some .erasing ↔ targetOf src (f i) = some .erasing) : PagesFit P op g := by
  refine ⟨fun i src hi => h.owner i src (hs i ▸ hi), fun i k src hi hk => h.single i k src (hs i ▸ hi) (hs k ▸ hk),
    fun src => (h.erase src).trans (exists_congr fun i => (ht i src).symm)⟩

/-- The other buffer holds no page of a source that has one. -/
theorem PagesFit.only (h : PagesFit P op f) {i : Fin 2} (hi : targetOf src (f i) = some target) (k : Fin 2)
    (hk : k ≠ i) : targetOf src (f k) = none :=
  targetOf_of_pageSource_ne fun he => hk (h.single k i src he (pageSource_of_targetOf hi))

/-- A page that waits for no erase of its own waits for something else of that kind (R73, R74). -/
theorem PagesFit.retarget (h : PagesFit P op f) {i : Fin 2} {old : Target} (hi : targetOf src (f i) = some old)
    (hold : old ≠ .erasing) (hnew : target ≠ .erasing) : PagesFit P op fun k => retargeted src target (f k) := by
  refine h.of_pages (fun k => pageSource_retargeted _) fun k w => ?_
  rw [targetOf_retargeted]
  by_cases hw : w = src
  · subst hw
    rw [if_pos rfl]
    by_cases hk : k = i
    · subst hk
      simp [hi, hold, hnew]
    · simp [h.only hi k hk]
  · rw [if_neg hw]

/-- A page joins an empty buffer (R75, R76). -/
theorem PagesFit.load (h : PagesFit P op f) {i : Fin 2} (hi : f i = .free) (hs : ∀ k, pageSource (f k) ≠ some src)
    (hP : P src) (ht : target ≠ .erasing) {page : Nat} {bytes : List Byte}
    (hg : ∀ k, g k = if k = i then .loaded src page bytes target else f k) : PagesFit P op g := by
  have new : g i = .loaded src page bytes target := by rw [hg, if_pos rfl]
  have old {k : Fin 2} (hk : k ≠ i) : g k = f k := by rw [hg, if_neg hk]
  refine ⟨fun k w hk => ?_, fun k m w hk hm => ?_, fun w => (h.erase w).trans (exists_congr fun k => ?_)⟩
  · by_cases hki : k = i
    · rw [hki, new] at hk
      cases hk
      exact hP
    · exact h.owner k w (old hki ▸ hk)
  · by_cases hki : k = i <;> by_cases hmi : m = i
    · rw [hki, hmi]
    · rw [hki, new] at hk
      cases hk
      exact absurd (old hmi ▸ hm) (hs m)
    · rw [hmi, new] at hm
      cases hm
      exact absurd (old hki ▸ hk) (hs k)
    · exact h.single k m w (old hki ▸ hk) (old hmi ▸ hm)
  · by_cases hki : k = i
    · subst hki
      rw [new, hi]
      simp [targetOf, ht]
    · rw [old hki]

/-- A placed page goes to the array, or a page leaves its buffer. -/
theorem PagesFit.leave (h : PagesFit P op f) {i : Fin 2} {b : Buffer} (hi : ∀ src, targetOf src (f i) ≠ some .erasing)
    (hs : ∀ src, pageSource b = some src → pageSource (f i) = some src) (ht : ∀ src, targetOf src b ≠ some .erasing)
    (hg : ∀ k, g k = if k = i then b else f k) : PagesFit P op g := by
  have new : g i = b := by rw [hg, if_pos rfl]
  have old {k : Fin 2} (hk : k ≠ i) : g k = f k := by rw [hg, if_neg hk]
  have source (k : Fin 2) (w : Source) (hk : pageSource (g k) = some w) : pageSource (f k) = some w := by
    by_cases hki : k = i
    · subst hki
      exact hs w (new ▸ hk)
    · exact old hki ▸ hk
  refine ⟨fun k w hk => h.owner k w (source k w hk), fun k m w hk hm => h.single k m w (source k w hk) (source m w hm),
    fun w => (h.erase w).trans (exists_congr fun k => ?_)⟩
  by_cases hki : k = i
  · subst hki
    rw [new]
    simp [hi w, ht w]
  · rw [old hki]

/-- An IDLE array erases for no source, and no page waits for its erase. -/
theorem PagesFit.no_erase (h : PagesFit P op f) (ho : ∀ src, ¬ erasesFor src op) (i : Fin 2) (src : Source) :
    targetOf src (f i) ≠ some .erasing := fun hi => ho src ((h.erase src).mpr ⟨i, hi⟩)

/-- A built-in erase starts for a page that waits for a block (R72). -/
theorem PagesFit.startErase (h : PagesFit P op f) (ho : ∀ src, ¬ erasesFor src op) {i : Fin 2} {old : Target}
    (hi : targetOf src (f i) = some old) (b : Nat) :
    PagesFit P (.erasing b (.builtIn src) false) fun k => retargeted src .erasing (f k) := by
  refine ⟨fun k w hk => h.owner k w (by simpa using hk), fun k m w hk hm => h.single k m w (by simpa using hk)
    (by simpa using hm), fun w => ?_⟩
  simp only [targetOf_retargeted]
  by_cases hw : w = src
  · subst hw
    simp only [if_true]
    exact ⟨fun _ => ⟨i, by rw [hi]; rfl⟩, fun _ => ⟨b, rfl⟩⟩
  · simp only [if_neg hw]
    refine ⟨fun ⟨x, hx⟩ => ?_, fun ⟨k, hk⟩ => absurd hk (h.no_erase ho k w)⟩
    cases hx
    exact absurd rfl hw

/-- The source of a built-in erase gets its block, and the array falls free (R72). -/
theorem PagesFit.endErase {b : Nat} (h : PagesFit P (.erasing b (.builtIn src) false) f)
    (hnew : target ≠ .erasing) (hop : ∀ w, ¬ erasesFor w op) : PagesFit P op fun k => retargeted src target (f k) := by
  refine ⟨fun k w hk => h.owner k w (by simpa using hk), fun k m w hk hm => h.single k m w (by simpa using hk)
    (by simpa using hm), fun w => ⟨fun hw => absurd hw (hop w), fun ⟨k, hk⟩ => ?_⟩⟩
  rw [targetOf_retargeted] at hk
  by_cases hw : w = src
  · rw [if_pos hw] at hk
    obtain ⟨_, -, he⟩ := Option.map_eq_some_iff.mp hk
    exact absurd he hnew
  · rw [if_neg hw] at hk
    obtain ⟨x, hx⟩ := (h.erase w).mpr ⟨k, hk⟩
    cases hx
    exact absurd rfl hw

/-- The array's operation when a source goes (R72). -/
theorem erasesFor_abandonSource (w src : Source) (st : Store) :
    erasesFor src (abandonSource w st).array ↔ erasesFor src st.array ∧ src ≠ w := by
  rw [abandonSource_array]
  unfold erasesFor
  rcases st.array with _ | _ | _ | ⟨b, _ | x, gone⟩
  case erasing.builtIn =>
    constructor
    · rintro ⟨b', h⟩
      simp only [ArrayOp.erasing.injEq, Purpose.builtIn.injEq, Bool.or_eq_false_iff, beq_eq_false_iff_ne] at h
      obtain ⟨rfl, rfl, rfl, hne⟩ := h
      exact ⟨⟨b, rfl⟩, hne⟩
    · rintro ⟨⟨b', h⟩, hne⟩
      cases h
      exact ⟨b, by simp [hne]⟩
  all_goals simp

/-- A source goes (R72, R79). -/
theorem PagesFit.abandon (h : PagesFit P op f) (w : Source)
    (ho : ∀ src, erasesFor src op' ↔ erasesFor src op ∧ src ≠ w) :
    PagesFit (fun src => P src ∧ src ≠ w) op' fun i => abandonPage w (f i) := by
  have source (i : Fin 2) (src : Source) (hi : pageSource (abandonPage w (f i)) = some src) :
      pageSource (f i) = some src ∧ src ≠ w := by
    rw [pageSource_abandonPage] at hi
    split at hi
    · simp at hi
    · rename_i hne
      exact ⟨hi, fun e => hne (e ▸ hi)⟩
  refine ⟨fun i src hi => ⟨h.owner i src (source i src hi).1, (source i src hi).2⟩,
    fun i k src hi hk => h.single i k src (source i src hi).1 (source k src hk).1, fun src => (ho src).trans ?_⟩
  simp only [targetOf_abandonPage, h.erase]
  by_cases hs : src = w <;> simp [hs]

end Sys2Proof.Machine

/-! The consequences of an event as single turns in the store. `Consequence` allows any change of the store; a turn says
which, and what made it due, so that the laws of blocks and pages can be followed through `settle`. -/

namespace Sys2Proof.Machine

/-- What the laws of blocks and pages and the array's contents read of the store. -/
structure Places where
  erased : List Nat
  dirty : List Nat
  array : ArrayOp
  buffers : Vector Buffer 2
  mem : List Host.Cell

def placesOf (st : Store) : Places := ⟨st.erased, st.dirty, st.array, st.buffers, st.mem⟩

/-- One turn: a pointer or a flag of the store, a page's new target, a block given, a page loaded, an operation
started, a reader's step, a notice, or a lane's job that starts or ends. -/
inductive Turn : State → State → Prop where
  | mark (s : State) (f : Store → Store) (hf : ∀ st, placesOf (f st) = placesOf st) : Turn s (modStore f s)
  | retarget (s : State) (src : Source) (target : Target) (hw : waitsForBlock src s.store = true)
      (ht : target ≠ .erasing) : Turn s (modStore (setTarget src target) s)
  | give (s : State) (src : Source) (b : Nat) (rest : List Nat) (he : s.store.erased = b :: rest)
      (hw : waitsForBlock src s.store = true) :
      Turn s (appendBlock src b (modStore (fun st => { st with erased := rest }) s))
  | load (s : State) (src : Source) (i : Fin 2) (page : Nat) (bytes : List Byte) (target : Target)
      (hi : s.store.buffers[i] = .free) (hs : inStore src s.store = false) (hp : SourcePresent s src)
      (ht : target ≠ .erasing) : Turn s (modStore (modBuffer i fun _ => .loaded src page bytes target) s)
  | program (s : State) (src : Source) (i : Fin 2) (page slot : Nat) (bytes : List Byte) (ha : s.store.array = .idle)
      (hi : s.store.buffers[i] = .loaded src page bytes .placed) : Turn s (modStore (fun st =>
        { modBuffer i (fun _ => .programming src false page slot bytes) st with array := .programming i }) s)
  | builtIn (s : State) (src : Source) (b : Nat) (rest : List Nat) (ha : s.store.array = .idle)
      (hd : s.store.dirty = b :: rest) (hw : waitsForBlock src s.store = true) : Turn s (modStore (fun st =>
        setTarget src .erasing { st with dirty := rest, array := .erasing b (.builtIn src) false }) s)
  | background (s : State) (b : Nat) (rest : List Nat) (ha : s.store.array = .idle) (hd : s.store.dirty = b :: rest) :
      Turn s (modStore (fun st => { st with dirty := rest, array := .erasing b .background false }) s)
  | read (s : State) (who : Reader) (slot : Nat) (ha : s.store.array = .idle) :
      Turn s (modStore (fun st => { st with array := .reading who false slot }) s)
  | fetch (s : State) (p : Port) (f : PortState → PortState)
      (hf : ∀ ps, ∃ st, f ps = { ps with stream := st } ∧ fetchless st = fetchless ps.stream) : Turn s (modPort p f s)
  | fifo (s : State) (p : Port) (n : Nat) : Turn s (modStream p (fun st => { st with fifo := st.fifo.drop n }) s)
  | job (s : State) (l : Lane) (f : Job → Job) (hf : ∀ j, (f j).chapter = j.chapter ∧ (f j).blocks = j.blocks) :
      Turn s (modJob l f s)
  | post (s : State) (n : Notice) : Turn s (broadcast n s)
  | start (s : State) (l : Lane) (e : Entry) (rest : List Entry) (hl : s.lanes[l] = none) (hq : s.queue = e :: rest) :
      Turn s (beginJob l e.chapter e.origin (enterState e.chapter .rendering .started (setQueue rest s)))
  | abort (s : State) (l : Lane) (j : Job) (hl : s.lanes[l] = some j) :
      Turn s (enterState j.chapter .ready .storeFull (clearLane l s))
  | reject (s : State) (l : Lane) (j : Job) (g : ResultGroup) (cause : Cause) (hl : s.lanes[l] = some j)
      (hg : g.output = none) : Turn s (enterState j.chapter .rejected cause (writeResult j.chapter g (clearLane l s)))

/-- What a chain of turns leads to. -/
abbrev Turns : State → State → Prop := Relation.ReflTransGen Turn

variable {s t : State} {src : Source}

theorem Turn.all (h : Turn s t) : Turns s t := Relation.ReflTransGen.single h

theorem Turns.refl (s : State) : Turns s s := Relation.ReflTransGen.refl

theorem turns_mark {f : Store → Store} (s : State) (hf : ∀ st, placesOf (f st) = placesOf st) :
    Turns s (modStore f s) := (Turn.mark s f hf).all

theorem turns_modJob {l : Lane} {f : Job → Job} (s : State)
    (hf : ∀ j, (f j).chapter = j.chapter ∧ (f j).blocks = j.blocks) : Turns s (modJob l f s) := (Turn.job s l f hf).all

/-- A turn is made of consequences. -/
theorem Turn.consequences (h : Turn s t) : Consequences s t := by
  cases h with
  | mark f hf => exact consequences_modStore f s
  | retarget | load | program | builtIn | background | read => exact consequences_modStore _ s
  | give src b rest he hw => exact (consequences_modStore _ s).trans (consequences_appendBlock src b _)
  | fetch p f hf => exact (Consequence.fetch s p f hf).all
  | fifo p n => exact (Consequence.fifo s p n).all
  | job l f hf => exact consequences_modJob l f s fun j => (hf j).1
  | post n => exact (Consequence.post s n).all
  | start l e rest hl hq => exact (Consequence.start s l e rest hl hq).all
  | abort l j hl => exact (Consequence.abort s l j hl).all
  | reject l j g cause hl hg => exact (Consequence.reject s l j g cause hl).all

theorem Turns.consequences (h : Turns s t) : Consequences s t := by
  induction h with
  | refl => exact .refl s
  | tail _ ht ih => exact ih.trans ht.consequences

/-- A fold whose every step is made of turns. -/
theorem turns_foldl {α : Type} (f : State → α → State) (hf : ∀ s a, Turns s (f s a)) (as : List α) (s : State) :
    Turns s (as.foldl f s) := by
  induction as generalizing s with
  | nil => exact .refl s
  | cons a as ih => exact (hf s a).trans (ih _)

/-! ### Lanes -/

theorem turns_lanesTake (s : State) : Turns s (lanesTake s) := by
  have take (n : Nat) (s : State) : Turns s (takeEntries n s) := by
    induction n generalizing s with
    | zero => exact .refl s
    | succ n ih =>
      unfold takeEntries
      split
      · rename_i l e rest hl hq
        exact (Turn.start s l e rest (lanes_of_idleLane hl) hq).all.trans (ih _)
      · exact .refl s
  exact take _ s

theorem turns_storeFull (l : Lane) (s : State) : Turns s (storeFull l s) := by
  unfold storeFull
  split
  · exact .refl s
  · rename_i j hj
    exact (Turn.abort s l j hj).all.trans (turns_lanesTake _)

theorem turns_encodeEndDue (l : Lane) (s : State) : Turns s (encodeEndDue l s) := by
  unfold encodeEndDue
  split
  · exact .refl s
  · rename_i j hj
    split
    · dsimp only
      split
      · exact turns_modJob s fun _ => ⟨rfl, rfl⟩
      · exact (Turn.reject s l j _ .failed hj rfl).all.trans (turns_lanesTake _)
    · exact .refl s

theorem turns_measureEndDue (l : Lane) (s : State) : Turns s (measureEndDue l s) := by
  unfold measureEndDue
  split
  · exact .refl s
  · rename_i j hj
    split
    · dsimp only
      split
      · exact (Turn.reject s l j _ .silent hj rfl).all.trans (turns_lanesTake _)
      · exact turns_modJob s fun _ => ⟨rfl, rfl⟩
    · exact .refl s

/-! ### Notices of the pools -/

theorem turns_lowCheck (before detail : Nat) (s : State) : Turns s (lowCheck before detail s) := by
  unfold lowCheck
  split
  · exact (Turn.post s _).all
  · exact .refl s

theorem turns_sweptCheck (s : State) : Turns s (sweptCheck s) := by
  unfold sweptCheck
  split
  · exact (turns_mark s (f := fun st => { st with sweep := false }) fun _ => rfl).trans (Turn.post _ _).all
  · exact .refl s

theorem turns_eraseNotices (before detail : Nat) (s : State) : Turns s (eraseNotices before detail s) := by
  unfold eraseNotices
  split
  · exact (turns_lowCheck _ _ s).trans (turns_sweptCheck _)
  · exact (turns_sweptCheck s).trans (turns_lowCheck _ _ _)

/-! ### Allocations -/

theorem turns_takeErased (hw : waitsForBlock src s.store = true) : Turns s (takeErased src s) := by
  unfold takeErased
  split
  · exact .refl s
  · rename_i b rest he
    exact (Turn.give s src b rest he hw).all.trans (turns_lowCheck _ _ _)

theorem turns_captureAllocation {p : Port} (hw : waitsForBlock (.stream p) s.store = true) :
    Turns s (captureAllocation p s) := by
  unfold captureAllocation
  dsimp only
  split
  · exact turns_takeErased hw
  · split
    · exact (Turn.retarget s _ .posted hw (by simp)).all
    · exact (Turn.retarget s _ .unposted hw (by simp)).all

theorem turns_renderAllocation {l : Lane} (hw : waitsForBlock (.lane l) s.store = true) :
    Turns s (renderAllocation l s) := by
  unfold renderAllocation
  dsimp only
  split
  · exact turns_storeFull l s
  · split
    · exact turns_takeErased hw
    · exact (Turn.retarget s _ .posted hw (by simp)).all

theorem turns_waitingDue (h : waitingDue s = some t) : Turns s t := by
  unfold waitingDue at h
  split at h
  · simp at h
  · split at h
    · rename_i hp
      cases h
      exact turns_takeErased (by simpa using List.find?_some hp)
    · split at h
      · rename_i hl
        cases h
        split
        · exact turns_storeFull _ s
        · exact turns_takeErased (by simpa using List.find?_some hl)
      · simp at h

/-! ### Page loads -/

/-- A page that has joined an empty buffer is the one that is found of its source. -/
theorem loadedBuffer_load {i : Fin 2} {st st' : Store} {page : Nat} {bytes : List Byte} {target : Target}
    (hs : inStore src st = false)
    (hb : st'.buffers = (modBuffer i (fun _ => .loaded src page bytes target) st).buffers) :
    loadedBuffer src st' = some (i, target) := by
  refine loadedBuffer_of_only (i := i) ?_ fun k hk => ?_
  · rw [hb, modBuffer_buffers_self]
    exact if_pos rfl
  · rw [hb, modBuffer_buffers_ne hk]
    exact targetOf_of_pageSource_ne (inStore_eq_false.mp hs k)

theorem waitsForBlock_load {i : Fin 2} {st st' : Store} {page : Nat} {bytes : List Byte}
    (hs : inStore src st = false)
    (hb : st'.buffers = (modBuffer i (fun _ => .loaded src page bytes .unposted) st).buffers) :
    waitsForBlock src st' = true := waitsForBlock_iff.mpr ⟨i, _, loadedBuffer_load hs hb, .inl rfl⟩

/-- What a stream that offers a page has and lacks (R76). -/
theorem present_of_streamOffers {p : Port} (h : streamOffers s p = true) :
    SourcePresent s (.stream p) ∧ inStore (.stream p) s.store = false := by
  unfold streamOffers at h
  split at h
  · simp at h
  · rename_i st hst
    simp only [Bool.and_eq_true, Bool.not_eq_true'] at h
    exact ⟨by rw [SourcePresent, hst]; simp, h.1⟩

/-- What a lane that offers a page has and lacks (R76). -/
theorem present_of_laneOffers {l : Lane} (h : laneOffers s l = true) :
    SourcePresent s (.lane l) ∧ inStore (.lane l) s.store = false := by
  unfold laneOffers at h
  split at h
  · simp at h
  · rename_i j hj
    simp only [Bool.and_eq_true, Bool.not_eq_true'] at h
    exact ⟨by rw [SourcePresent, hj]; simp, h.1⟩

theorem free_of_freeBuffer {i : Fin 2} {st : Store} (h : freeBuffer st = some i) : st.buffers[i] = .free := by
  simpa using List.find?_some h

theorem turns_loadStream {p : Port} {i : Fin 2} (hi : s.store.buffers[i] = .free) (ho : streamOffers s p = true) :
    Turns s (loadStream p i s) := by
  obtain ⟨hp, hs⟩ := present_of_streamOffers ho
  have present : SourcePresent (modStream p (fun st => { st with fifo := st.fifo.drop Config.pageSamples }) s)
      (.stream p) := by simpa [SourcePresent, modStream] using hp
  have loaded (target : Target) (ht : target ≠ .erasing) := (Turn.fifo s p Config.pageSamples).all.trans
    ((Turn.load (modStream p (fun st => { st with fifo := st.fifo.drop Config.pageSamples }) s) (.stream p) i
      (streamPage s p).1 (streamPage s p).2 target hi hs present ht).all.trans
      (Turn.mark _ (fun st => { st with loadedStream := p }) fun _ => rfl).all)
  unfold loadStream
  dsimp only
  split
  · exact (loaded .unposted (by simp)).trans (turns_captureAllocation (waitsForBlock_load hs rfl))
  · exact loaded .placed (by simp)

theorem turns_loadLane {l : Lane} {i : Fin 2} (hi : s.store.buffers[i] = .free) (ho : laneOffers s l = true) :
    Turns s (loadLane l i s) := by
  obtain ⟨hp, hs⟩ := present_of_laneOffers ho
  have emptied (s : State) : Turns s (modJob l (fun j => { j with assembly := [], pageIndex := j.pageIndex + 1 }) s) :=
    turns_modJob s fun _ => ⟨rfl, rfl⟩
  have placed (s : State) : Turns s (modJob l (fun j => placeBytes j.waiting j) s) :=
    turns_modJob s fun _ => ⟨rfl, rfl⟩
  unfold loadLane
  split
  · exact .refl s
  · split
    · exact .refl s
    · rename_i j _ pg _
      have loaded (target : Target) (ht : target ≠ .erasing) :=
        (Turn.load s (.lane l) i pg.1 pg.2 target hi hs hp ht).all.trans
        (Turn.mark _ (fun st => { st with loadedLane := l }) fun _ => rfl).all
      dsimp only
      refine Relation.ReflTransGen.trans (Relation.ReflTransGen.trans ?_ (placed _)) (turns_encodeEndDue l _)
      split <;> split
      · exact (loaded .unposted (by simp)).trans (turns_renderAllocation (waitsForBlock_load hs rfl))
      · exact ((loaded .unposted (by simp)).trans (emptied _)).trans
          (turns_renderAllocation (waitsForBlock_load hs rfl))
      · exact loaded .placed (by simp)
      · exact (loaded .placed (by simp)).trans (emptied _)

theorem turns_loadDue (h : loadDue s = some t) : Turns s t := by
  unfold loadDue at h
  split at h
  · simp at h
  · rename_i i hi
    split at h
    · rename_i p hp
      cases h
      exact turns_loadStream (free_of_freeBuffer hi) (List.find?_some hp)
    · split at h
      · rename_i l hl
        cases h
        exact turns_loadLane (free_of_freeBuffer hi) (List.find?_some hl)
      · simp at h

theorem turns_loadAll (n : Nat) (s : State) : Turns s (loadAll n s) := by
  induction n generalizing s with
  | zero => exact .refl s
  | succ n ih =>
    unfold loadAll
    split
    · rename_i t ht
      rcases Option.or_eq_some_iff.mp ht with hw | ⟨_, hl⟩
      · exact (turns_waitingDue hw).trans (ih _)
      · exact (turns_loadDue hl).trans (ih _)
    · exact .refl s

/-! ### Readers -/

theorem blocks_gather (s : State) (n : Nat) (j : Job) : (gather s n j).blocks = j.blocks := by
  induction n generalizing j with
  | zero => rfl
  | succ n ih =>
    unfold gather
    split
    · split
      · rw [ih]
      · rfl
    · rfl

theorem blocks_postRead (s : State) (j : Job) : (postRead s j).blocks = j.blocks := by
  unfold postRead
  split
  · rfl
  · dsimp only
    split
    · rfl
    · split <;> rfl

theorem turns_readersAdvance (s : State) : Turns s (readersAdvance s) := by
  have lanes : Turns s (lanesAdvance s) := turns_foldl _ (fun s l => (Turn.job s l _ fun j => by
    rw [advanceJob, chapter_postRead, chapter_gather, blocks_postRead, blocks_gather]
    exact ⟨rfl, rfl⟩).all) _ s
  exact lanes.trans (turns_foldl _ (fun s p => (Turn.fetch s p _ (postFetch_stream s)).all) _ _)

/-! ### The arbiter's choice -/

theorem turns_startProgram {i : Fin 2} (ha : s.store.array = .idle)
    (hi : loadedBuffer src s.store = some (i, .placed)) : Turns s (startProgram i s) := by
  obtain ⟨page, bytes, hb⟩ := loadedBuffer_some hi
  unfold startProgram
  rw [hb]
  exact (Turn.program s src i page _ bytes ha hb).all

theorem turns_startBackground (ha : s.store.array = .idle) : Turns s (startBackground s) := by
  unfold startBackground
  split
  · exact .refl s
  · rename_i b rest hd
    exact (Turn.background s b rest ha hd).all.trans (turns_sweptCheck _)

theorem turns_startBuiltIn (ha : s.store.array = .idle) (hw : waitsForBlock src s.store = true) :
    Turns s (startBuiltIn src s) := by
  unfold startBuiltIn
  split
  · exact .refl s
  · rename_i b rest hd
    exact (Turn.builtIn s src b rest ha hd hw).all.trans (turns_eraseNotices _ _ _)

theorem turns_startRead (who : Reader) (slot : Nat) (ha : s.store.array = .idle) : Turns s (startRead who slot s) := by
  unfold startRead
  cases who with
  | lane l => exact (Turn.read s _ slot ha).all.trans (turns_modJob _ fun _ => ⟨rfl, rfl⟩)
  | port p =>
    refine (Turn.read s _ slot ha).all.trans (Turn.fetch _ p _ fun ps => ?_).all
    split
    · rename_i a hactive
      exact ⟨_, rfl, by simp [fetchless, hactive]⟩
    · exact ⟨ps.stream, rfl, rfl⟩

/-- An allocation with its erase request posted waits for a block. -/
theorem waitsForBlock_of_posted {i : Fin 2} (h : loadedBuffer src s.store = some (i, .posted)) :
    waitsForBlock src s.store = true := waitsForBlock_iff.mpr ⟨i, _, h, .inr rfl⟩

theorem turns_serveStream (p : Port) (ha : s.store.array = .idle) : Turns s (serveStream p s) := by
  unfold serveStream
  split
  · rename_i hl
    exact (turns_startProgram ha hl).trans (turns_mark _ fun _ => rfl)
  · rename_i hl
    have hw := waitsForBlock_of_posted hl
    split
    · exact (Turn.retarget s _ .unposted hw (by simp)).all
    · exact (turns_startBuiltIn ha hw).trans (turns_mark _ fun _ => rfl)
  · exact .refl s

theorem turns_serveLane (l : Lane) (ha : s.store.array = .idle) : Turns s (serveLane l s) := by
  unfold serveLane
  split
  · rename_i hl
    exact (turns_startProgram ha hl).trans (turns_mark _ fun _ => rfl)
  · rename_i hl
    have hw := waitsForBlock_of_posted hl
    split
    · exact (Turn.retarget s _ .unposted hw (by simp)).all
    · split
      · exact turns_storeFull l s
      · exact (turns_startBuiltIn ha hw).trans (turns_mark _ fun _ => rfl)
  · exact .refl s

theorem turns_chooseOnce (ha : s.store.array = .idle) (h : chooseOnce s = some t) : Turns s t := by
  unfold chooseOnce at h
  split at h
  · cases h
    exact turns_serveStream _ ha
  · split at h
    · cases h
      exact turns_startBackground ha
    · split at h
      · cases h
        exact (turns_startRead _ _ ha).trans (turns_mark _ fun _ => rfl)
      · split at h
        · cases h
          exact turns_serveLane _ ha
        · split at h
          · simp at h
          · cases h
            exact turns_startBackground ha

theorem turns_settleRounds (n : Nat) (s : State) : Turns s (settleRounds n s) := by
  induction n generalizing s with
  | zero => exact .refl s
  | succ n ih =>
    have ready := (turns_loadAll 16 s).trans (turns_readersAdvance _)
    unfold settleRounds
    dsimp only
    split
    · rename_i ha
      split
      · rename_i t ht
        exact (ready.trans (turns_chooseOnce ha ht)).trans (ih _)
      · exact ready
    · exact ready

/-- Settling is made of turns. -/
theorem turns_settle (s : State) : Turns s (settle s) := turns_settleRounds 16 s

end Sys2Proof.Machine

/-! The array's contents and the law of pages (R72, R75, R76, R79) through the turns of an event's consequences. -/

namespace Sys2Proof.Machine

variable {s t : State}

/-! ### The array's contents -/

theorem abandonSource_mem (src : Source) (st : Store) : (abandonSource src st).mem = st.mem := by
  unfold abandonSource
  dsimp only
  split <;> rfl

theorem orphanRead_mem (who : Reader) (st : Store) : (orphanRead who st).mem = st.mem := by
  unfold orphanRead
  split
  · split <;> rfl
  · rfl

theorem release_mem (chain : List Nat) (s : State) : (release chain s).store.mem = s.store.mem := by
  unfold release modStore
  dsimp only
  split <;> rfl

theorem clearLane_mem (l : Lane) (s : State) : (clearLane l s).store.mem = s.store.mem := by
  unfold clearLane
  split
  · rfl
  · rw [release_mem, setLane_store, modStore_store, orphanRead_mem, abandonSource_mem]

theorem beginJob_store (l : Lane) (c : ChapterId) (origin : Port) (s : State) :
    (beginJob l c origin s).store = s.store := by
  unfold beginJob
  split
  · rfl
  · dsimp only
    split <;> rfl

theorem appendBlock_store (src : Source) (b : Nat) (s : State) :
    (appendBlock src b s).store = setTarget src .placed s.store := by
  unfold appendBlock
  cases src with
  | stream p => dsimp only; split <;> rfl
  | lane l => rfl

/-- No turn writes to the array (R68). -/
theorem Turn.mem (h : Turn s t) : t.store.mem = s.store.mem := by
  cases h with
  | mark f hf => exact congrArg Places.mem (hf s.store)
  | give src b rest he hw => rw [appendBlock_store]; rfl
  | start l e rest hl hq => rw [beginJob_store, enterState_store]; rfl
  | abort l j hl => rw [enterState_store, clearLane_mem]
  | reject l j g cause hl hg => rw [enterState_store, writeResult, modChapter_store, clearLane_mem]
  | _ => rfl

theorem Turns.mem (h : Turns s t) : t.store.mem = s.store.mem := by
  induction h with
  | refl => rfl
  | tail _ ht ih => exact ht.mem.trans ih

/-- What follows from an event writes nothing to the array. -/
theorem settle_mem (s : State) : (settle s).store.mem = s.store.mem := (turns_settle s).mem

/-! ### Sources at work -/

/-- The sources at work are read off the capture slots and the lanes. -/
theorem sourcePresent_congr (hc : ∀ p : Port, t.captures[p] = none ↔ s.captures[p] = none)
    (hl : ∀ l : Lane, t.lanes[l] = none ↔ s.lanes[l] = none) (src : Source) :
    SourcePresent t src ↔ SourcePresent s src := by
  cases src with
  | stream p => exact not_congr (hc p)
  | lane l => exact not_congr (hl l)

theorem modStream_captures_none (p q : Port) (f : Stream → Stream) (s : State) :
    (modStream p f s).captures[q] = none ↔ s.captures[q] = none := by
  by_cases hq : q = p
  · subst hq
    have h : (modStream q f s).captures[q] = s.captures[q].map f := modStream_captures_self s q f
    rw [h, Option.map_eq_none_iff]
  · have h : (modStream p f s).captures[q] = s.captures[q] := modStream_captures_ne s p q f hq
    rw [h]

theorem modJob_lanes_none (l m : Lane) (f : Job → Job) (s : State) :
    (modJob l f s).lanes[m] = none ↔ s.lanes[m] = none := by
  by_cases hm : m = l
  · subst hm
    have h : (modJob m f s).lanes[m] = s.lanes[m].map f := modJob_lanes_self s m f
    rw [h, Option.map_eq_none_iff]
  · have h : (modJob l f s).lanes[m] = s.lanes[m] := modJob_lanes_ne s l m f hm
    rw [h]

theorem appendBlock_present (w : Source) (b : Nat) (s : State) (src : Source) :
    SourcePresent (appendBlock w b s) src ↔ SourcePresent s src := by
  unfold appendBlock
  cases w with
  | stream p =>
    dsimp only
    split <;> exact sourcePresent_congr (fun _ => Iff.rfl) (fun _ => Iff.rfl) src
  | lane l =>
    refine sourcePresent_congr (s := s) (fun _ => ?_) (fun m => ?_) src
    · exact Iff.rfl
    · exact modJob_lanes_none l m _ (modStore (setTarget (.lane l) .placed) s)

/-- A job that begins in a lane changes no other lane. -/
theorem beginJob_lanes_ne (l m : Lane) (c : ChapterId) (origin : Port) (s : State) (h : m ≠ l) :
    (beginJob l c origin s).lanes[m] = s.lanes[m] := by
  unfold beginJob
  split
  · rfl
  · dsimp only
    split <;> exact setLane_lanes_ne s l m _ h

theorem beginJob_captures (l : Lane) (c : ChapterId) (origin : Port) (s : State) :
    (beginJob l c origin s).captures = s.captures := by
  unfold beginJob
  split
  · rfl
  · dsimp only
    split <;> rfl

theorem clearLane_lanes_self (l : Lane) (s : State) : (clearLane l s).lanes[l] = none := by
  rw [clearLane_lanes, if_pos rfl]

/-! ### The law of pages -/

/-- The law reads the places of the store and the sources at work. -/
theorem PageLaw.of_eq (h : PageLaw s) (ha : t.store.array = s.store.array) (hb : t.store.buffers = s.store.buffers)
    (hp : ∀ src, SourcePresent s src → SourcePresent t src) : PageLaw t := by
  rw [pageLaw_iff] at *
  rw [ha, hb]
  exact h.of_present fun i src _ => hp src

theorem PageLaw.of_frame (h : PageLaw s) (hs : t.store = s.store) (hc : t.captures = s.captures)
    (hl : t.lanes = s.lanes) : PageLaw t :=
  h.of_eq (by rw [hs]) (by rw [hs]) fun src =>
    (sourcePresent_congr (fun p => by rw [hc]) (fun l => by rw [hl]) src).mpr

theorem PageLaw.enterState (h : PageLaw s) (c : ChapterId) (st : ChapterState) (cause : Cause) :
    PageLaw (enterState c st cause s) :=
  h.of_frame (enterState_store ..) (broadcast_captures ..) (enterState_lanes ..)

theorem PageLaw.modStream (h : PageLaw s) (p : Port) (f : Stream → Stream) : PageLaw (modStream p f s) :=
  h.of_eq rfl rfl fun src =>
    (sourcePresent_congr (fun q => modStream_captures_none p q f s) (fun _ => Iff.rfl) src).mpr

theorem PageLaw.modJob (h : PageLaw s) (l : Lane) (f : Job → Job) : PageLaw (modJob l f s) :=
  h.of_eq rfl rfl fun src =>
    (sourcePresent_congr (s := s) (t := Machine.modJob l f s) (fun _ => Iff.rfl)
      (fun m => modJob_lanes_none l m f s) src).mpr

/-- A broadcast is nothing to the law. -/
theorem PageLaw.broadcast (h : PageLaw s) (n : Notice) : PageLaw (broadcast n s) :=
  h.of_frame (broadcast_store ..) (broadcast_captures ..) (broadcast_lanes ..)

/-- A lane that is given a job, or that was idle, loses no page. -/
theorem PageLaw.beginJob (h : PageLaw s) {l : Lane} (hl : s.lanes[l] = none) (c : ChapterId) (origin : Port) :
    PageLaw (beginJob l c origin s) := by
  refine h.of_eq (by rw [beginJob_store]) (by rw [beginJob_store]) fun src hsrc => ?_
  cases src with
  | stream p => rw [SourcePresent, beginJob_captures]; exact hsrc
  | lane m =>
    have hm : m ≠ l := fun e => hsrc (e ▸ hl)
    rw [SourcePresent, beginJob_lanes_ne l m c origin s hm]
    exact hsrc

theorem release_pageLaw (h : PageLaw s) (chain : List Nat) : PageLaw (release chain s) := by
  rw [pageLaw_iff] at *
  rw [release_array]
  refine (h.of_present fun _ _ _ hP => hP).of_pages (fun i => ?_) fun i src => ?_
  · rcases release_buffers chain s i with hb | hb <;> rw [hb]
    exact pageSource_repost _
  · rcases release_buffers chain s i with hb | hb <;> rw [hb]
    exact targetOf_repost _

/-- Where a source has been abandoned it may go (R79). -/
theorem pageLaw_of_abandon (h : PageLaw s) {src : Source} (ha : ∀ w, erasesFor w t.store.array ↔
      erasesFor w (abandonSource src s.store).array) (hb : t.store.buffers = (abandonSource src s.store).buffers)
    (hp : ∀ w, w ≠ src → SourcePresent s w → SourcePresent t w) : PageLaw t := by
  rw [pageLaw_iff] at *
  have abandoned := h.abandon src (op' := t.store.array) fun w => (ha w).trans (erasesFor_abandonSource src w s.store)
  refine (abandoned.of_present fun i w _ hw => hp w hw.2 hw.1).of_pages (fun i => ?_) fun i w => ?_ <;>
    rw [hb, abandonSource_buffers_eq]

/-- A page read that belongs to no reader is no erase. -/
theorem erasesFor_orphanRead (who : Reader) (w : Source) (st : Store) :
    erasesFor w (orphanRead who st).array ↔ erasesFor w st.array := by
  unfold orphanRead erasesFor
  split
  · rename_i w' slot h
    split
    · simp [h]
    · rfl
  · rfl

/-- A lane given up leaves no page of its own (R79, R105). -/
theorem PageLaw.clearLane (h : PageLaw s) (l : Lane) : PageLaw (clearLane l s) := by
  unfold Machine.clearLane
  split
  · exact h
  · refine release_pageLaw (pageLaw_of_abandon h (src := .lane l) (erasesFor_orphanRead _ · _)
      (orphanRead_leaves _ _).1 fun w hw hsrc => ?_) _
    cases w with
    | stream p => exact hsrc
    | lane m =>
      have hm : m ≠ l := fun e => hw (congrArg Source.lane e)
      have kept : (setLane l none (modStore (fun st => orphanRead (.lane l) (abandonSource (.lane l) st)) s)).lanes[m] =
        s.lanes[m] := setLane_lanes_ne _ l m none hm
      rw [SourcePresent, kept]
      exact hsrc

theorem not_erasesFor_idle (src : Source) : ¬ erasesFor src .idle := fun ⟨_, h⟩ => by cases h

/-- A page of a source that waits for a block comes to wait for something else but its own erase. -/
theorem pagesFit_setTarget {src : Source} {target : Target} (h : PageLaw s) (hw : waitsForBlock src s.store = true)
    (ht : target ≠ .erasing) : PagesFit (SourcePresent s) s.store.array
      fun i => (setTarget src target s.store).buffers[i] := by
  obtain ⟨i, old, hi, hold⟩ := loaded_of_waitsForBlock hw
  simp only [setTarget_buffers]
  exact (pageLaw_iff.mp h).retarget (i := i) hi hold ht

/-- Every turn keeps the law of pages. -/
theorem Turn.pageLaw (h : Turn s t) (hs : PageLaw s) : PageLaw t := by
  have fit := pageLaw_iff.mp hs
  cases h with
  | mark f hf =>
    exact hs.of_eq (congrArg Places.array (hf s.store)) (congrArg Places.buffers (hf s.store)) fun _ => id
  | retarget src target hw ht =>
    have aimed := pagesFit_setTarget hs hw ht
    exact pageLaw_iff.mpr aimed
  | give src b rest he hw =>
    refine pageLaw_iff.mpr ?_
    rw [appendBlock_store]
    exact (pagesFit_setTarget hs hw (target := .placed) (by simp)).of_present fun _ w _ =>
      (appendBlock_present src b (modStore (fun st => { st with erased := rest }) s) w).mpr
  | load src i page bytes target hi hn hp ht =>
    refine pageLaw_iff.mpr (fit.load (page := page) (bytes := bytes) hi (inStore_eq_false.mp hn) hp ht fun k => ?_)
    split
    · rename_i hk
      subst hk
      exact modBuffer_buffers_self k _ _
    · exact modBuffer_buffers_ne (by assumption) _ _
  | program src i page slot bytes ha hi =>
    rw [ha] at fit
    refine pageLaw_iff.mpr ((fit.leave (i := i) (b := .programming src false page slot bytes) (fun w => ?_)
      (fun w hw => ?_)
      (fun w => by simp [targetOf]) fun k => ?_).of_op fun w => ?_)
    · exact fit.no_erase not_erasesFor_idle i w
    · rw [hi]
      exact hw
    · split
      · rename_i hk
        subst hk
        exact modBuffer_buffers_self k (fun _ => .programming src false page slot bytes) s.store
      · exact modBuffer_buffers_ne (by assumption) (fun _ => .programming src false page slot bytes) s.store
    · simp [erasesFor]
  | builtIn src b rest ha hd hw =>
    rw [ha] at fit
    obtain ⟨i, old, hi, -⟩ := loaded_of_waitsForBlock hw
    have started := fit.startErase not_erasesFor_idle (i := i) hi b
    refine pageLaw_iff.mpr ?_
    simp only [modStore_store, setTarget_buffers, setTarget_array]
    exact started
  | background b rest ha hd =>
    rw [ha] at fit
    exact pageLaw_iff.mpr (fit.of_op fun w => by simp [erasesFor])
  | read who slot ha =>
    rw [ha] at fit
    exact pageLaw_iff.mpr (fit.of_op fun w => by simp [erasesFor])
  | fetch p f hf => exact hs.of_eq rfl rfl fun _ => id
  | fifo p n => exact hs.modStream p _
  | job l f hf => exact hs.modJob l f
  | post n => exact hs.broadcast n
  | start l e rest hl hq =>
    have dequeued : PageLaw (setQueue rest s) := hs.of_frame rfl rfl rfl
    exact (dequeued.enterState e.chapter .rendering .started).beginJob
      (by rw [enterState_lanes]; exact hl) e.chapter e.origin
  | abort l j hl => exact (hs.clearLane l).enterState _ _ _
  | reject l j g cause hl hg =>
    have written : PageLaw (writeResult j.chapter g (clearLane l s)) := (hs.clearLane l).of_frame rfl rfl rfl
    exact written.enterState _ _ _

theorem Turns.pageLaw (h : Turns s t) (hs : PageLaw s) : PageLaw t := by
  induction h with
  | refl => exact hs
  | tail _ ht ih => exact ht.pageLaw ih

end Sys2Proof.Machine

/-! Where the blocks are (R64): how often a block number stands in each of the places, and what the turns of an event's
consequences move from one place to another. -/

namespace Sys2Proof.Machine

open View

variable {s t u : State} {src : Source}

/-! ### Counting a block -/

/-- A block in the pools and under the erase. -/
def poolCount (st : Store) (b : Nat) : Nat :=
  st.erased.count b + st.dirty.count b + (erasingBlock st.array).count b

/-- A block in the chains of the takes, of the chapters' own outputs, and of the lanes. -/
def takeCount (s : State) (b : Nat) : Nat := ∑ k : TakeId, (takeChain s k).count b
def outputCount (s : State) (b : Nat) : Nat := ∑ c : ChapterId, (ownedChain s c).count b
def laneCount (s : State) (b : Nat) : Nat := ∑ l : Lane, (laneChain s l).count b

theorem count_flatMap_finRange {n : Nat} (f : Fin n → List Nat) (b : Nat) :
    ((List.finRange n).flatMap f).count b = ∑ i, (f i).count b := by
  rw [List.count_flatMap, Fin.sum_univ_def]
  rfl

theorem count_placedBlocks (s : State) (b : Nat) :
    (placedBlocks s).count b = poolCount s.store b + takeCount s b + outputCount s b + laneCount s b := by
  unfold placedBlocks poolCount takeCount outputCount laneCount
  simp only [List.count_append, count_flatMap_finRange]

/-- Every block number stands as often in the places of one state as in those of another. -/
def SameBlocks (s t : State) : Prop := ∀ b, poolCount t.store b + takeCount t b + outputCount t b + laneCount t b =
  poolCount s.store b + takeCount s b + outputCount s b + laneCount s b

theorem SameBlocks.refl (s : State) : SameBlocks s s := fun _ => rfl

theorem SameBlocks.trans (h : SameBlocks s t) (k : SameBlocks t u) : SameBlocks s u := fun b => (k b).trans (h b)

theorem SameBlocks.blockLaw (h : SameBlocks s t) (hs : BlockLaw s) : BlockLaw t := by
  refine (List.perm_iff_count.mpr fun b => ?_).trans hs
  rw [count_placedBlocks, count_placedBlocks]
  exact h b

/-- A sum of which one member changes. -/
theorem sum_change {n : Nat} {f g : Fin n → Nat} (k : Fin n) (h : ∀ i, i ≠ k → g i = f i) :
    ∑ i, g i + f k = ∑ i, f i + g k := by
  have hf := Finset.add_sum_erase Finset.univ f (Finset.mem_univ k)
  have hg := Finset.add_sum_erase Finset.univ g (Finset.mem_univ k)
  have same : ∑ i ∈ Finset.univ.erase k, g i = ∑ i ∈ Finset.univ.erase k, f i :=
    Finset.sum_congr rfl fun i hi => h i (Finset.ne_of_mem_erase hi)
  omega

theorem takeCount_congr (h : t.takes = s.takes) (b : Nat) : takeCount t b = takeCount s b := by
  unfold takeCount takeChain
  rw [h]

theorem laneCount_congr (h : t.lanes = s.lanes) (b : Nat) : laneCount t b = laneCount s b := by
  unfold laneCount laneChain
  rw [h]

theorem outputCount_congr (h : ∀ c, ownedChain t c = ownedChain s c) (b : Nat) : outputCount t b = outputCount s b := by
  unfold outputCount
  simp only [h]

theorem ownedChain_congr (h : t.chapters = s.chapters) (c : ChapterId) : ownedChain t c = ownedChain s c := by
  unfold ownedChain
  rw [h]

/-- The pools, the takes, the outputs and the lanes are as they were. -/
theorem sameBlocks_of_eq (hs : ∀ b, poolCount t.store b = poolCount s.store b) (ht : t.takes = s.takes)
    (hc : ∀ c, ownedChain t c = ownedChain s c) (hl : t.lanes = s.lanes) : SameBlocks s t := fun b => by
  rw [hs, takeCount_congr ht, outputCount_congr hc, laneCount_congr hl]

theorem sameBlocks_of_frame (hs : t.store = s.store) (ht : t.takes = s.takes) (hc : t.chapters = s.chapters)
    (hl : t.lanes = s.lanes) : SameBlocks s t :=
  sameBlocks_of_eq (fun _ => by rw [hs]) ht (ownedChain_congr hc) hl

/-- The store alone changes. -/
theorem sameBlocks_modStore {f : Store → Store} (h : ∀ b, poolCount (f s.store) b = poolCount s.store b) :
    SameBlocks s (modStore f s) := sameBlocks_of_eq h rfl (fun _ => rfl) rfl

/-! ### Chains -/

/-- A take's record replaced. -/
theorem takeCount_setTake (k : TakeId) (o : Option Take) (s : State) (b : Nat) :
    takeCount (setTake k o s) b + (takeChain s k).count b =
      takeCount s b + ((o.map (·.chain)).getD []).count b := by
  have self : takeChain (setTake k o s) k = (o.map (·.chain)).getD [] := by
    have h : (setTake k o s).takes[k] = o := setTake_takes_self s k o
    unfold takeChain
    rw [h]
    cases o <;> rfl
  rw [← self]
  exact sum_change (f := fun j => (takeChain s j).count b)
    (g := fun j => (takeChain (setTake k o s) j).count b) k fun j hj => by
    have h : (setTake k o s).takes[j] = s.takes[j] := setTake_takes_ne s k j o hj
    unfold takeChain
    rw [h]

theorem ownedChain_setChapter_self (c : ChapterId) (o : Option Chapter) (s : State) :
    ownedChain (setChapter c o s) c = ((o.bind ownedOutput).map (·.chain)).getD [] := by
  have h : (setChapter c o s).chapters[c] = o := setChapter_chapters_self s c o
  unfold ownedChain
  rw [h]

theorem ownedChain_setChapter_ne {c d : ChapterId} (h : d ≠ c) (o : Option Chapter) (s : State) :
    ownedChain (setChapter c o s) d = ownedChain s d := by
  have h : (setChapter c o s).chapters[d] = s.chapters[d] := setChapter_chapters_ne s c d o h
  unfold ownedChain
  rw [h]

/-- A chapter's record replaced. -/
theorem outputCount_setChapter (c : ChapterId) (o : Option Chapter) (s : State) (b : Nat) :
    outputCount (setChapter c o s) b + (ownedChain s c).count b =
      outputCount s b + (((o.bind ownedOutput).map (·.chain)).getD []).count b := by
  rw [← ownedChain_setChapter_self c o s]
  exact sum_change (f := fun d => (ownedChain s d).count b) (g := fun d => (ownedChain (setChapter c o s) d).count b) c
    fun d hd => by rw [ownedChain_setChapter_ne hd]

theorem laneChain_setLane_self (l : Lane) (o : Option Job) (s : State) :
    laneChain (setLane l o s) l = (o.map (·.blocks)).getD [] := by
  have h : (setLane l o s).lanes[l] = o := setLane_lanes_self s l o
  unfold laneChain
  rw [h]

/-- A lane's job replaced. -/
theorem laneCount_setLane (l : Lane) (o : Option Job) (s : State) (b : Nat) :
    laneCount (setLane l o s) b + (laneChain s l).count b = laneCount s b + ((o.map (·.blocks)).getD []).count b := by
  rw [← laneChain_setLane_self l o s]
  exact sum_change (f := fun m => (laneChain s m).count b)
    (g := fun m => (laneChain (setLane l o s) m).count b) l fun m hm => by
    have h : (setLane l o s).lanes[m] = s.lanes[m] := setLane_lanes_ne s l m o hm
    unfold laneChain
    rw [h]

theorem takeCount_setLane (l : Lane) (o : Option Job) (s : State) (b : Nat) :
    takeCount (setLane l o s) b = takeCount s b :=
  takeCount_congr rfl b

theorem outputCount_setLane (l : Lane) (o : Option Job) (s : State) (b : Nat) :
    outputCount (setLane l o s) b = outputCount s b := outputCount_congr (ownedChain_congr rfl) b

/-- A chapter's record changes, the output it owns does not. -/
theorem sameBlocks_modChapter {c : ChapterId} {f : Chapter → Chapter}
    (hf : ∀ r, s.chapters[c] = some r → ownedOutput (f r) = ownedOutput r) : SameBlocks s (modChapter c f s) :=
  sameBlocks_of_eq (fun _ => rfl) rfl (fun d => by
    by_cases hd : d = c
    · subst hd
      rw [show modChapter d f s = setChapter d (s.chapters[d].map f) s from rfl, ownedChain_setChapter_self]
      unfold ownedChain
      cases hr : s.chapters[d] with
      | none => rfl
      | some r => rw [Option.map_some, Option.bind_some, Option.bind_some, hf r hr]
    · exact ownedChain_setChapter_ne hd _ s) rfl

theorem sameBlocks_modJob {l : Lane} {f : Job → Job} (hf : ∀ j, (f j).blocks = j.blocks) :
    SameBlocks s (modJob l f s) := fun b => by
  have blocks : ((s.lanes[l].map f).map (·.blocks)).getD [] = laneChain s l := by
    unfold laneChain
    cases s.lanes[l] with
    | none => rfl
    | some j => exact hf j
  have given := laneCount_setLane l (s.lanes[l].map f) s b
  rw [blocks] at given
  have record : modJob l f s = setLane l (s.lanes[l].map f) s := rfl
  rw [record, Nat.add_right_cancel given, outputCount_setLane, takeCount_setLane, setLane_store]

theorem SameBlocks.enterState {c : ChapterId} {st : ChapterState} {cause : Cause} (h : SameBlocks s t) :
    SameBlocks s (enterState c st cause t) :=
  (h.trans (sameBlocks_modChapter (c := c) (f := fun r => { r with state := st }) fun _ _ => rfl)).trans
    (sameBlocks_of_frame (broadcast_store ..) (broadcast_takes ..) (broadcast_chapters ..) (broadcast_lanes ..))

theorem sameBlocks_broadcast (n : Notice) (s : State) : SameBlocks s (broadcast n s) :=
  sameBlocks_of_frame (broadcast_store ..) (broadcast_takes ..) (broadcast_chapters ..) (broadcast_lanes ..)

/-- A result group without output is written for a chapter that owns none (R103, R104). -/
theorem SameBlocks.writeResult {c : ChapterId} {g : ResultGroup} (h : SameBlocks s t) (hg : g.output = none)
    (hc : ∀ r, t.chapters[c] = some r → ownedOutput r = none) : SameBlocks s (writeResult c g t) :=
  h.trans (sameBlocks_modChapter fun r hr => by rw [hc r hr]; exact hg)

/-! ### Releases -/

theorem poolCount_release (chain : List Nat) (s : State) (b : Nat) :
    poolCount (release chain s).store b = poolCount s.store b + chain.count b := by
  unfold poolCount
  rw [release_dirty, release_erased, release_array, List.count_append]
  omega

theorem erasingBlock_abandonSource (w : Source) (st : Store) :
    erasingBlock (abandonSource w st).array = erasingBlock st.array := by
  rw [abandonSource_array]
  rcases st.array with _ | _ | _ | ⟨_, _ | _, _⟩ <;> rfl

theorem erasingBlock_orphanRead (who : Reader) (st : Store) :
    erasingBlock (orphanRead who st).array = erasingBlock st.array := by
  unfold orphanRead
  split
  · rename_i w slot h
    split
    · rw [h]
      rfl
    · rfl
  · rfl

theorem takeCount_release (chain : List Nat) (s : State) (b : Nat) : takeCount (release chain s) b = takeCount s b :=
  takeCount_congr rfl b

theorem outputCount_release (chain : List Nat) (s : State) (b : Nat) :
    outputCount (release chain s) b = outputCount s b := outputCount_congr (ownedChain_congr rfl) b

theorem laneCount_release (chain : List Nat) (s : State) (b : Nat) : laneCount (release chain s) b = laneCount s b :=
  laneCount_congr rfl b

theorem poolCount_abandonSource (w : Source) (st : Store) (b : Nat) :
    poolCount (abandonSource w st) b = poolCount st b := by
  unfold poolCount
  rw [erasingBlock_abandonSource, (abandonSource_pools w st).1, (abandonSource_pools w st).2]

theorem poolCount_orphanRead (who : Reader) (st : Store) (b : Nat) :
    poolCount (orphanRead who st) b = poolCount st b := by
  unfold poolCount
  rw [erasingBlock_orphanRead, (orphanRead_pools who st).1, (orphanRead_pools who st).2]

/-- A lane given up lets its blocks go to the DIRTY pool (R67, R105). -/
theorem sameBlocks_clearLane (l : Lane) (s : State) : SameBlocks s (clearLane l s) := by
  unfold clearLane
  split
  · exact .refl s
  · rename_i j hj
    intro b
    have blocks : laneChain s l = j.blocks := by
      unfold laneChain
      rw [hj]
      rfl
    have emptied := laneCount_setLane l none s b
    rw [blocks] at emptied
    have pools : poolCount (orphanRead (.lane l) (abandonSource (.lane l) s.store)) b = poolCount s.store b := by
      rw [poolCount_orphanRead, poolCount_abandonSource]
    generalize hw : modStore (fun st => orphanRead (.lane l) (abandonSource (.lane l) st)) s = w
    have store : w.store = orphanRead (.lane l) (abandonSource (.lane l) s.store) := by rw [← hw]; rfl
    have takes : takeCount w b = takeCount s b := by rw [← hw]; exact takeCount_congr rfl b
    have outputs : outputCount w b = outputCount s b := by rw [← hw]; exact outputCount_congr (ownedChain_congr rfl) b
    have lanes : laneCount (setLane l none w) b = laneCount (setLane l none s) b := by
      rw [← hw]
      exact laneCount_congr rfl b
    rw [poolCount_release, takeCount_release, outputCount_release, laneCount_release, setLane_store, store, pools,
      takeCount_setLane, outputCount_setLane, takes, outputs, lanes]
    simp only [Option.map_none, Option.getD_none, List.count_nil] at emptied
    omega

/-! ### Jobs -/

/-- A job begins with no block (R97); one that ends at once leaves a result group without output (R104). -/
theorem sameBlocks_beginJob {l : Lane} {c : ChapterId} (origin : Port) (hl : s.lanes[l] = none)
    (hc : ∀ r, s.chapters[c] = some r → ownedOutput r = none) : SameBlocks s (beginJob l c origin s) := by
  have idle : laneChain s l = [] := by
    unfold laneChain
    rw [hl]
    rfl
  have given (o : Option Job) (ho : ∀ j, o = some j → j.blocks = []) : SameBlocks s (setLane l o s) := fun b => by
    have lanes := laneCount_setLane l o s b
    have none : (o.map (·.blocks)).getD [] = [] := by
      cases o with
      | none => rfl
      | some j => exact ho j rfl
    rw [idle, none] at lanes
    rw [Nat.add_right_cancel lanes, outputCount_setLane, takeCount_setLane, setLane_store]
  have emptied : SameBlocks s (setLane l none s) := given none fun _ h => (Option.some_ne_none _ h.symm).elim
  unfold beginJob
  split
  · exact .refl s
  · dsimp only
    split
    · refine (emptied.writeResult ?_ hc).enterState
      rfl
    · refine given _ fun j hj => ?_
      rw [← Option.some.inj hj]
      rfl

/-! ### A block given -/

/-- A page's source has an owner: the stream's take, or the lane's job (R65). -/
def Owned (s : State) (src : Source) : Prop :=
  match src with
  | .stream p => ∃ st r, s.captures[p] = some st ∧ s.takes[st.take] = some r
  | .lane l => ∃ j, s.lanes[l] = some j

/-- The block joins the owner's chain (R65). -/
theorem appendBlock_count (h : Owned s src) (x b : Nat) :
    takeCount (appendBlock src x s) b + laneCount (appendBlock src x s) b =
      takeCount s b + laneCount s b + [x].count b := by
  cases src with
  | stream p =>
    obtain ⟨st, r, hst, hr⟩ := h
    have chain : takeChain s st.take = r.chain := by
      unfold takeChain
      rw [hr]
    have taken := takeCount_setTake st.take (some { r with chain := r.chain ++ [x] }) s b
    have appended : takeCount (appendBlock (.stream p) x s) b =
        takeCount (setTake st.take (some { r with chain := r.chain ++ [x] }) s) b := by
      simp only [appendBlock, modStore_captures, hst]
      rw [modTake_of_some (r := r) (s := modStore (setTarget (.stream p) .placed) s) hr]
      rfl
    have lanes : laneCount (appendBlock (.stream p) x s) b = laneCount s b := by
      refine laneCount_congr ?_ b
      simp only [appendBlock, modStore_captures, hst]
      rfl
    rw [chain] at taken
    simp only [Option.map_some, Option.getD_some, List.count_append] at taken
    omega
  | lane l =>
    obtain ⟨j, hj⟩ := h
    have blocks : laneChain s l = j.blocks := by
      unfold laneChain
      rw [hj]
      rfl
    have given := laneCount_setLane l (some { j with blocks := j.blocks ++ [x] }) s b
    have appended : laneCount (appendBlock (.lane l) x s) b =
        laneCount (setLane l (some { j with blocks := j.blocks ++ [x] }) s) b := by
      refine laneCount_congr ?_ b
      have hj : s.lanes[l.val] = some j := hj
      simp [appendBlock, modJob, setLane, modStore, hj]
    have takes : takeCount (appendBlock (.lane l) x s) b = takeCount s b := rfl
    rw [blocks] at given
    simp only [Option.map_some, Option.getD_some, List.count_append] at given
    omega

theorem appendBlock_chapters (src : Source) (x : Nat) (s : State) : (appendBlock src x s).chapters = s.chapters := by
  unfold appendBlock
  cases src with
  | stream p => dsimp only; split <;> rfl
  | lane l => rfl

/-- A block that leaves a pool, or the array, for its owner's chain. -/
theorem sameBlocks_appendBlock (h : Owned s src) {x : Nat}
    (hp : ∀ b, poolCount t.store b = poolCount s.store b + [x].count b) (ht : t.takes = s.takes)
    (hc : t.chapters = s.chapters) (hl : t.lanes = s.lanes) : SameBlocks t (appendBlock src x s) := fun b => by
  have chains := appendBlock_count h x b
  have pools : poolCount (appendBlock src x s).store b = poolCount s.store b := by
    rw [appendBlock_store]
    rfl
  have outputs : outputCount (appendBlock src x s) b = outputCount t b :=
    outputCount_congr (ownedChain_congr ((appendBlock_chapters src x s).trans hc.symm)) b
  rw [pools, outputs, hp b, takeCount_congr ht, laneCount_congr hl]
  omega

/-! ### Turns -/

/-- What a law of blocks may assume of a state between two events: the queue, the lanes and the streams are in order,
each record holds what its state asks, and the two laws of the store hold. -/
structure Sound (s : State) : Prop where
  held : (view s).HeldLaw
  present : (view s).Records Present
  streams : (view s).StreamLaw
  pages : PageLaw s
  blocks : BlockLaw s

/-- A chapter on the render path owns no output (R10, R11). -/
theorem Sound.no_output (h : Sound s) {c : ChapterId} {r : Chapter} (hr : s.chapters[c] = some r)
    (hs : r.state = .queued ∨ r.state = .rendering) : ownedOutput r = none := by
  rw [ownedOutput, ((h.present c r hr).underway (.inr hs)).2]
  rfl

/-- The head entry's chapter owns no output. -/
theorem Sound.no_output_queued (h : Sound s) {e : Entry} (he : e ∈ s.queue) {r : Chapter}
    (hr : s.chapters[e.chapter] = some r) : ownedOutput r = none := by
  obtain ⟨x, hx, hs⟩ := h.held.queued e.chapter (List.mem_map_of_mem he)
  have hx : s.chapters[e.chapter] = some x := hx
  rw [hr] at hx
  cases hx
  exact h.no_output hr (.inl hs)

/-- A chapter in a lane is in use, and owns no output. -/
theorem Sound.rendering (h : Sound s) {l : Lane} {j : Job} (hl : s.lanes[l] = some j) :
    ∃ r, s.chapters[j.chapter] = some r ∧ r.state = .rendering ∧ ownedOutput r = none := by
  obtain ⟨r, hr, hs⟩ := h.held.rendering l j.chapter (view_lane_of_some hl)
  have hr : s.chapters[j.chapter] = some r := hr
  exact ⟨r, hr, hs, h.no_output hr (.inr hs)⟩

/-- A source at work has an owner (R26, R38). -/
theorem Sound.owned (h : Sound s) (hp : SourcePresent s src) : Owned s src := by
  cases src with
  | stream p =>
    obtain ⟨st, hst⟩ := Option.ne_none_iff_exists'.mp hp
    obtain ⟨f, hf, -⟩ := h.streams.take p _ (view_stream_of_some hst)
    obtain ⟨r, hr, -⟩ := Option.map_eq_some_iff.mp hf
    exact ⟨st, r, hst, hr⟩
  | lane l => exact Option.ne_none_iff_exists'.mp hp

/-- A source with a page that waits for a block has an owner (R75). -/
theorem Sound.owned_of_waits (h : Sound s) (hw : waitsForBlock src s.store = true) : Owned s src := by
  obtain ⟨i, target, hi, -⟩ := loaded_of_waitsForBlock hw
  exact h.owned ((pageLaw_iff.mp h.pages).owner i src (pageSource_of_targetOf hi))

/-- A turn moves blocks from place to place, and loses none. -/
theorem Turn.sameBlocks (h : Turn s t) (hs : Sound s) : SameBlocks s t := by
  cases h with
  | mark f hf =>
    refine sameBlocks_modStore fun b => ?_
    have he : (f s.store).erased = s.store.erased := congrArg Places.erased (hf s.store)
    have hd : (f s.store).dirty = s.store.dirty := congrArg Places.dirty (hf s.store)
    have ha : (f s.store).array = s.store.array := congrArg Places.array (hf s.store)
    unfold poolCount
    rw [he, hd, ha]
  | retarget | load => exact sameBlocks_modStore fun _ => rfl
  | give src b rest he hw =>
    have owned : Owned (modStore (fun st => { st with erased := rest }) s) src := hs.owned_of_waits hw
    refine sameBlocks_appendBlock owned (fun x => ?_) rfl rfl rfl
    simp only [poolCount, modStore_store, he, List.count_cons, List.count_nil]
    omega
  | program src i page slot bytes ha hi =>
    refine sameBlocks_modStore fun x => ?_
    unfold poolCount
    rw [ha]
    rfl
  | builtIn src b rest ha hd hw =>
    refine sameBlocks_modStore fun x => ?_
    simp only [poolCount, setTarget_erased, setTarget_dirty, setTarget_array, ha, hd, erasingBlock, List.count_cons,
      List.count_nil]
    omega
  | background b rest ha hd =>
    refine sameBlocks_modStore fun x => ?_
    simp only [poolCount, ha, hd, erasingBlock, List.count_cons, List.count_nil]
    omega
  | read who slot ha =>
    refine sameBlocks_modStore fun x => ?_
    unfold poolCount
    rw [ha]
    rfl
  | fetch p f hf => exact sameBlocks_of_frame rfl rfl rfl rfl
  | fifo p n => exact sameBlocks_of_frame rfl rfl rfl rfl
  | job l f hf => exact sameBlocks_modJob fun j => (hf j).2
  | post n => exact sameBlocks_broadcast n s
  | start l e rest hl hq =>
    have dequeued : SameBlocks s (setQueue rest s) := sameBlocks_of_frame rfl rfl rfl rfl
    refine dequeued.enterState.trans (sameBlocks_beginJob e.origin ?_ fun r hr => ?_)
    · rw [enterState_lanes]
      exact hl
    · rw [enterState_chapters, if_pos rfl] at hr
      obtain ⟨x, hx, rfl⟩ := Option.map_eq_some_iff.mp hr
      have hx : s.chapters[e.chapter] = some x := hx
      have none : ownedOutput x = none := hs.no_output_queued (e := e) (by rw [hq]; exact List.mem_cons_self ..) hx
      exact none
  | abort l j hl => exact (sameBlocks_clearLane l s).enterState
  | reject l j g cause hl hg =>
    obtain ⟨r, hr, -, ho⟩ := hs.rendering hl
    refine ((sameBlocks_clearLane l s).writeResult hg fun x hx => ?_).enterState
    rw [clearLane_eq] at hx
    obtain rfl : x = r := Option.some.inj (hx.symm.trans hr)
    exact ho

/-- What the catalogue's changes keep of a sound state. -/
theorem Sound.of_path (h : Sound s) (hp : Path True (view s) (view t)) (pages : PageLaw t) (blocks : BlockLaw t) :
    Sound t where
  held := hp.heldLaw trivial h.held
  present := hp.records trivial h.held (fun _ _ _ => by simp [Present, freshChapter])
    (fun _ _ _ _ ho => ho.present trivial) h.present
  streams := hp.keep (fun _ _ k => k.streamLaw) h.streams
  pages := pages
  blocks := blocks

theorem Turns.sound (h : Turns s t) (hs : Sound s) : Sound t := by
  induction h with
  | refl => exact hs
  | tail _ ht ih =>
    exact ih.of_path ht.consequences.path (ht.pageLaw ih.pages) ((ht.sameBlocks ih).blockLaw ih.blocks)

end Sys2Proof.Machine

/-! The array's bytes after a program and after an erase (R63, R68). -/

namespace Sys2Proof.Machine

variable {mem : List Host.Cell} {slot : Nat} {bytes : List Byte}

theorem pageBase_succ (slot : Nat) : pageBase (slot + 1) = pageBase slot + Config.pageBytes := by
  simp [pageBase, Nat.add_mul]

theorem pageBase_block (b : Nat) : pageBase (slotOf b 0) = b * 196608 := by
  rw [pageBase, slotOf, Nat.add_zero, Nat.mul_assoc, Config.blockPages, Config.pageBytes]

theorem length_readPage (mem : List Host.Cell) (slot : Nat) : (readPage mem slot).length = Config.pageBytes := by
  simp [readPage]

/-- A page read is its bytes, address by address. -/
theorem readPage_eq (mem : List Host.Cell) (slot : Nat) :
    readPage mem slot = (List.range Config.pageBytes).map fun i => readByte mem (pageBase slot + i) := by
  refine List.map_congr_left fun i hi => readByte_filter fun b => ?_
  have hlt : i < Config.pageBytes := List.mem_range.mp hi
  have hend := pageBase_succ slot
  simp only [decide_eq_true_eq]
  omega

/-- A filter that drops every cell at an address leaves the address unlisted. -/
theorem readByte_filter_dropped {a : Nat} {f : Host.Cell → Bool} (h : ∀ b, f (a, b) = false) :
    readByte (mem.filter f) a = unlisted :=
  readByte_of_forall_ne fun c hc e => by
    have kept := (List.mem_filter.mp hc).2
    rw [← Prod.mk.eta (p := c), e, h] at kept
    exact Bool.noConfusion kept

/-- The programmed page holds the buffer's bytes. -/
theorem readByte_programPage_inside (mem : List Host.Cell) (slot : Nat) (bytes : List Byte) {i : Nat}
    (hi : i < Config.pageBytes) :
      readByte (programPage mem slot bytes) (pageBase slot + i) = bytes.getD i unlisted := by
  have hend := pageBase_succ slot
  unfold programPage
  rw [readByte_append_left, readByte_append_right, readByte_cellsFrom]
  · simp [List.getD_eq_getElem?_getD, hi]
  · intro c hc
    have := of_decide_eq_true (List.mem_filter.mp hc).2
    omega
  · intro c hc
    have := of_decide_eq_true (List.mem_filter.mp hc).2
    omega

/-- Below the programmed page, and above it, every byte stays. -/
theorem readByte_programPage_outside (mem : List Host.Cell) (slot : Nat) (bytes : List Byte) {a : Nat}
    (ha : a < pageBase slot ∨ pageBase (slot + 1) ≤ a) : readByte (programPage mem slot bytes) a = readByte mem a := by
  have hend := pageBase_succ slot
  have hlen : (bytes.take Config.pageBytes).length ≤ Config.pageBytes := List.length_take_le _ _
  have page : ∀ c ∈ cellsFrom (pageBase slot) (bytes.take Config.pageBytes), c.1 ≠ a := fun c hc => by
    obtain ⟨hlow, hhigh, -⟩ := mem_cellsFrom hc
    omega
  unfold programPage
  rcases ha with ha | ha
  · rw [readByte_append_left, readByte_append_left page, readByte_filter fun b => decide_eq_true ha]
    intro c hc
    have := of_decide_eq_true (List.mem_filter.mp hc).2
    omega
  · rw [readByte_append_right, readByte_filter fun b => decide_eq_true ha]
    intro c hc
    rcases List.mem_append.mp hc with hc | hc
    · have := of_decide_eq_true (List.mem_filter.mp hc).2
      omega
    · exact page c hc

/-- The whole page reads back. -/
theorem readPage_programPage (mem : List Host.Cell) (slot : Nat) (hb : bytes.length = Config.pageBytes) :
    readPage (programPage mem slot bytes) slot = bytes := by
  rw [readPage_eq]
  refine List.ext_getElem (by simp [hb]) fun i hi hi' => ?_
  rw [List.getElem_map, List.getElem_range, readByte_programPage_inside mem slot bytes (hb ▸ hi')]
  exact List.getD_eq_getElem bytes unlisted hi'

/-- A byte of the erased block reads as unlisted, every other byte stays. -/
theorem readByte_eraseBlock (mem : List Host.Cell) (b a : Nat) : readByte (eraseBlock mem b) a =
    if a < pageBase (slotOf b 0) ∨ pageBase (slotOf (b + 1) 0) ≤ a then readByte mem a else unlisted := by
  unfold eraseBlock
  split
  · rename_i h
    exact readByte_filter fun _ => decide_eq_true h
  · rename_i h
    exact readByte_filter_dropped fun _ => decide_eq_false h

/-- Every page of the erased block reads as 0x00. -/
theorem readPage_eraseBlock (mem : List Host.Cell) (b : Nat) {page : Nat} (hp : page < 64) :
    readPage (eraseBlock mem b) (64 * b + page) = List.replicate 3072 0 := by
  rw [readPage_eq, List.eq_replicate_iff]
  refine ⟨by simp [Config.pageBytes], fun x hx => ?_⟩
  obtain ⟨i, hi, rfl⟩ := List.mem_map.mp hx
  have hi : i < 3072 := List.mem_range.mp hi
  rw [readByte_eraseBlock, if_neg]
  · rfl
  · simp only [pageBase, slotOf, Config.pageBytes, Config.blockPages]
    omega

/-- Settles O24: a program is the page's bytes between the cells below and above it, an erase drops the block's cells,
and each reads accordingly. -/
theorem arrayReadAfterWrite : Obligations.ArrayReadAfterWrite := by
  unfold Obligations.ArrayReadAfterWrite
  refine ⟨fun mem slot bytes hb => ?_, fun mem slot bytes a ha => ?_, fun mem b page hp => ?_, fun mem b a ha => ?_⟩
  · have whole : bytes.length = Config.pageBytes := by rw [hb, Config.pageBytes]
    exact readPage_programPage mem slot whole
  · refine readByte_programPage_outside mem slot bytes ?_
    rw [pageBase, pageBase, Config.pageBytes]
    exact ha
  · exact readPage_eraseBlock mem b hp
  · rw [readByte_eraseBlock, pageBase_block, pageBase_block, if_pos ha]

end Sys2Proof.Machine

/-! The store's notices, the pools, and the arbiter's choice (R66 to R74, R81, R82): what each operation leaves, and the
tiers in their order. -/

namespace Sys2Proof.Machine

variable {s t : State} {src : Source} {b : Nat} {rest : List Nat}

/-! ### Notices of the store (R81, R82) -/

@[simp] theorem lowCheck_store (before detail : Nat) (s : State) : (lowCheck before detail s).store = s.store := by
  unfold lowCheck
  split <;> rfl

@[simp] theorem lowCheck_takes (before detail : Nat) (s : State) : (lowCheck before detail s).takes = s.takes := by
  unfold lowCheck
  split <;> rfl

@[simp] theorem lowCheck_lanes (before detail : Nat) (s : State) : (lowCheck before detail s).lanes = s.lanes := by
  unfold lowCheck
  split <;> rfl

@[simp] theorem lowCheck_captures (before detail : Nat) (s : State) :
    (lowCheck before detail s).captures = s.captures := by
  unfold lowCheck
  split <;> rfl

theorem broadcast_ports_at (n : Notice) (s : State) (q : Port) : (broadcast n s).ports[q] =
    if subscribed n.kind s.ports[q] then pushNotice n s.ports[q] else s.ports[q] := broadcast_ports s n q

/-- STORE_LOW is posted exactly when the free count falls by one from 65 (R82). -/
theorem lowCheck_ports {before detail : Nat} (h : freeCount s.store + 1 = before) (q : Port) :
    (lowCheck before detail s).ports[q] = if before = 65 ∧ s.ports[q].subs.getLsbD 1 = true then
      pushNotice (notice .storeLow 255 detail 64) s.ports[q] else s.ports[q] := by
  unfold lowCheck
  by_cases hb : before = 65
  · have count : freeCount s.store = 64 := by omega
    have low : Config.lowStore < before ∧ freeCount s.store ≤ Config.lowStore := by
      simp [Config.lowStore, hb, count]
    rw [if_pos low, broadcast_ports_at, count]
    simp only [hb, true_and]
    rfl
  · have high : ¬ (Config.lowStore < before ∧ freeCount s.store ≤ Config.lowStore) := by
      simp only [Config.lowStore]
      omega
    rw [if_neg high, if_neg fun h => hb h.1]

theorem sweptCheck_of_not_sweep (h : s.store.sweep = false) : sweptCheck s = s := by
  unfold sweptCheck
  rw [h]
  rfl

@[simp] theorem sweptCheck_array (s : State) : (sweptCheck s).store.array = s.store.array := by
  unfold sweptCheck
  split <;> rfl

@[simp] theorem sweptCheck_erased (s : State) : (sweptCheck s).store.erased = s.store.erased := by
  unfold sweptCheck
  split <;> rfl

@[simp] theorem sweptCheck_dirty (s : State) : (sweptCheck s).store.dirty = s.store.dirty := by
  unfold sweptCheck
  split <;> rfl

@[simp] theorem sweptCheck_buffers (s : State) : (sweptCheck s).store.buffers = s.store.buffers := by
  unfold sweptCheck
  split <;> rfl

theorem sweptCheck_sweep (s : State) : (sweptCheck s).store.sweep = (s.store.sweep && !s.store.dirty.isEmpty) := by
  unfold sweptCheck
  split
  · rename_i h
    rw [Bool.and_eq_true] at h
    rw [h.2]
    simp
  · rename_i h
    cases hs : s.store.sweep <;> simp_all

/-- STORE_SWEPT is posted exactly when the sweep's last DIRTY block has been taken (R81). -/
theorem sweptCheck_ports (s : State) (q : Port) : (sweptCheck s).ports[q] =
    if s.store.sweep = true ∧ s.store.dirty = [] ∧ s.ports[q].subs.getLsbD 2 = true then
      pushNotice (notice .storeSwept 255 0 s.store.erased.length) s.ports[q] else s.ports[q] := by
  unfold sweptCheck
  by_cases hd : s.store.sweep = true ∧ s.store.dirty = []
  · rw [if_pos (by simp [hd.1, hd.2]), broadcast_ports_at]
    simp only [hd.1, hd.2, true_and]
    rfl
  · rw [if_neg (by simpa using hd), if_neg fun h => hd ⟨h.1, h.2.1⟩]

theorem freeCount_sweptCheck (s : State) : freeCount (sweptCheck s).store = freeCount s.store := by
  simp [freeCount, backgroundErasing]

/-! ### Pages by source -/

theorem loadedBuffer_congr {st st' : Store} (h : st'.buffers = st.buffers) (src : Source) :
    loadedBuffer src st' = loadedBuffer src st := by
  unfold loadedBuffer
  rw [h]

/-- A source's request, of what its page waits for. -/
theorem hasRequest_eq (src : Source) (st : Store) : hasRequest src st =
    ((loadedBuffer src st).any fun x => x.2 == .placed || x.2 == .posted) := by
  unfold hasRequest
  rcases loadedBuffer src st with _ | ⟨_, _ | _ | _ | _⟩ <;> rfl

/-! ### Built-in and background erases (R71, R72) -/

/-- The store right after a built-in erase has taken the oldest DIRTY block. -/
def builtInStarted (src : Source) (b : Nat) (rest : List Nat) (st : Store) : Store :=
  setTarget src .erasing { st with dirty := rest, array := .erasing b (.builtIn src) false }

theorem startBuiltIn_eq (hd : s.store.dirty = b :: rest) : startBuiltIn src s =
    eraseNotices (freeCount s.store) (lowDetail src) (modStore (builtInStarted src b rest) s) := by
  unfold startBuiltIn
  rw [hd]
  rfl

/-- The erase notices change no page and no pool. -/
theorem eraseNotices_store (before detail : Nat) (s : State) :
    (eraseNotices before detail s).store.array = s.store.array ∧
      (eraseNotices before detail s).store.dirty = s.store.dirty ∧
      (eraseNotices before detail s).store.erased = s.store.erased ∧
      (eraseNotices before detail s).store.buffers = s.store.buffers := by
  unfold eraseNotices
  split <;> simp

/-- Outside the sweep the erase notices are the STORE_LOW alone. -/
theorem eraseNotices_of_not_sweep (before detail : Nat) (h : s.store.sweep = false) :
    eraseNotices before detail s = lowCheck before detail s := by
  have low : (lowCheck before detail s).store.sweep = false := by rw [lowCheck_store, h]
  unfold eraseNotices
  rw [sweptCheck_of_not_sweep h, sweptCheck_of_not_sweep low, ite_self]

/-- What a built-in erase leaves in the store. -/
theorem startBuiltIn_store (hd : s.store.dirty = b :: rest) :
    (startBuiltIn src s).store.array = .erasing b (.builtIn src) false ∧ (startBuiltIn src s).store.dirty = rest ∧
      (startBuiltIn src s).store.erased = s.store.erased ∧
      (startBuiltIn src s).store.buffers = (setTarget src .erasing s.store).buffers := by
  obtain ⟨array, dirty, erased, buffers⟩ := eraseNotices_store (freeCount s.store) (lowDetail src)
    (modStore (builtInStarted src b rest) s)
  rw [startBuiltIn_eq hd, array, dirty, erased, buffers]
  simp [builtInStarted, setTarget, modBuffer, allBuffers]

/-- A built-in erase outside the sweep lowers the free count by one (R72, R82). -/
theorem startBuiltIn_ports (hd : s.store.dirty = b :: rest) (ha : s.store.array = .idle) (hs : s.store.sweep = false) :
    freeCount (startBuiltIn src s).store + 1 = freeCount s.store ∧
      ∀ q : Port, (startBuiltIn src s).ports[q] = if freeCount s.store = 65 ∧ s.ports[q].subs.getLsbD 1 = true then
        pushNotice (notice .storeLow 255 (lowDetail src) 64) s.ports[q] else s.ports[q] := by
  have sweep : (modStore (builtInStarted src b rest) s).store.sweep = false := by simp [builtInStarted, hs]
  have count : freeCount (modStore (builtInStarted src b rest) s).store + 1 = freeCount s.store := by
    simp [builtInStarted, freeCount, backgroundErasing, hd, ha, flag]
    omega
  rw [startBuiltIn_eq hd, eraseNotices_of_not_sweep _ _ sweep, lowCheck_store]
  exact ⟨count, fun q => lowCheck_ports count q⟩

theorem startBackground_eq (hd : s.store.dirty = b :: rest) : startBackground s =
    sweptCheck (modStore (fun st => { st with dirty := rest, array := .erasing b .background false }) s) := by
  unfold startBackground
  rw [hd]

/-! ### The arbiter's tiers (R69) -/

/-- The first reader of a cycle that waits, with what it waits for. -/
theorem findSome?_of_find? {α β : Type} {g : α → Option β} {as : List α} {a : α} {x : β}
    (h : as.find? (fun a => (g a).isSome) = some a) (hx : g a = some x) :
    as.findSome? (fun a => (g a).map fun x => (a, x)) = some (a, x) := by
  induction as with
  | nil => exact absurd h (Option.some_ne_none a ∘ Eq.symm)
  | cons c as ih =>
    rw [List.find?_cons] at h
    rw [List.findSome?_cons]
    cases hc : g c with
    | none =>
      rw [hc] at h
      exact ih h
    | some y =>
      rw [hc] at h
      obtain rfl : c = a := Option.some.inj h
      rw [hx] at hc
      rw [Option.some.inj hc]
      rfl

theorem find?_none {α : Type} {f : α → Bool} {as : List α} (h : ∀ a, f a = false) : as.find? f = none :=
  List.find?_eq_none.mpr fun a _ => by simp [h a]

/-- Tier 1: a capture stream's request. -/
theorem chooseOnce_stream {p : Port}
    (h : (cycleAfter s.store.last1).find? (fun p => hasRequest (.stream p) s.store) = some p) :
    chooseOnce s = some (serveStream p s) := by
  unfold chooseOnce
  rw [h]

section

variable (h1 : ∀ p, hasRequest (.stream p) s.store = false)
include h1

/-- Tier 2: the background erase, while fewer than 16 blocks are ERASED. -/
theorem chooseOnce_low (hl : s.store.erased.length < 16) (hd : s.store.dirty ≠ []) :
    chooseOnce s = some (startBackground s) := by
  unfold chooseOnce
  rw [find?_none h1]
  simp [erasedLow, hl, hd]

variable (h2 : 16 ≤ s.store.erased.length ∨ s.store.dirty = [])
include h2

/-- Tier 3: a page read. -/
theorem chooseOnce_read {i : Fin 6} {slot : Nat}
    (hi : (cycleAfter s.store.last3).find? (fun i => (readWaiting s (readerAt i)).isSome) = some i)
    (hslot : readWaiting s (readerAt i) = some slot) :
    chooseOnce s = some (modStore (fun st => { st with last3 := i }) (startRead (readerAt i) slot s)) := by
  have tier : (erasedLow s.store && !s.store.dirty.isEmpty) = false := by
    rcases h2 with h | h <;> simp [erasedLow, h]
  unfold chooseOnce
  rw [find?_none h1, findSome?_of_find? (g := fun i => readWaiting s (readerAt i)) hi hslot]
  simp [tier]

variable (h3 : ∀ i, readWaiting s (readerAt i) = none)
include h3

/-- What is left below tier 3. -/
theorem chooseOnce_render : chooseOnce s =
    match (cycleAfter s.store.last4).find? fun l => hasRequest (.lane l) s.store with
    | some l => some (serveLane l s)
    | none => if s.store.dirty.isEmpty then none else some (startBackground s) := by
  have tier : (erasedLow s.store && !s.store.dirty.isEmpty) = false := by
    rcases h2 with h | h <;> simp [erasedLow, h]
  have reads : (cycleAfter s.store.last3).findSome?
      (fun i => (readWaiting s (readerAt i)).map fun slot => (i, slot)) = none :=
    List.findSome?_eq_none_iff.mpr fun i _ => by rw [h3 i]; rfl
  unfold chooseOnce
  rw [find?_none h1, reads]
  simp only [tier]
  rfl

end

/-! ### What each choice does (R69 to R72) -/

section

variable {i : Fin 2} {p : Port} {l : Lane}

theorem startProgram_eq {page : Nat} {bytes : List Byte} {target : Target}
    (h : s.store.buffers[i] = .loaded src page bytes target) : startProgram i s = modStore (fun st =>
      { modBuffer i (fun _ => .programming src false page (chainSlot (sourceChain s src) page) bytes) st with
        array := .programming i }) s := by
  unfold startProgram
  rw [h]

theorem serveStream_placed (h : loadedBuffer (.stream p) s.store = some (i, .placed)) :
    serveStream p s = modStore (fun st => { st with last1 := p }) (startProgram i s) := by
  unfold serveStream
  rw [h]

theorem serveStream_withdrawn (h : loadedBuffer (.stream p) s.store = some (i, .posted)) (hd : s.store.dirty = []) :
    serveStream p s = modStore (setTarget (.stream p) .unposted) s := by
  unfold serveStream
  rw [h]
  simp [hd]

theorem serveStream_erase (h : loadedBuffer (.stream p) s.store = some (i, .posted)) (hd : s.store.dirty = b :: rest) :
    serveStream p s = modStore (fun st => { st with last1 := p }) (startBuiltIn (.stream p) s) := by
  unfold serveStream
  rw [h]
  simp [hd]

theorem serveLane_placed (h : loadedBuffer (.lane l) s.store = some (i, .placed)) :
    serveLane l s = modStore (fun st => { st with last4 := l }) (startProgram i s) := by
  unfold serveLane
  rw [h]

theorem serveLane_withdrawn (h : loadedBuffer (.lane l) s.store = some (i, .posted)) (hd : s.store.dirty = []) :
    serveLane l s = modStore (setTarget (.lane l) .unposted) s := by
  unfold serveLane
  rw [h]
  simp [hd]

theorem serveLane_full (h : loadedBuffer (.lane l) s.store = some (i, .posted)) (hd : s.store.dirty ≠ [])
    (hf : freeCount s.store ≤ 16) : serveLane l s = storeFull l s := by
  unfold serveLane
  rw [h]
  simp [hd, Config.renderReserve, hf]

theorem serveLane_erase (h : loadedBuffer (.lane l) s.store = some (i, .posted)) (hd : s.store.dirty = b :: rest)
    (hf : 16 < freeCount s.store) :
    serveLane l s = modStore (fun st => { st with last4 := l }) (startBuiltIn (.lane l) s) := by
  unfold serveLane
  rw [h]
  simp [hd, Config.renderReserve, Nat.not_le.mpr hf]

/-- The page whose built-in erase has started waits for it. -/
theorem loadedBuffer_startBuiltIn (h : loadedBuffer src s.store = some (i, .posted)) (hd : s.store.dirty = b :: rest) :
    loadedBuffer src (startBuiltIn src s).store = some (i, .erasing) := by
  rw [loadedBuffer_congr (startBuiltIn_store hd).2.2.2, loadedBuffer_setTarget_self, h]
  rfl

theorem startRead_lane {slot : Nat} {j : Job} {r : LaneRead} (hj : s.lanes[l] = some j) (hr : j.read = some r) :
    startRead (.lane l) slot s = setLane l (some { j with read := some { r with inProgress := true } })
      (modStore (fun st => { st with array := .reading (.lane l) false slot }) s) := by
  have hj : s.lanes[l.val] = some j := hj
  simp [startRead, modJob, setLane, modStore, hj, hr]

theorem modPort_congr {p : Port} {f g : PortState → PortState} (h : f s.ports[p] = g s.ports[p]) :
    modPort p f s = modPort p g s := by
  unfold modPort
  rw [h]

theorem startRead_port {slot : Nat} {a : Active} {f : Fetch} (ha : s.ports[p].stream = .active a)
    (hf : a.fetch = some f) : startRead (.port p) slot s =
      modPort p (fun ps => { ps with stream := .active { a with fetch := some { f with inProgress := true } } })
        (modStore (fun st => { st with array := .reading (.port p) false slot }) s) := by
  unfold startRead
  refine modPort_congr ?_
  have ha : (modStore (fun st => { st with array := .reading (.port p) false slot }) s).ports[p].stream = .active a :=
    ha
  simp only [ha, hf, Option.map_some]

end

/-- Settles O23: each tier by the requests that wait in it, then what each choice does to the pools, the buffers and the
ports. -/
theorem arbiterChoosesByTier : Obligations.ArbiterChoosesByTier := by
  unfold Obligations.ArbiterChoosesByTier
  refine ⟨⟨by decide, by decide, by decide⟩, fun s => ⟨fun p hp => chooseOnce_stream hp, fun h1 => ⟨chooseOnce_low h1,
    fun h2 => ⟨fun i slot => chooseOnce_read h1 h2,
      fun h3 => ⟨fun l hl => ?_, fun h4 => ⟨fun hd => ?_, fun hd => ?_⟩⟩⟩⟩⟩,
    fun s i page bytes => ⟨fun p hl hb => ?_, fun l hl hb => ?_⟩,
      fun s i => ⟨fun p hl => ⟨serveStream_withdrawn hl, ?_⟩,
    fun l hl => ⟨serveLane_withdrawn hl, serveLane_full hl, ?_⟩⟩, fun s t b rest hd ht => ?_,
    fun s slot => ⟨fun l j r hj hr => startRead_lane hj hr, fun p a f ha hf => startRead_port ha hf⟩⟩
  · rw [chooseOnce_render h1 h2 h3, hl]
  · rw [chooseOnce_render h1 h2 h3, find?_none h4]
    simp [hd]
  · rw [chooseOnce_render h1 h2 h3, find?_none h4]
    simp [hd]
  · rw [serveStream_placed hl, startProgram_eq hb]
    rfl
  · rw [serveLane_placed hl, startProgram_eq hb]
    rfl
  · rintro b rest t hd rfl
    obtain ⟨array, dirty, erased, -⟩ := startBuiltIn_store (src := .stream p) hd
    rw [serveStream_erase hl hd]
    exact ⟨array, dirty, rfl, erased, loadedBuffer_startBuiltIn hl hd, fun ha hs => startBuiltIn_ports hd ha hs⟩
  · rintro b rest t hd hf rfl
    obtain ⟨array, dirty, erased, -⟩ := startBuiltIn_store (src := .lane l) hd
    rw [serveLane_erase hl hd hf]
    exact ⟨array, dirty, rfl, erased, loadedBuffer_startBuiltIn hl hd, fun ha hs => startBuiltIn_ports hd ha hs⟩
  · subst ht
    rw [startBackground_eq hd]
    refine ⟨sweptCheck_array _, sweptCheck_dirty _, sweptCheck_erased _, fun ha => ?_, sweptCheck_sweep _,
      sweptCheck_ports _⟩
    rw [freeCount_sweptCheck]
    simp [freeCount, backgroundErasing, hd, ha, flag]
    omega

end Sys2Proof.Machine

/-! The part right after device reset (R200): no page, no reader and no job, so that the sweep's first erase is all that
follows. -/

namespace Sys2Proof.Machine

variable {s : State}

/-- Nothing is at work: no stream, no lane, no page in a buffer, no read-ahead, and no ERASED block. -/
structure Vacant (s : State) : Prop where
  captures : ∀ p : Port, s.captures[p] = none
  lanes : ∀ l : Lane, s.lanes[l] = none
  buffers : ∀ i : Fin 2, s.store.buffers[i] = .free
  streams : ∀ p : Port, s.ports[p].stream = .idle
  erased : s.store.erased = []

namespace Vacant

theorem streamOffers_false (h : Vacant s) (p : Port) : streamOffers s p = false := by
  unfold streamOffers
  rw [h.captures p]

theorem laneOffers_false (h : Vacant s) (l : Lane) : laneOffers s l = false := by
  unfold laneOffers
  rw [h.lanes l]

theorem hasRequest_false (h : Vacant s) (src : Source) : hasRequest src s.store = false := by
  rw [hasRequest_eq, loadedBuffer_eq_none fun i => by rw [h.buffers i]; rfl]
  rfl

theorem waitingDue_none (h : Vacant s) : waitingDue s = none := by
  unfold waitingDue
  rw [h.erased]
  rfl

theorem loadDue_none (h : Vacant s) : loadDue s = none := by
  unfold loadDue
  split
  · rfl
  · rw [find?_none h.streamOffers_false, find?_none h.laneOffers_false]

theorem loadAll_eq (h : Vacant s) (n : Nat) : loadAll n s = s := by
  cases n with
  | zero => rfl
  | succ n => rw [loadAll, h.waitingDue_none, h.loadDue_none]; rfl

theorem lanesAdvance_eq (h : Vacant s) : lanesAdvance s = s := by
  unfold lanesAdvance allLanes
  simp only [List.foldl_cons, List.foldl_nil, modJob_none (h.lanes _)]

theorem readersAdvance_eq (h : Vacant s) : readersAdvance s = s := by
  have still (p : Port) : modPort p (postFetch s) s = s := modPort_eq_self s (by
    have idle : s.ports[p.val].stream = .idle := h.streams p
    unfold postFetch
    rw [idle])
  unfold readersAdvance
  rw [h.lanesAdvance_eq]
  simp only [allPorts, List.foldl_cons, List.foldl_nil, still]

/-- With an idle array the oldest DIRTY block's background erase starts, and nothing else does (R69, R71, R81). -/
theorem settle_eq (h : Vacant s) (ha : s.store.array = .idle) {b : Nat} {rest : List Nat}
    (hd : s.store.dirty = b :: rest)
    (hr : rest ≠ []) :
    settle s = modStore (fun st => { st with dirty := rest, array := .erasing b .background false }) s := by
  have chosen : chooseOnce s = some (startBackground s) :=
    chooseOnce_low (fun p => h.hasRequest_false _) (by simp [h.erased]) (by simp [hd])
  have started : startBackground s =
      modStore (fun st => { st with dirty := rest, array := .erasing b .background false }) s := by
    rw [startBackground_eq hd]
    unfold sweptCheck
    simp [hr]
  generalize hu : modStore (fun st => { st with dirty := rest, array := .erasing b .background false }) s = u at started
  have vacant : Vacant u := hu ▸ ⟨h.captures, h.lanes, h.buffers, h.streams, h.erased⟩
  have busy : u.store.array ≠ .idle := by rw [← hu]; simp
  unfold settle
  rw [settleRounds, h.loadAll_eq, h.readersAdvance_eq]
  simp only [ha, if_true, chosen, started]
  rw [settleRounds, vacant.loadAll_eq, vacant.readersAdvance_eq]
  simp only [if_neg busy]

end Vacant

/-- The part in its initial state, with the ports as they are given. -/
def resetState (ports : Vector PortState 4) (pending : List Instr) : State :=
  { State.reset with ports := ports, pending := pending }

theorem vacant_resetState {ports : Vector PortState 4} (h : ∀ p : Port, ports[p].stream = .idle)
    (pending : List Instr) :
    Vacant (resetState ports pending) where
  captures p := by simp [resetState, State.reset]
  lanes l := by simp [resetState, State.reset]
  buffers i := by simp [resetState, State.reset, Store.reset]
  streams p := h p
  erased := rfl

/-- Every block in ascending order, the first apart from the rest. -/
theorem storeBlocks_eq : List.range Config.storeBlocks = 0 :: (List.range 16383).map (· + 1) :=
  List.range_succ_eq_map

theorem freshPorts_at (s : State) (p : Port) : (s.ports.map freshPort)[p] = freshPort s.ports[p] :=
  Vector.getElem_map ..

theorem resetState_dirty (ports : Vector PortState 4) (pending : List Instr) :
    (resetState ports pending).store.dirty = List.range Config.storeBlocks := by
  simp only [resetState, State.reset, Store.reset]

/-- DEVICE_RESET with its one consequence, where `rest` is every block but the first. -/
theorem execDeviceReset_eq (s : State) {rest : List Nat} (h : List.range Config.storeBlocks = 0 :: rest) :
    execDeviceReset s = .next (modStore (fun st => { st with dirty := rest, array := .erasing 0 .background false })
      (resetState (s.ports.map freshPort) s.pending)) := by
  have vacant : Vacant (resetState (s.ports.map freshPort) s.pending) :=
    vacant_resetState (fun p => by rw [freshPorts_at]; rfl) _
  have length : rest.length + 1 = Config.storeBlocks := by rw [← List.length_cons (a := 0), ← h, List.length_range]
  have some : rest ≠ [] := fun e => by
    rw [e, Config.storeBlocks, List.length_nil] at length
    omega
  have dirty : (resetState (s.ports.map freshPort) s.pending).store.dirty = 0 :: rest := by
    exact (resetState_dirty _ _).trans h
  have settled := vacant.settle_eq rfl dirty some
  unfold execDeviceReset
  rw [← settled]
  rfl

/-- Each cycle begins at its first member (R69, R75). -/
theorem cycleAfter_last : cycleAfter (3 : Port) = [0, 1, 2, 3] ∧ cycleAfter (1 : Lane) = [0, 1] ∧
    cycleAfter (5 : Fin 6) = [0, 1, 2, 3, 4, 5] := by decide

/-- Settles O41: the reset state is vacant, so its only consequence is the sweep's first erase. -/
theorem deviceResetInitialState : Obligations.DeviceResetInitialState := by
  unfold Obligations.DeviceResetInitialState
  intro s
  obtain ⟨ports, lanes, readers⟩ := cycleAfter_last
  have blocks := storeBlocks_eq
  have length : ((List.range 16383).map (· + 1)).length = 16383 := by rw [List.length_map, List.length_range]
  generalize (List.range 16383).map (· + 1) = rest at blocks length
  have vacant : Vacant (resetState (s.ports.map freshPort) s.pending) :=
    vacant_resetState (fun p => by rw [freshPorts_at]; rfl) _
  refine ⟨_, execDeviceReset_eq s blocks, ?_, ?_, ?_, vacant.captures, ?_, rfl, vacant.lanes, ?_, freshPorts_at s,
    rfl, rfl, rfl,
    rfl, ?_, vacant.buffers, ports, lanes, ports, readers, lanes, fun a => rfl, rfl⟩
  · intro k
    simp [resetState, State.reset]
  · intro k
    simp [resetState, State.reset]
  · intro c
    simp [resetState, State.reset]
  · intro p
    simp [resetState, State.reset, LevelEntry.clear]
  · intro n
    simp [resetState, State.reset]
  · simp [resetState, State.reset, Store.reset, freeCount, backgroundErasing, flag, length]

end Sys2Proof.Machine

/-! The completions in the array (R66, R68, R71, R72, R77 to R80, R176). -/

namespace Sys2Proof.Machine

variable {s : State} {p : Port} {l : Lane} {i : Fin 2} {slot b page : Nat} {gone : Bool} {bytes : List Byte}

/-! ### A block given, by its owner -/

/-- A capture stream's block joins its take's chain (R65). -/
theorem appendBlock_stream {st : Stream} {r : Take} (hst : s.captures[p] = some st) (hr : s.takes[st.take] = some r)
    (b : Nat) : appendBlock (.stream p) b s =
      setTake st.take (some { r with chain := r.chain ++ [b] }) (modStore (setTarget (.stream p) .placed) s) := by
  unfold appendBlock
  simp only [modStore_captures, hst]
  exact modTake_of_some (s := modStore (setTarget (.stream p) .placed) s) hr _

theorem modJob_of_some {j : Job} (hj : s.lanes[l] = some j) (f : Job → Job) :
    modJob l f s = setLane l (some (f j)) s := by
  rw [modJob, hj]
  rfl

/-- A lane's block joins its partial output (R65). -/
theorem appendBlock_lane {j : Job} (hj : s.lanes[l] = some j) (b : Nat) : appendBlock (.lane l) b s =
    setLane l (some { j with blocks := j.blocks ++ [b] }) (modStore (setTarget (.lane l) .placed) s) :=
  modJob_of_some (s := modStore (setTarget (.lane l) .placed) s) hj _

/-! ### Page reads -/

theorem execPageReadComplete_eq {who : Reader} (h : s.store.array = .reading who gone slot) : execPageReadComplete s =
    .next (commit s (if gone then freeArray s else deliverPage who (readPage s.store.mem slot) (freeArray s))) := by
  unfold execPageReadComplete
  rw [h]

/-- The segment a page makes: from the cursor when it is the first, to the end of the page or of the source (R176). -/
theorem arriveAtPort_of_fetch {ps : PortState} {a : Active} {f : Fetch} (ha : ps.stream = .active a)
    (hf : a.fetch = some f) (hb : bytes.length ≤ 3072) : arriveAtPort bytes ps = { ps with stream := .active { a with
      segments := a.segments ++ [⟨f.page, if a.segments = [] then a.cursor else f.page * 3072,
        (bytes.take (a.length - f.page * 3072)).drop
          ((if a.segments = [] then a.cursor else f.page * 3072) - f.page * 3072)⟩]
      fetch := none } } := by
  have whole : (bytes.take (a.length - f.page * 3072)).take 3072 = bytes.take (a.length - f.page * 3072) :=
    List.take_of_length_le ((List.length_take_le' ..).trans hb)
  unfold arriveAtPort
  simp only [ha, hf, Config.pageBytes, whole, List.isEmpty_iff]

theorem deliverPage_lane {j : Job} {r : LaneRead} (hj : s.lanes[l] = some j) (hr : j.read = some r)
    (bytes : List Byte) :
    deliverPage (.lane l) bytes s =
      setLane l (some { j with pages := j.pages ++ [⟨r.step, r.page, bytes⟩], read := none }) s := by
  have arrived : arriveAtLane bytes j = { j with pages := j.pages ++ [⟨r.step, r.page, bytes⟩], read := none } := by
    unfold arriveAtLane
    rw [hr]
  rw [← arrived]
  exact modJob_of_some hj _

/-! ### Page programs -/

/-- A program's end at a capture page, and the other completion, which does nothing. -/
theorem programmed_stream (ha : s.store.array = .programming i)
    (hi : s.store.buffers[i] = .programming (.stream p) gone page slot bytes) :
    execCapturePageProgrammed s = .next (commit s
      (if gone then endProgram i slot bytes s else takeClosedDue p (endProgram i slot bytes s))) ∧
      execOutputPageProgrammed s = .next s := by
  unfold execCapturePageProgrammed execOutputPageProgrammed
  simp only [ha, hi, and_self]

/-- A program's end at an output page, and the other completion, which does nothing. -/
theorem programmed_lane (ha : s.store.array = .programming i)
    (hi : s.store.buffers[i] = .programming (.lane l) gone page slot bytes) :
    execOutputPageProgrammed s = .next (commit s
      (if gone = false ∧ page = 0 then jobEnd l (endProgram i slot bytes s) else endProgram i slot bytes s)) ∧
      execCapturePageProgrammed s = .next s := by
  unfold execCapturePageProgrammed execOutputPageProgrammed
  simp only [ha, hi, Bool.and_eq_true, Bool.not_eq_true', beq_iff_eq, and_self]

/-! ### Erases -/

theorem execBackgroundEraseComplete_eq (h : s.store.array = .erasing b .background gone) :
    execBackgroundEraseComplete s = .next (commit s (joinErased b (endErase b s))) := by
  have begun : started s = s := if_neg (by rw [h]; exact ArrayOp.noConfusion)
  unfold execBackgroundEraseComplete
  simp only [begun, h]

theorem execBuiltInEraseComplete_eq {src : Source} (h : s.store.array = .erasing b (.builtIn src) gone) :
    execBuiltInEraseComplete s =
      .next (commit s (if gone then joinErased b (endErase b s) else appendBlock src b (endErase b s))) := by
  unfold execBuiltInEraseComplete
  rw [h]

/-- Settles O21: each completion is one equation of the model, and what it hands on goes to the reader or the owner that
is there. -/
theorem arrayOperationsComplete : Obligations.ArrayOperationsComplete := by
  unfold Obligations.ArrayOperationsComplete
  refine ⟨?_, ?_, ?_⟩
  · rintro s u who gone slot ha rfl
    have complete := execPageReadComplete_eq ha
    refine ⟨?_, ?_, ?_⟩
    · rintro rfl
      exact complete
    · rintro l j r rfl rfl hj hr
      rw [deliverPage_lane (s := freeArray s) hj hr] at complete
      exact complete
    · rintro p a f first rfl rfl hs hf rfl
      have arrived : deliverPage (.port p) (readPage s.store.mem slot) (freeArray s) = modPort p _ (freeArray s) :=
        modPort_congr (s := freeArray s) (g := fun ps => { ps with stream := .active { a with
          segments := a.segments ++ [⟨f.page, if a.segments = [] then a.cursor else f.page * 3072,
            ((readPage s.store.mem slot).take (a.length - f.page * 3072)).drop
              ((if a.segments = [] then a.cursor else f.page * 3072) - f.page * 3072)⟩]
          fetch := none } }) (arriveAtPort_of_fetch hs hf (length_readPage _ _).le)
      rw [arrived] at complete
      exact complete
  · rintro s u i gone page slot bytes ha rfl
    exact ⟨fun p hi => programmed_stream ha hi, fun l hi => programmed_lane ha hi⟩
  · rintro s u b gone rfl
    refine ⟨execBackgroundEraseComplete_eq, fun src ha => ?_⟩
    have complete := execBuiltInEraseComplete_eq ha
    refine ⟨?_, ?_, ?_⟩
    · rintro rfl
      exact complete
    · rintro p st r rfl rfl hst hr
      rw [appendBlock_stream (s := endErase b s) hst hr] at complete
      exact complete
    · rintro l j rfl rfl hj
      rw [appendBlock_lane (s := endErase b s) hj] at complete
      exact complete

end Sys2Proof.Machine

/-! Allocations and page loads (R66, R67, R73 to R78): what each leaves in the buffers, the pools and the chains. -/

namespace Sys2Proof.Machine

variable {s u : State} {src w : Source} {p : Port} {l : Lane} {i k : Fin 2} {b : Nat} {rest : List Nat}

/-! ### The free count (R66) -/
theorem freeCount_release (chain : List Nat) (s : State) :
    freeCount (release chain s).store = freeCount s.store + chain.length := by
  unfold freeCount backgroundErasing
  rw [release_erased, release_dirty, release_array, List.length_append]
  omega

/-! ### An allocation from the ERASED pool (R73, R74) -/

theorem takeErased_eq (he : s.store.erased = b :: rest) (src : Source) : takeErased src s =
    lowCheck (freeCount s.store) (lowDetail src)
      (appendBlock src b (modStore (fun st => { st with erased := rest }) s)) := by
  unfold takeErased
  rw [he]

@[simp] theorem appendBlock_ports (src : Source) (b : Nat) (s : State) : (appendBlock src b s).ports = s.ports := by
  unfold appendBlock
  cases src with
  | stream p => dsimp only; split <;> rfl
  | lane l => rfl

@[simp] theorem appendBlock_captures (src : Source) (b : Nat) (s : State) :
    (appendBlock src b s).captures = s.captures := by
  unfold appendBlock
  cases src with
  | stream p => dsimp only; split <;> rfl
  | lane l => rfl

/-- The store right after the oldest ERASED block has been given. -/
theorem takeErased_store (he : s.store.erased = b :: rest) (src : Source) :
    (takeErased src s).store = setTarget src .placed { s.store with erased := rest } := by
  rw [takeErased_eq he, lowCheck_store, appendBlock_store]
  rfl

theorem takeErased_buffers (he : s.store.erased = b :: rest) (src : Source) (i : Fin 2) :
    (takeErased src s).store.buffers[i] = retargeted src .placed s.store.buffers[i] := by
  rw [takeErased_store he, setTarget_buffers]

theorem takeErased_pools (he : s.store.erased = b :: rest) (src : Source) : (takeErased src s).store.erased = rest ∧
    (takeErased src s).store.dirty = s.store.dirty ∧ (takeErased src s).store.array = s.store.array := by
  rw [takeErased_store he]
  exact ⟨rfl, rfl, rfl⟩

theorem freeCount_takeErased (he : s.store.erased = b :: rest) (src : Source) :
    freeCount (takeErased src s).store + 1 = freeCount s.store := by
  obtain ⟨erased, dirty, array⟩ := takeErased_pools he src
  unfold freeCount backgroundErasing
  rw [erased, dirty, array, he, List.length_cons]
  omega

theorem takeErased_ports (he : s.store.erased = b :: rest) (src : Source) (q : Port) : (takeErased src s).ports[q] =
    if freeCount s.store = 65 ∧ s.ports[q].subs.getLsbD 1 = true then
      pushNotice (notice .storeLow 255 (lowDetail src) 64) s.ports[q] else s.ports[q] := by
  have count := freeCount_takeErased he src
  rw [takeErased_eq he, lowCheck_store] at count
  rw [takeErased_eq he, lowCheck_ports count, appendBlock_ports]
  rfl

/-- What an allocation posts hangs on the free count and the subscriptions alone. -/
theorem takeErased_ports_congr (he : s.store.erased = b :: rest) (hu : u.store.erased = b :: rest)
    (hc : freeCount u.store = freeCount s.store) (hp : u.ports = s.ports) (src : Source) :
    (takeErased src u).ports = (takeErased src s).ports := by
  refine Vector.ext fun q hq => ?_
  have now := takeErased_ports hu src ⟨q, hq⟩
  have before := takeErased_ports he src ⟨q, hq⟩
  rw [hc, hp, ← before] at now
  exact now

/-- The block joins the chain of the stream's take. -/
theorem takeErased_stream {st : Stream} {r : Take} (he : s.store.erased = b :: rest) (hst : s.captures[p] = some st)
    (hr : s.takes[st.take] = some r) :
    (takeErased (.stream p) s).takes[st.take] = some { r with chain := r.chain ++ [b] } ∧
      (takeErased (.stream p) s).lanes = s.lanes := by
  rw [takeErased_eq he, lowCheck_takes, lowCheck_lanes,
    appendBlock_stream (s := modStore (fun st => { st with erased := rest }) s) hst hr]
  exact ⟨setTake_takes_self .., rfl⟩

/-- The block joins the lane's partial output. -/
theorem takeErased_lane {j : Job} (he : s.store.erased = b :: rest) (hj : s.lanes[l] = some j) :
    (takeErased (.lane l) s).lanes[l] = some { j with blocks := j.blocks ++ [b] } ∧
      (takeErased (.lane l) s).takes = s.takes := by
  rw [takeErased_eq he, lowCheck_takes, lowCheck_lanes,
    appendBlock_lane (s := modStore (fun st => { st with erased := rest }) s) hj]
  exact ⟨setLane_lanes_self .., rfl⟩

/-! ### A page loaded into a buffer -/

/-- The store after a page has been loaded into a buffer. -/
def withPage (src : Source) (i : Fin 2) (page : Nat) (bytes : List Byte) (target : Target) (st : Store) : Store :=
  modBuffer i (fun _ => .loaded src page bytes target) st

section

variable {page : Nat} {bytes : List Byte} {target : Target} {st : Store}

theorem withPage_buffers_self : (withPage src i page bytes target st).buffers[i] = .loaded src page bytes target :=
  modBuffer_buffers_self ..

theorem withPage_buffers_ne (h : k ≠ i) : (withPage src i page bytes target st).buffers[k] = st.buffers[k] :=
  modBuffer_buffers_ne h ..

/-- Another source's page is where it was. -/
theorem loadedBuffer_withPage_ne (hi : st.buffers[i] = .free) (hw : w ≠ src) :
    loadedBuffer w (withPage src i page bytes target st) = loadedBuffer w st := by
  have same (k : Fin 2) : targetOf w (withPage src i page bytes target st).buffers[k] = targetOf w st.buffers[k] := by
    by_cases hk : k = i
    · rw [hk, withPage_buffers_self, hi]
      exact if_neg hw.symm
    · rw [withPage_buffers_ne hk]
  rw [loadedBuffer_eq, loadedBuffer_eq, same, same]

theorem allocating_withPage_ne (hi : st.buffers[i] = .free) (hw : w ≠ src) :
    allocating w (withPage src i page bytes target st) = allocating w st := by
  unfold allocating
  rw [loadedBuffer_withPage_ne hi hw]

end

/-! ### A capture page loaded (R73, R77) -/

/-- The state right after a capture page has left the FIFO for a buffer, before its allocation is judged. -/
def streamLoaded (p : Port) (i : Fin 2) (page : Nat) (bytes : List Byte) (target : Target) (s : State) : State :=
  modStore (fun st => { withPage (.stream p) i page bytes target st with loadedStream := p })
    (modStream p (fun st => { st with fifo := st.fifo.drop 1024 }) s)

theorem length_flatMap_sampleBytes (xs : List Sample) : (xs.flatMap sampleBytes).length = 3 * xs.length := by
  induction xs with
  | nil => rfl
  | cons x xs ih =>
    rw [List.flatMap_cons, List.length_append, ih, List.length_cons]
    simp only [sampleBytes, List.length_cons, List.length_nil]
    omega

theorem streamPage_eq {st : Stream} {r : Take} (hst : s.captures[p] = some st) (hr : s.takes[st.take] = some r) :
    streamPage s p = ((r.length - st.fifo.length) / 1024,
      ((st.fifo.take 1024).flatMap sampleBytes) ++ List.replicate (3072 - 3 * min 1024 st.fifo.length) 0) := by
  unfold streamPage padTo
  simp only [hst, hr, Config.pageSamples, Config.pageBytes, length_flatMap_sampleBytes, List.length_take,
    Option.map_some,
    Option.getD_some]

theorem loadStream_eq {page : Nat} {bytes : List Byte} (h : streamPage s p = (page, bytes)) (i : Fin 2) :
    loadStream p i s = if page % 64 = 0 then captureAllocation p (streamLoaded p i page bytes .unposted s)
      else streamLoaded p i page bytes .placed s := by
  unfold loadStream
  simp only [h, Config.blockPages, beq_iff_eq]
  split <;> rfl

theorem captureAllocation_take (he : s.store.erased = b :: rest)
    (ho : ∀ q, q ≠ p → allocating (.stream q) s.store = false) : captureAllocation p s = takeErased (.stream p) s := by
  have alone : (allPorts.any fun q => q != p && allocating (.stream q) s.store) = false := by
    refine List.any_eq_false.mpr fun q _ => ?_
    by_cases hq : q = p
    · simp [hq]
    · simp [ho q hq]
  unfold captureAllocation
  simp only [alone, he]
  rfl

theorem captureAllocation_empty (he : s.store.erased = []) : captureAllocation p s =
    modStore (setTarget (.stream p) (if s.store.dirty = [] then .unposted else .posted)) s := by
  unfold captureAllocation
  by_cases hd : s.store.dirty = [] <;> simp [he, hd]

/-! ### An output page loaded (R74, R78) -/

/-- A lane whose job has produced nothing yet, or that has none. -/
def LaneStarts (l : Lane) (s : State) : Prop := ∀ j, s.lanes[l] = some j → j.waiting = [] ∧ j.phase = .measure

theorem laneStarts_congr (h : u.lanes = s.lanes) (hs : LaneStarts l s) : LaneStarts l u := fun j hj => hs j (h ▸ hj)

theorem laneStarts_setLane {o : Option Job} {m : Lane} (hs : LaneStarts l s)
    (ho : ∀ j, o = some j → j.waiting = [] ∧ j.phase = .measure) : LaneStarts l (setLane m o s) := fun j hj => by
  by_cases hm : l = m
  · subst hm
    have self : (setLane l o s).lanes[l] = o := setLane_lanes_self s l o
    exact ho j (self ▸ hj)
  · have kept : (setLane m o s).lanes[l] = s.lanes[l] := setLane_lanes_ne s m l o hm
    exact hs j (kept ▸ hj)

theorem laneStarts_beginJob {m : Lane} {c : ChapterId} {origin : Port} (hs : LaneStarts l s) :
    LaneStarts l (beginJob m c origin s) := by
  have emptied : LaneStarts l (setLane m none s) := laneStarts_setLane hs fun _ h => (Option.some_ne_none _ h.symm).elim
  unfold beginJob
  split
  · exact hs
  · dsimp only
    split
    · refine laneStarts_congr ?_ emptied
      rw [enterState_lanes]
      rfl
    · refine laneStarts_setLane hs fun j hj => ?_
      rw [← Option.some.inj hj]
      exact ⟨rfl, rfl⟩

theorem laneStarts_takeEntries (n : Nat) (hs : LaneStarts l s) : LaneStarts l (takeEntries n s) := by
  induction n generalizing s with
  | zero => exact hs
  | succ n ih =>
    unfold takeEntries
    split
    · refine ih (laneStarts_beginJob (laneStarts_congr ?_ hs))
      rw [enterState_lanes]
      rfl
    · exact hs

/-- A lane whose job has been aborted is idle, or holds a new one (R88, R108). -/
theorem laneStarts_storeFull {j : Job} (hj : s.lanes[l] = some j) : LaneStarts l (storeFull l s) := by
  unfold storeFull
  rw [hj]
  refine laneStarts_takeEntries _ fun k hk => ?_
  have hk : (enterState j.chapter .ready .storeFull (clearLane l s)).lanes[l] = some k := hk
  rw [enterState_lanes, clearLane_lanes_self] at hk
  exact (Option.some_ne_none _ hk.symm).elim

theorem placeBytes_nil {j : Job} (h : j.waiting = []) : placeBytes [] j = j := by
  unfold placeBytes
  simp [crcBytes]
  rw [← h]

/-- An aborted job leaves no bytes to place and no pass to end (log 21). -/
theorem encodeEndDue_storeFull {j : Job} (hj : s.lanes[l] = some j) :
    encodeEndDue l (modJob l (fun j => placeBytes j.waiting j) (storeFull l s)) = storeFull l s := by
  have starts := laneStarts_storeFull hj
  generalize storeFull l s = t at starts
  cases ht : t.lanes[l] with
  | none =>
    rw [modJob_none ht, encodeEndDue, ht]
  | some k =>
    obtain ⟨waiting, phase⟩ := starts k ht
    have same : modJob l (fun j => placeBytes j.waiting j) t = t := by
      rw [modJob_of_some ht, waiting, placeBytes_nil waiting, ← ht]
      simp [setLane]
    rw [same, encodeEndDue, ht]
    simp [encodeOver, phase]

end Sys2Proof.Machine

/-! PAGE_LOAD and WAITING_ALLOCATION_SERVED, and what a loaded page brings with it (R73 to R78). -/

namespace Sys2Proof.Machine

variable {s : State} {p : Port} {l : Lane} {i : Fin 2} {b page : Nat} {rest : List Nat} {bytes : List Byte}

/-! ### Which page, and whose allocation (R73 to R75) -/

theorem execPageLoad_stream (hi : freeBuffer s.store = some i)
    (hp : (cycleAfter s.store.loadedStream).find? (streamOffers s) = some p) :
    execPageLoad s = .next (commit s (loadStream p i s)) := by
  unfold execPageLoad loadDue
  simp only [hi, hp]

theorem execPageLoad_lane (hi : freeBuffer s.store = some i) (hp : ∀ p, streamOffers s p = false)
    (hl : (cycleAfter s.store.loadedLane).find? (laneOffers s) = some l) :
    execPageLoad s = .next (commit s (loadLane l i s)) := by
  unfold execPageLoad loadDue
  simp only [hi, find?_none hp, hl]

theorem execPageLoad_not_offered (hi : freeBuffer s.store = some i) (hp : ∀ p, streamOffers s p = false)
    (hl : ∀ l, laneOffers s l = false) : execPageLoad s = .next s := by
  unfold execPageLoad loadDue
  simp only [hi, find?_none hp, find?_none hl]

theorem execPageLoad_full (hi : freeBuffer s.store = none) : execPageLoad s = .next s := by
  unfold execPageLoad loadDue
  simp only [hi]

theorem execWaitingAllocationServed_empty (he : s.store.erased = []) : execWaitingAllocationServed s = .next s := by
  unfold execWaitingAllocationServed waitingDue
  simp [he]

theorem execWaitingAllocationServed_stream (he : s.store.erased ≠ [])
    (hp : (cycleAfter s.store.last1).find? (fun p => waitsForBlock (.stream p) s.store) = some p) :
    execWaitingAllocationServed s = .next (commit s (takeErased (.stream p) s)) := by
  unfold execWaitingAllocationServed waitingDue
  simp [he, hp]

theorem execWaitingAllocationServed_lane (he : s.store.erased ≠ [])
    (hp : ∀ p, waitsForBlock (.stream p) s.store = false)
    (hl : (cycleAfter s.store.last4).find? (fun l => waitsForBlock (.lane l) s.store) = some l) :
    execWaitingAllocationServed s =
      .next (commit s (if freeCount s.store ≤ 16 then storeFull l s else takeErased (.lane l) s)) := by
  unfold execWaitingAllocationServed waitingDue
  rw [find?_none hp, hl]
  simp only [List.isEmpty_iff, he, if_false]
  rfl

/-! ### A capture page (R77) -/

section

variable {st : Stream} {r : Take}

/-- What every load of a capture page leaves, whatever its allocation does. -/
structure CaptureLoaded (s t : State) (p : Port) (i : Fin 2) (st : Stream) : Prop where
  fifo : t.captures[p] = some { st with fifo := st.fifo.drop 1024 }
  order : t.store.loadedStream = p
  others : ∀ q, q ≠ p → t.captures[q] = s.captures[q]
  buffers : ∀ k, k ≠ i → t.store.buffers[k] = s.store.buffers[k]

variable {target : Target}

theorem captureLoaded_streamLoaded (hst : s.captures[p] = some st) :
    CaptureLoaded s (streamLoaded p i page bytes target s) p i st where
  fifo := by
    have self : (streamLoaded p i page bytes target s).captures[p] =
        s.captures[p].map fun st => { st with fifo := st.fifo.drop 1024 } := modStream_captures_self ..
    rw [self, hst]
    rfl
  order := rfl
  others q hq := modStream_captures_ne s p q _ hq
  buffers _ hk := withPage_buffers_ne hk

/-- A new target for the stream's own page leaves the rest of the load. -/
theorem CaptureLoaded.of_retarget {t u : State} {new : Target} (h : CaptureLoaded s u p i st)
    (hs : ∀ k, k ≠ i → pageSource s.store.buffers[k] ≠ some (.stream p)) (hc : t.captures = u.captures)
    (ho : t.store.loadedStream = u.store.loadedStream)
    (hb : ∀ k : Fin 2, t.store.buffers[k] = retargeted (.stream p) new u.store.buffers[k]) :
      CaptureLoaded s t p i st where
  fifo := by rw [hc]; exact h.fifo
  order := ho.trans h.order
  others q hq := by rw [hc]; exact h.others q hq
  buffers k hk := by rw [hb, h.buffers k hk, retargeted_of_ne (hs k hk)]

theorem retargeted_streamLoaded (new : Target) : retargeted (.stream p) new
    (streamLoaded p i page bytes target s).store.buffers[i] = .loaded (.stream p) page bytes new := by
  have loaded : (streamLoaded p i page bytes target s).store.buffers[i] = .loaded (.stream p) page bytes target :=
    withPage_buffers_self
  rw [loaded, retargeted_loaded]

/-- The page that starts a block takes an ERASED block where no other stream's allocation waits (R73 step 1). -/
theorem captureAllocation_streamLoaded_take (hi : s.store.buffers[i] = .free) (he : s.store.erased = b :: rest)
    (ho : ∀ q, q ≠ p → allocating (.stream q) s.store = false) :
    captureAllocation p (streamLoaded p i page bytes .unposted s) =
      takeErased (.stream p) (streamLoaded p i page bytes .unposted s) :=
  captureAllocation_take (s := streamLoaded p i page bytes .unposted s) he fun q hq =>
    (allocating_withPage_ne hi fun h => hq (Source.stream.inj h)).trans (ho q hq)

end

/-! ### An output page (R74, R78) -/

section

variable {j j' : Job} {target : Target}

/-- The state right after an output page has been loaded, before its allocation is judged. -/
def laneLoaded (l : Lane) (i : Fin 2) (page : Nat) (bytes : List Byte) (target : Target) (j' : Job) (s : State) :
    State :=
  setLane l (some j') (modStore (fun st => { withPage (.lane l) i page bytes target st with loadedLane := l }) s)

/-- The job after its page has been loaded: the assembly page is empty again, but for the header page (R78). -/
def pageTaken (page : Nat) (j : Job) : Job :=
  if page = 0 then j else { j with assembly := [], pageIndex := j.pageIndex + 1 }

theorem needsBlock_eq (j : Job) (page : Nat) : needsBlock j page =
    decide (page = 1 ∨ (page ≠ 0 ∧ page % 64 = 0) ∨ (page = 0 ∧ j.blocks = [])) := by
  rw [Bool.eq_iff_iff, decide_eq_true_iff]
  simp [needsBlock, Config.blockPages, or_assoc]

theorem loadLane_eq (hj : s.lanes[l] = some j) (hpage : lanePage j = some (page, bytes)) (i : Fin 2)
    {needs : Bool} (hneeds : needs = needsBlock j page) :
    loadLane l i s = encodeEndDue l (modJob l (fun j => placeBytes j.waiting j)
      (if needs then renderAllocation l
        (laneLoaded l i page bytes (if needs then .unposted else .placed) (pageTaken page j) s)
        else laneLoaded l i page bytes (if needs then .unposted else .placed) (pageTaken page j) s)) := by
  have loaded : (if page = 0 then modStore (fun st =>
        { withPage (.lane l) i page bytes (if needs then .unposted else .placed) st with loadedLane := l }) s
      else modJob l (fun j => { j with assembly := [], pageIndex := j.pageIndex + 1 }) (modStore (fun st =>
        { withPage (.lane l) i page bytes (if needs then .unposted else .placed) st with loadedLane := l }) s)) =
      laneLoaded l i page bytes (if needs then .unposted else .placed) (pageTaken page j) s := by
    unfold laneLoaded pageTaken
    split
    · have hj : s.lanes[l.val] = some j := hj
      rw [← hj]
      simp [setLane, modStore]
    · exact modJob_of_some (s := modStore _ s) hj _
  rw [← loaded]
  unfold loadLane
  simp only [hj, hpage, ← hneeds]
  rfl

/-- The loaded lane's record, and what the pools and the other pages are. -/
theorem laneLoaded_lane : (laneLoaded l i page bytes target j' s).lanes[l] = some j' := setLane_lanes_self ..

theorem laneLoaded_buffer :
    (laneLoaded l i page bytes target j' s).store.buffers[i] = .loaded (.lane l) page bytes target :=
      withPage_buffers_self

/-- Another allocation waits: a stream's, or the other lane's (R74). -/
def othersWait (l : Lane) (st : Store) : Bool :=
  (allPorts.any fun q => allocating (.stream q) st) || allLanes.any fun k => k != l && allocating (.lane k) st

theorem othersWait_iff {st : Store} : othersWait l st = true ↔
    (∃ q, allocating (.stream q) st = true) ∨ ∃ k, k ≠ l ∧ allocating (.lane k) st = true := by
  have ports (q : Port) : q ∈ allPorts := by revert q; decide
  have lanes (k : Lane) : k ∈ allLanes := by revert k; decide
  simp [othersWait, ports, lanes]

theorem othersWait_laneLoaded (hi : s.store.buffers[i] = .free) :
    othersWait l (laneLoaded l i page bytes target j' s).store = othersWait l s.store := by
  have same {w : Source} (hw : w ≠ .lane l) :
      allocating w (laneLoaded l i page bytes target j' s).store = allocating w s.store := allocating_withPage_ne hi hw
  rw [Bool.eq_iff_iff, othersWait_iff, othersWait_iff]
  refine or_congr (exists_congr fun q => by rw [same Source.noConfusion])
    (exists_congr fun k => and_congr_right fun hk => by rw [same fun h => hk (Source.lane.inj h)])

theorem renderAllocation_eq (l : Lane) (s : State) : renderAllocation l s = if freeCount s.store ≤ 16 then storeFull l s
    else if !s.store.erased.isEmpty && !othersWait l s.store then takeErased (.lane l) s
    else modStore (setTarget (.lane l) .posted) s := rfl

end

end Sys2Proof.Machine

/-! Loads, allocations and pools put together (R66, R67, R73 to R78, R82). -/

namespace Sys2Proof.Machine

section

variable {s : State} {p : Port} {l : Lane} {i : Fin 2} {b page : Nat} {rest : List Nat} {bytes : List Byte}
  {st : Stream}
  {r : Take} {j : Job}

/-! ### A capture page -/

section

variable (hpage : streamPage s p = (page, bytes))
include hpage

/-- A page that starts a block waits for one where none is ERASED (R73 steps 2 and 3). -/
theorem loadStream_wait (h : page % 64 = 0) (he : s.store.erased = []) :
    (loadStream p i s).takes = s.takes ∧ (loadStream p i s).ports = s.ports ∧ (loadStream p i s).store.buffers[i] =
      .loaded (.stream p) page bytes (if s.store.dirty = [] then .unposted else .posted) := by
  have erased : (streamLoaded p i page bytes .unposted s).store.erased = [] := he
  rw [loadStream_eq hpage, if_pos h, captureAllocation_empty erased]
  exact ⟨rfl, rfl, (setTarget_buffers ..).trans (retargeted_streamLoaded _)⟩

variable (hst : s.captures[p] = some st)
include hst

/-- A page inside a block is loaded, and that is all (R77). -/
theorem loadStream_inside (h : page % 64 ≠ 0) : CaptureLoaded s (loadStream p i s) p i st ∧
    (loadStream p i s).store.buffers[i] = .loaded (.stream p) page bytes .placed ∧ (loadStream p i s).takes = s.takes ∧
    (loadStream p i s).store.erased = s.store.erased ∧ (loadStream p i s).ports = s.ports := by
  rw [loadStream_eq hpage, if_neg h]
  exact ⟨captureLoaded_streamLoaded hst, withPage_buffers_self, rfl, rfl, rfl⟩

/-- A page that starts a block is loaded, whatever its allocation does (R73, R77). -/
theorem loadStream_loaded (ho : streamOffers s p = true) : CaptureLoaded s (loadStream p i s) p i st := by
  by_cases h : page % 64 = 0
  · have offered := inStore_eq_false.mp (present_of_streamOffers ho).2
    have loaded := captureLoaded_streamLoaded (i := i) (page := page) (bytes := bytes) (target := .unposted) hst
    rw [loadStream_eq hpage, if_pos h]
    unfold captureAllocation
    dsimp only
    split
    · cases he : (streamLoaded p i page bytes .unposted s).store.erased with
      | nil =>
        rw [takeErased, he]
        exact loaded
      | cons b rest =>
        refine loaded.of_retarget (fun k _ => offered k) ?_ ?_ (takeErased_buffers he _)
        · rw [takeErased_eq he, lowCheck_captures, appendBlock_captures]
          rfl
        · rw [takeErased_store he]
          rfl
    · split
      · exact loaded.of_retarget (fun k _ => offered k) rfl rfl (setTarget_buffers _ _ _)
      · exact loaded.of_retarget (fun k _ => offered k) rfl rfl (setTarget_buffers _ _ _)
  · exact (loadStream_inside hpage hst h).1

/-- A page that starts a block takes an ERASED block, where no other stream waits for one (R73 step 1). -/
theorem loadStream_take (hi : freeBuffer s.store = some i) (hr : s.takes[st.take] = some r) (h : page % 64 = 0)
    (he : s.store.erased = b :: rest)
    (hq : ∀ q, q ≠ p → allocating (.stream q) s.store = false) :
    (loadStream p i s).store.buffers[i] = .loaded (.stream p) page bytes .placed ∧
      (loadStream p i s).store.erased = rest ∧
        (loadStream p i s).takes[st.take] = some { r with chain := r.chain ++ [b] } ∧
      (loadStream p i s).ports = (takeErased (.stream p) s).ports := by
  have loaded := (captureLoaded_streamLoaded (i := i) (page := page) (bytes := bytes) (target := .unposted) hst).fifo
  have erased : (streamLoaded p i page bytes .unposted s).store.erased = b :: rest := he
  have taken := takeErased_stream (st := { st with fifo := st.fifo.drop 1024 }) erased loaded hr
  rw [loadStream_eq hpage, if_pos h, captureAllocation_streamLoaded_take (free_of_freeBuffer hi) he hq]
  refine ⟨?_, (takeErased_pools erased _).1, taken.1, takeErased_ports_congr he erased rfl rfl _⟩
  rw [takeErased_buffers erased, retargeted_streamLoaded]

end

/-! ### An output page -/

section

variable (hi : freeBuffer s.store = some i) (hj : s.lanes[l] = some j)
  (hpage : lanePage j = some (page, bytes))
include hj hpage

/-- A page that needs no block lets the waiting bytes be placed (R78). -/
theorem loadLane_placed (hn : needsBlock j page = false) : loadLane l i s =
    encodeEndDue l (setLane l (some (placeBytes j.waiting (pageTaken page j)))
      (laneLoaded l i page bytes .placed (pageTaken page j) s)) := by
  rw [loadLane_eq hj hpage i hn.symm]
  simp only [Bool.false_eq_true, if_false]
  rw [modJob_of_some laneLoaded_lane]
  unfold pageTaken
  split <;> rfl

/-- An allocation that fails ends the job, and nothing else follows (R74 step 1, log 21). -/
theorem loadLane_full (hn : needsBlock j page = true) (hf : freeCount s.store ≤ 16) :
    loadLane l i s = storeFull l (laneLoaded l i page bytes .unposted (pageTaken page j) s) := by
  have full : freeCount (laneLoaded l i page bytes .unposted (pageTaken page j) s).store ≤ 16 := hf
  rw [loadLane_eq hj hpage i hn.symm]
  simp only [if_true]
  rw [renderAllocation_eq, if_pos full, encodeEndDue_storeFull laneLoaded_lane]

include hi

/-- An output page takes an ERASED block, where no other allocation waits (R74 step 2). -/
theorem loadLane_take (hn : needsBlock j page = true) (hf : 16 < freeCount s.store) (he : s.store.erased = b :: rest)
    (ho : othersWait l s.store = false) : ∃ v, loadLane l i s = encodeEndDue l v ∧
      v.store.buffers[i] = .loaded (.lane l) page bytes .placed ∧ v.store.erased = rest ∧
      v.lanes[l] = some (placeBytes j.waiting { pageTaken page j with blocks := j.blocks ++ [b] }) ∧
      v.ports = (takeErased (.lane l) s).ports := by
  have free := free_of_freeBuffer hi
  generalize hu : laneLoaded l i page bytes .unposted (pageTaken page j) s = u
  have lane : u.lanes[l] = some (pageTaken page j) := hu ▸ laneLoaded_lane
  have buffer : u.store.buffers[i] = .loaded (.lane l) page bytes .unposted := hu ▸ laneLoaded_buffer
  have erased : u.store.erased = b :: rest := by rw [← hu]; exact he
  have count : freeCount u.store = freeCount s.store := by rw [← hu]; rfl
  have ports : u.ports = s.ports := by rw [← hu]; rfl
  have alone : othersWait l u.store = false := by rw [← hu, othersWait_laneLoaded free, ho]
  have taken := (takeErased_lane erased lane).1
  have blocks : (pageTaken page j).blocks = j.blocks ∧ (pageTaken page j).waiting = j.waiting := by
    unfold pageTaken
    split <;> exact ⟨rfl, rfl⟩
  have allocation : renderAllocation l u = takeErased (.lane l) u := by
    rw [renderAllocation_eq, if_neg (by omega), erased, alone]
    rfl
  refine ⟨modJob l (fun j => placeBytes j.waiting j) (takeErased (.lane l) u), ?_, ?_,
    (takeErased_pools erased _).1, ?_,
    takeErased_ports_congr he erased count ports _⟩
  · rw [loadLane_eq hj hpage i hn.symm]
    simp only [if_true]
    rw [hu, allocation]
  · rw [modJob_store, takeErased_buffers erased, buffer, retargeted_loaded]
  · have self : (modJob l (fun j => placeBytes j.waiting j) (takeErased (.lane l) u)).lanes[l] =
        (takeErased (.lane l) u).lanes[l].map fun j => placeBytes j.waiting j := modJob_lanes_self ..
    rw [self, taken, Option.map_some, ← blocks.1, ← blocks.2]

/-- An output page waits for a block where none is ERASED, or another allocation waits before it (R74 step 3). -/
theorem loadLane_wait (hn : needsBlock j page = true) (hf : 16 < freeCount s.store)
    (ho : s.store.erased = [] ∨ othersWait l s.store = true) : ∃ v, loadLane l i s = encodeEndDue l v ∧
      v.store.buffers[i] = .loaded (.lane l) page bytes .posted ∧ v.store.erased = s.store.erased ∧
      v.lanes[l] = some (placeBytes j.waiting (pageTaken page j)) ∧ v.ports = s.ports := by
  have free := free_of_freeBuffer hi
  generalize hu : laneLoaded l i page bytes .unposted (pageTaken page j) s = u
  have lane : u.lanes[l] = some (pageTaken page j) := hu ▸ laneLoaded_lane
  have buffer : u.store.buffers[i] = .loaded (.lane l) page bytes .unposted := hu ▸ laneLoaded_buffer
  have erased : u.store.erased = s.store.erased := by rw [← hu]; rfl
  have count : freeCount u.store = freeCount s.store := by rw [← hu]; rfl
  have ports : u.ports = s.ports := by rw [← hu]; rfl
  have others : othersWait l u.store = othersWait l s.store := by rw [← hu, othersWait_laneLoaded free]
  have waiting : (pageTaken page j).waiting = j.waiting := by
    unfold pageTaken
    split <;> rfl
  have allocation : renderAllocation l u = modStore (setTarget (.lane l) .posted) u := by
    rw [renderAllocation_eq, if_neg (by omega), erased, others]
    rcases ho with h | h <;> rw [h] <;> simp
  refine ⟨modJob l (fun j => placeBytes j.waiting j) (modStore (setTarget (.lane l) .posted) u), ?_, ?_, erased,
    ?_, ports⟩
  · rw [loadLane_eq hj hpage i hn.symm]
    simp only [if_true]
    rw [hu, allocation]
  · have target : (modStore (setTarget (.lane l) .posted) u).store.buffers[i] =
        retargeted (.lane l) .posted u.store.buffers[i] := setTarget_buffers ..
    rw [modJob_store, target, buffer, retargeted_loaded]
  · have self : (modJob l (fun j => placeBytes j.waiting j) (modStore (setTarget (.lane l) .posted) u)).lanes[l] =
        u.lanes[l].map fun j => placeBytes j.waiting j := modJob_lanes_self ..
    rw [self, lane, Option.map_some, waiting]

end

end

/-- Settles O22: the next page and the next allocation by their orders, the pools after a release and an allocation, and
the cases of R73 and R74 for a page that is loaded. -/
theorem loadsAndPools : Obligations.LoadsAndPools := by
  unfold Obligations.LoadsAndPools
  refine ⟨fun s => ⟨fun i hi => ⟨fun p => execPageLoad_stream hi, fun l => execPageLoad_lane hi,
    execPageLoad_not_offered hi⟩, execPageLoad_full, execWaitingAllocationServed_empty, fun he =>
    ⟨fun p => execWaitingAllocationServed_stream he, fun l hp hl => ⟨fun hf => ?_, fun hf => ?_⟩⟩⟩,
    fun s chain => ⟨release_dirty .., release_erased .., freeCount_release ..⟩, ?_, ?_, ?_⟩
  · exact (execWaitingAllocationServed_lane he hp hl).trans (by rw [if_neg (Nat.not_le.mpr hf)])
  · exact (execWaitingAllocationServed_lane he hp hl).trans (by rw [if_pos hf])
  · rintro s t src detail b rest he rfl hd
    have detail : detail = lowDetail src := by
      rw [hd]
      cases src <;> rfl
    obtain ⟨erased, dirty, -⟩ := takeErased_pools he src
    refine ⟨?_, ?_, fun i target hl => ?_, erased, dirty, freeCount_takeErased he src, fun q => ?_⟩
    · rintro p st r rfl hst hr
      exact takeErased_stream he hst hr
    · rintro l j rfl hj
      exact takeErased_lane he hj
    · have kept : loadedBuffer src { s.store with erased := rest } = some (i, target) :=
        (loadedBuffer_congr rfl src).trans hl
      rw [takeErased_store he, loadedBuffer_setTarget_self, kept]
      rfl
    · rw [detail]
      exact takeErased_ports he src q
  · rintro s t p i st r page bytes hi ho hst hr rfl rfl rfl
    have hpage := streamPage_eq hst hr
    obtain ⟨fifo, order, others, buffers⟩ := loadStream_loaded hpage hst ho
    refine ⟨fifo, order, others, buffers, fun h => (loadStream_inside hpage hst h).2, fun h => ⟨?_, ?_⟩⟩
    · exact fun b rest he hq => loadStream_take hpage hst hi hr h he hq
    · exact fun he => loadStream_wait hpage h he
  · rintro s t u l i j j' page bytes needs hi ho hj hpage hneeds rfl rfl rfl
    rw [← needsBlock_eq] at hneeds
    subst hneeds
    refine ⟨fun hn => ?_, fun hn hf => ?_, fun hn hf => ⟨fun b rest he hq hk => ?_, fun hw => ?_⟩⟩
    · rw [hn]
      exact loadLane_placed hj hpage hn
    · rw [hn]
      exact loadLane_full hj hpage hn hf
    · refine loadLane_take hi hj hpage hn hf he (Bool.eq_false_iff.mpr fun h => ?_)
      rcases othersWait_iff.mp h with ⟨q, hq'⟩ | ⟨k, hne, hk'⟩
      · exact absurd ((hq q).symm.trans hq') Bool.false_ne_true
      · exact absurd ((hk k hne).symm.trans hk') Bool.false_ne_true
    · exact loadLane_wait hi hj hpage hn hf (hw.imp_right othersWait_iff.mpr)

end Sys2Proof.Machine

/-! What an event of the store or of a lane reaches (R68, R87, R185): beside what `Work` says, a page delivered to a
port changes that port's stream. -/

namespace Sys2Proof.Machine

/-- A port's request, subscriptions, enable mask, attention modes and transaction. -/
def portRecord (ps : PortState) : Exec × BitVec 3 × BitVec 4 × BitVec 4 × Transfer × List Byte :=
  (ps.exec, ps.subs, ps.mask, ps.mode, ps.xfer, ps.sent)

/-- `t` comes from `s` by an event of the store or of a lane that reaches no chapter outside `T`. -/
structure EventReach (T : ChapterId → Prop) (s t : State) : Prop where
  titles : t.titles = s.titles
  levels : t.levels = s.levels
  profiles : t.profiles = s.profiles
  takes : ∀ k : TakeId, t.takes[k].map takeRest = s.takes[k].map takeRest
  records : ∀ c : ChapterId, t.chapters[c].map chapterRest = s.chapters[c].map chapterRest
  chapters : ∀ c : ChapterId, ¬ T c → t.chapters[c] = s.chapters[c]
  ports : ∀ p : Port, portRecord t.ports[p] = portRecord s.ports[p]
  within : Within T t

variable {T : ChapterId → Prop} {s t u : State} {p : Port} {l : Lane}

theorem portRecord_of_portRest {ps ps' : PortState} (h : portRest ps' = portRest ps) :
    portRecord ps' = portRecord ps := by
  have same := congrArg portRecord h
  exact same

theorem Work.reach (h : Work T s t) : EventReach T s t :=
  ⟨h.titles, h.levels, h.profiles, h.takes, h.records, h.chapters, fun p => portRecord_of_portRest (h.ports p),
    h.within⟩

theorem EventReach.trans (h : EventReach T s t) (k : EventReach T t u) : EventReach T s u :=
  ⟨k.titles.trans h.titles, k.levels.trans h.levels, k.profiles.trans h.profiles,
    fun i => (k.takes i).trans (h.takes i),
    fun i => (k.records i).trans (h.records i), fun c hc => (k.chapters c hc).trans (h.chapters c hc),
    fun p => (k.ports p).trans (h.ports p), k.within⟩

theorem EventReach.refl (h : Within T s) : EventReach T s s := (Work.refl h).reach

/-- The attention of the ports changes their pending bits alone. -/
theorem EventReach.attend (h : EventReach T s t) (b : State) : EventReach T s (attend b t) :=
  ⟨h.titles, h.levels, h.profiles, h.takes, h.records, h.chapters, fun p => by
    have now : (Machine.attend b t).ports[p] = attendPort b.ports[p] t.ports[p] := attend_ports b t p
    rw [now]
    exact h.ports p, ⟨h.within.queue, h.within.lanes⟩⟩

/-- The consequences of an event and the attention after it. -/
theorem EventReach.commit (h : EventReach T s t) (b : State) : EventReach T s (commit b t) :=
  (h.trans (settle_work h.within).reach).attend b

/-! ### The parts the statement names -/

section

variable (h : EventReach T s t)
include h

theorem EventReach.takes_chainless (k : TakeId) :
    t.takes[k].map (fun r => { r with chain := [] }) = s.takes[k].map fun r => { r with chain := [] } := h.takes k

theorem EventReach.records_kept (c : ChapterId) :
    t.chapters[c].map (fun r => (r.title, r.position, r.editor, r.slots, r.cursor, r.assembled)) =
      s.chapters[c].map fun r => (r.title, r.position, r.editor, r.slots, r.cursor, r.assembled) := by
  have same := congrArg (Option.map fun r : Chapter => (r.title, r.position, r.editor, r.slots, r.cursor, r.assembled))
    (h.records c)
  rw [Option.map_map, Option.map_map] at same
  exact same

theorem EventReach.ports_kept (p : Port) : t.ports[p].exec = s.ports[p].exec ∧ t.ports[p].subs = s.ports[p].subs ∧
    t.ports[p].mask = s.ports[p].mask ∧ t.ports[p].mode = s.ports[p].mode ∧ t.ports[p].xfer = s.ports[p].xfer ∧
      t.ports[p].sent = s.ports[p].sent := by
  simpa only [portRecord, Prod.mk.injEq] using h.ports p

end

/-- An event that reaches the chapters of the queue and the lanes alone reaches no other (R87). -/
theorem chapters_of_reach (h : ∀ T : ChapterId → Prop, Within T s → EventReach T s t) {c : ChapterId}
    (hc : NotHeld s c) :
    t.chapters[c] = s.chapters[c] := (h (· ≠ c) (within_of_notHeld hc)).chapters c fun hne => hne rfl

/-! ### A page delivered (R68, R80) -/

theorem portRecord_arriveAtPort (bytes : List Byte) (ps : PortState) :
    portRecord (arriveAtPort bytes ps) = portRecord ps := by
  unfold arriveAtPort
  split
  · split <;> rfl
  · rfl

theorem reach_modPort {f : PortState → PortState} (hf : ∀ ps, portRecord (f ps) = portRecord ps) (h : Within T s) :
    EventReach T s (modPort p f s) :=
  ⟨rfl, rfl, rfl, fun _ => rfl, fun _ => rfl, fun _ _ => rfl, fun q => by
    by_cases hq : q = p
    · subst hq
      have self : (modPort q f s).ports[q] = f s.ports[q] := modPort_ports_self s q f
      rw [self, hf]
    · have kept : (modPort p f s).ports[q] = s.ports[q] := modPort_ports_ne s p q f hq
      rw [kept], ⟨h.queue, h.lanes⟩⟩

theorem reach_deliverPage (who : Reader) (bytes : List Byte) (h : Within T s) :
    EventReach T s (deliverPage who bytes s) := by
  cases who with
  | lane l =>
    refine (work_modJob l (arriveAtLane bytes) (fun j => ?_) h).reach
    unfold arriveAtLane
    split <;> rfl
  | port p => exact reach_modPort (portRecord_arriveAtPort bytes) h

/-! ### Jobs -/

theorem work_jobEnd (l : Lane) (h : Within T s) : Work T s (jobEnd l s) := by
  unfold jobEnd
  split
  · exact .refl h
  · rename_i j hj
    have hc : T j.chapter := h.lanes l j (by simpa using hj)
    split
    · exact .refl h
    · rename_i f hf
      refine Work.andThen ?_ fun h => work_lanesTake h
      have written := (work_setLane l none (by simp) h).andThen fun h =>
        work_writeResult j.chapter (fullResult j f (some ⟨outputLength j, jobFrames j, f.digest, j.blocks⟩)) hc h
      split
      · exact written.andThen fun h => work_enterState j.chapter _ _ hc h
      · exact written.andThen fun h => work_enterState j.chapter _ _ hc h

theorem work_measureEndDue (l : Lane) (h : Within T s) : Work T s (measureEndDue l s) := by
  unfold measureEndDue
  split
  · exact .refl h
  · rename_i j hj
    have hc : T j.chapter := h.lanes l j (by simpa using hj)
    split
    · dsimp only
      split
      · refine Work.andThen (Work.andThen (Work.andThen (work_clearLane l h) fun h => ?_)
          fun h => work_enterState j.chapter _ _ hc h) fun h => work_lanesTake h
        exact work_writeResult j.chapter _ hc h
      · exact work_modJob l _ (fun _ => rfl) h
    · exact .refl h

theorem frameCoded_chapter (j : Job) : (frameCoded j).chapter = j.chapter := rfl

theorem measured_chapter (s : State) (x : Sample) (j : Job) : (measured s x j).chapter = j.chapter := rfl

theorem blockMeasured_chapter (j : Job) : (blockMeasured j).chapter = j.chapter := by
  unfold blockMeasured
  split <;> rfl

/-! ### Every completion and every step of a lane -/

/-- What an answer with a next state reaches. -/
def AnswerReach (T : ChapterId → Prop) (s : State) (a : Answer) : Prop := ∀ t, a = .next t → EventReach T s t

theorem answerReach_next (h : EventReach T s t) : AnswerReach T s (.next t) := fun _ ht => by
  cases ht
  exact h

theorem answerReach_same (h : Within T s) : AnswerReach T s (.next s) := answerReach_next (.refl h)

theorem answerReach_commit (h : EventReach T s t) : AnswerReach T s (.next (commit s t)) :=
    answerReach_next (h.commit s)

theorem work_started (h : Within T s) : Work T s (started s) := by
  unfold started
  split
  · exact settle_work h
  · exact .refl h

/-- A completion in the array, but for the one that may close a take, and a step that another event makes due. -/
inductive StoreEvent : Instr → Prop where
  | read : StoreEvent .pageReadComplete
  | output : StoreEvent .outputPageProgrammed
  | background : StoreEvent .backgroundEraseComplete
  | builtIn : StoreEvent .builtInEraseComplete
  | load : StoreEvent .pageLoad
  | served : StoreEvent .waitingAllocationServed

/-- A step of a lane. -/
inductive LaneEvent : Instr → Prop where
  | sample (l : Lane) : LaneEvent (.measureSample l)
  | meter (l : Lane) : LaneEvent (.meterBlock l)
  | measure (l : Lane) : LaneEvent (.measureEnd l)
  | frame (l : Lane) : LaneEvent (.encodeFrame l)
  | encode (l : Lane) : LaneEvent (.encodeEnd l)

theorem answerReach_storeEvent {i : Instr} (hi : StoreEvent i) (h : Within T s) : AnswerReach T s (exec i s) := by
  cases hi with
  | read =>
    change AnswerReach T s (execPageReadComplete s)
    unfold execPageReadComplete
    split
    · refine answerReach_commit ?_
      have freed := work_modStore (fun st => { st with array := .idle }) h
      split
      · exact freed.reach
      · exact freed.reach.trans (reach_deliverPage _ _ freed.within)
    · exact answerReach_same h
  | output =>
    change AnswerReach T s (execOutputPageProgrammed s)
    unfold execOutputPageProgrammed
    split
    · split
      · refine answerReach_commit ?_
        split
        · exact (Work.andThen (work_modStore _ h) fun h => work_jobEnd _ h).reach
        · exact (work_modStore _ h).reach
      · exact answerReach_same h
    · exact answerReach_same h
  | background =>
    change AnswerReach T s (execBackgroundEraseComplete s)
    unfold execBackgroundEraseComplete
    dsimp only
    split
    · refine answerReach_commit ?_
      exact (((work_started h).andThen fun h => work_modStore _ h).andThen fun h => work_modStore _ h).reach
    · exact answerReach_same h
  | builtIn =>
    change AnswerReach T s (execBuiltInEraseComplete s)
    unfold execBuiltInEraseComplete
    split
    · refine answerReach_commit ?_
      have ended := work_modStore (fun st => { st with array := .idle, mem := eraseBlock st.mem ‹_› }) h
      split
      · exact (ended.andThen fun h => work_modStore _ h).reach
      · exact (ended.andThen fun h => work_appendBlock _ _ h).reach
    · exact answerReach_same h
  | load =>
    change AnswerReach T s (execPageLoad s)
    unfold execPageLoad
    split
    · exact answerReach_commit (work_loadDue h _ ‹_›).reach
    · exact answerReach_same h
  | served =>
    change AnswerReach T s (execWaitingAllocationServed s)
    unfold execWaitingAllocationServed
    split
    · exact answerReach_commit (work_waitingDue h _ ‹_›).reach
    · exact answerReach_same h

theorem answerReach_laneEvent {i : Instr} (hi : LaneEvent i) (h : Within T s) : AnswerReach T s (exec i s) := by
  cases hi with
  | sample l =>
    change AnswerReach T s (execMeasureSample l s)
    unfold execMeasureSample
    split
    · exact answerReach_same h
    · split
      · split
        · exact answerReach_same h
        · refine answerReach_commit (Work.andThen ?_ fun h => work_measureEndDue l h).reach
          exact work_modJob l _ (measured_chapter s _) h
      · exact answerReach_same h
  | meter l => exact answerReach_commit (work_modJob l _ blockMeasured_chapter h).reach
  | measure l => exact answerReach_commit (work_measureEndDue l h).reach
  | frame l =>
    change AnswerReach T s (execEncodeFrame l s)
    unfold execEncodeFrame
    split
    · exact answerReach_same h
    · split
      · exact answerReach_commit ((work_modJob l _ frameCoded_chapter h).andThen fun h => work_encodeEndDue l h).reach
      · exact answerReach_same h
  | encode l => exact answerReach_commit (work_encodeEndDue l h).reach

end Sys2Proof.Machine

/-! What a command does itself, before what follows from it: the single updates it is made of, each with what the laws
of the store, of the profiles and of publication ask of it. `A` says that the command is one of those that may change
the capture slots, the live level entries, the array's contents and a port's own settings; `C` holds the chapters it
may change freely. -/

namespace Sys2Proof.Machine

/-- The port's execution state, subscriptions, enable mask, attention modes and sent bytes. -/
def steady (ps : PortState) : Exec × BitVec 3 × BitVec 4 × BitVec 4 × List Byte :=
  (ps.exec, ps.subs, ps.mask, ps.mode, ps.sent)

/-- What the law of publication reads of a record (R164). -/
def Locked (r r' : Chapter) : Prop :=
  r'.state = r.state ∧ r'.assembled = r.assembled ∧ r'.result = r.result ∧ r'.title = r.title

/-- One update of the state by a command. -/
inductive Deed (A : Prop) (C : ChapterId → Prop) (s : State) : State → Prop where
  | port (p : Port) (f : PortState → PortState) (hf : ∀ ps, steady (f ps) = steady ps) : Deed A C s (modPort p f s)
  | setting (p : Port) (f : PortState → PortState) (hA : A) : Deed A C s (modPort p f s)
  | title (k : TitleNo) (o : Option Title) : Deed A C s (setTitle k o s)
  | take (k : TakeId) (o : Option Take) (ho : (o.map (·.chain)).getD [] = takeChain s k) : Deed A C s (setTake k o s)
  | retire (k : TakeId) : Deed A C s (freeTake k s)
  | slot (p : Port) (o : Option Stream) (hA : A)
      (ho : o = none → s.captures[p] = none ∨ inStore (.stream p) s.store = false) : Deed A C s (setStream p o s)
  | level (p : Port) (f : LevelEntry → LevelEntry) (hA : A) : Deed A C s (modLevel p f s)
  | chapter (c : ChapterId) (o : Option Chapter) (ho : o.bind ownedOutput = s.chapters[c].bind ownedOutput)
      (hk : C c ∨ ∀ r, s.chapters[c] = some r → ∃ r', o = some r' ∧ Locked r r') : Deed A C s (setChapter c o s)
  | output (c : ChapterId) (hc : C c) : Deed A C s (releaseOutput c s)
  | queue (q : List Entry) : Deed A C s (setQueue q s)
  | vacate (l : Lane) : Deed A C s (clearLane l s)
  | job (l : Lane) (f : Job → Job) (hf : ∀ j, (f j).blocks = j.blocks) : Deed A C s (modJob l f s)
  | profile (n : ProfileNo) (pr : Profile) (hp : ProfileInRange pr) : Deed A C s (setProfile n pr s)
  | abandon (p : Port) : Deed A C s (modStore (abandonSource (.stream p)) s)
  | orphan (p : Port) : Deed A C s (modStore (orphanRead (.port p)) s)
  | program (i : Fin 2) (src : Source) (gone : Bool) (page slot : Nat) (bytes : List Byte) (hA : A)
      (ha : s.store.array = .programming i) (hb : s.store.buffers[i] = .programming src gone page slot bytes) :
      Deed A C s (endProgram i slot bytes s)
  | erased (b : Nat) (who : Purpose) (gone : Bool) (hA : A) (ha : s.store.array = .erasing b who gone)
      (hw : who = .background ∨ gone = true) : Deed A C s (joinErased b (endErase b s))
  | read (who : Reader) (gone : Bool) (slot : Nat) (ha : s.store.array = .reading who gone slot) :
      Deed A C s (freeArray s)

/-- A chain of updates. -/
structure Did (A : Prop) (C : ChapterId → Prop) (s t : State) : Prop where
  chain : Relation.ReflTransGen (Deed A C) s t

section

variable {A : Prop} {C : ChapterId → Prop} {s t u : State}

theorem Did.refl (s : State) : Did A C s s := ⟨.refl⟩

theorem Did.trans (h : Did A C s t) (k : Did A C t u) : Did A C s u := ⟨h.chain.trans k.chain⟩

theorem Did.deed (h : Did A C s t) (k : Deed A C t u) : Did A C s u := ⟨h.chain.tail k⟩

/-- What every single update keeps holds at the end of a chain. -/
theorem Did.keep {P : State → Prop} (h : Did A C s t) (hP : ∀ u v, Deed A C u v → P u → P v) (hs : P s) : P t := by
  obtain ⟨chain⟩ := h
  induction chain with
  | refl => exact hs
  | tail _ hd ih => exact hP _ _ hd ih

/-- A fold whose every step is made of updates. -/
theorem Did.foldl {α : Type} {f : State → α → State} {as : List α} (h : Did A C s t) (hf : ∀ u a, Did A C u (f u a)) :
    Did A C s (as.foldl f t) := by
  induction as generalizing t with
  | nil => exact h
  | cons a as ih => exact ih (h.trans (hf t a))

variable (h : Did A C s t)
include h

/-! ### Ports and notices -/

theorem Did.modPort {p : Port} {f : PortState → PortState} (hf : ∀ ps, steady (f ps) = steady ps) :
    Did A C s (modPort p f t) := h.deed (.port p f hf)

theorem Did.setting {p : Port} {f : PortState → PortState} (hA : A) : Did A C s (Machine.modPort p f t) :=
  h.deed (.setting p f hA)

omit h in
theorem steady_pushNotice (n : Notice) (ps : PortState) : steady (pushNotice n ps) = steady ps := by
  unfold pushNotice
  split <;> rfl

theorem Did.notify {p : Port} {n : Notice} : Did A C s (notify p n t) := h.modPort (steady_pushNotice n)

theorem Did.broadcast {n : Notice} : Did A C s (broadcast n t) :=
  h.foldl fun u _ => (Did.refl u).modPort fun ps => by
    split
    · exact steady_pushNotice n ps
    · rfl

theorem Did.chapterNotice {c : ChapterId} {code : Nat} {cause : Cause} : Did A C s (chapterNotice c code cause t) :=
  h.broadcast

theorem Did.setTransfer {p : Port} {x : Transfer} : Did A C s (setTransfer p x t) := h.modPort fun _ => rfl

theorem Did.attend {b : State} : Did A C s (attend b t) := h.foldl fun u _ => (Did.refl u).modPort fun _ => rfl

theorem Did.dropStream {p : Port} {status : PortStream} : Did A C s (dropStream p status t) :=
  (h.modPort (p := p) (f := fun ps => { ps with stream := status, xfer := unlink ps.xfer }) fun _ => rfl).deed
    (.orphan p)

/-! ### The catalogue -/

theorem Did.setTitle {k : TitleNo} {o : Option Title} : Did A C s (setTitle k o t) := h.deed (.title k o)

theorem Did.modTitle {k : TitleNo} {f : Title → Title} : Did A C s (modTitle k f t) := h.setTitle

/-- A take's record changes, its chain does not. -/
theorem Did.modTake {k : TakeId} {f : Take → Take} (hf : ∀ r, (f r).chain = r.chain) : Did A C s (modTake k f t) := by
  refine h.deed (.take k (t.takes[k].map f) ?_)
  unfold takeChain
  cases t.takes[k] with
  | none => rfl
  | some r => exact hf r

/-- A free slot takes a record without a chain. -/
theorem Did.newTake {k : TakeId} {r : Take} (hk : t.takes[k] = none) (hr : r.chain = []) :
    Did A C s (setTake k (some r) t) := by
  refine h.deed (.take k (some r) ?_)
  unfold takeChain
  rw [hk]
  exact hr

theorem Did.freeTake {k : TakeId} : Did A C s (freeTake k t) := h.deed (.retire k)

/-- A record changed by what leaves its output, of a chapter that may be changed freely. -/
theorem Did.modChapter {c : ChapterId} {f : Chapter → Chapter} (hc : C c)
    (hf : ∀ r, t.chapters[c] = some r → ownedOutput (f r) = ownedOutput r) : Did A C s (modChapter c f t) := by
  refine h.deed (.chapter c (t.chapters[c].map f) ?_ (.inl hc))
  cases hr : t.chapters[c] with
  | none => rfl
  | some r => exact hf r hr

/-- A record changed by what publication does not lock. -/
theorem Did.touchChapter {c : ChapterId} {f : Chapter → Chapter} (hf : ∀ r, Locked r (f r)) :
    Did A C s (Machine.modChapter c f t) := by
  refine h.deed (.chapter c (t.chapters[c].map f) ?_ (.inr fun r hr => ⟨f r, by rw [hr]; rfl, hf r⟩))
  cases t.chapters[c] with
  | none => rfl
  | some r =>
    obtain ⟨-, -, result, -⟩ := hf r
    exact congrArg (Option.bind · (·.output)) result

theorem Did.enterState {c : ChapterId} {st : ChapterState} {cause : Cause} (hc : C c) :
    Did A C s (enterState c st cause t) := 
  (h.modChapter (f := fun r => { r with state := st }) hc fun _ _ => rfl).broadcast

theorem Did.newChapter {c : ChapterId} {r : Chapter} (hc : t.chapters[c] = none) (hr : ownedOutput r = none) :
    Did A C s (setChapter c (some r) t) :=
  h.deed (.chapter c (some r) (by rw [hc]; exact hr)
    (.inr fun x hx => absurd (hc.symm.trans hx) (Option.some_ne_none x).symm))

theorem Did.releaseOutput {c : ChapterId} (hc : C c) : Did A C s (releaseOutput c t) := h.deed (.output c hc)

theorem Did.renumberFrom {n : Nat} {cs : List ChapterId} : Did A C s (renumberFrom n cs t) := by
  induction cs generalizing n t with
  | nil => exact h
  | cons c rest ih => exact ih (h.touchChapter (f := fun r => { r with position := n }) fun _ => ⟨rfl, rfl, rfl, rfl⟩)

theorem Did.reorder {k : TitleNo} {cs : List ChapterId} : Did A C s (reorder k cs t) := h.modTitle.renumberFrom

theorem Did.takeReferences {ts : List TakeId} : Did A C s (takeReferences ts t) :=
  h.foldl fun u _ => (Did.refl u).modTake fun _ => rfl

theorem Did.releaseReferences {c : ChapterId} : Did A C s (releaseReferences c t) := by
  unfold Machine.releaseReferences dropReferences
  split
  · split
    · exact h
    · exact h.foldl fun u _ => (Did.refl u).modTake fun _ => rfl
  · exact h

theorem Did.clearScript {c : ChapterId} : Did A C s (clearScript c t) :=
  h.releaseReferences.touchChapter fun _ => ⟨rfl, rfl, rfl, rfl⟩

theorem Did.releaseClaims {p : Port} : Did A C s (releaseClaims p t) :=
  h.foldl fun u _ => (Did.refl u).touchChapter fun r => by
    split <;> exact ⟨rfl, rfl, rfl, rfl⟩

/-- A record without output is freed. -/
theorem Did.freeChapter {c : ChapterId} (hc : C c) (hr : ∀ r, t.chapters[c] = some r → ownedOutput r = none) :
    Did A C s (freeChapter c t) := by
  unfold Machine.freeChapter
  split
  · rename_i r hrec
    refine h.reorder.deed (.chapter c none ?_ (.inl hc))
    obtain ⟨q, hq⟩ := (view t).reorder_chapter r.title ((chapterList t r.title).erase c) c
    have moved : (Machine.reorder r.title ((chapterList t r.title).erase c) t).chapters[c] =
        (t.chapters[c]).map fun r => { r with position := q r } := by
      rw [← view_reorder] at hq
      exact hq
    rw [moved, hrec]
    exact (hr r hrec).symm
  · exact h

/-! ### The queue and the lanes -/

theorem Did.setQueue {q : List Entry} : Did A C s (setQueue q t) := h.deed (.queue q)

theorem Did.appendEntry {e : Entry} : Did A C s (appendEntry e t) := h.setQueue

theorem Did.clearLane {l : Lane} : Did A C s (clearLane l t) := h.deed (.vacate l)

theorem Did.abortJobOf {c : ChapterId} : Did A C s (abortJobOf c t) := by
  unfold Machine.abortJobOf
  split
  · exact h.clearLane
  · exact h

theorem Did.offRenderPath {c : ChapterId} : Did A C s (offRenderPath c t) := h.setQueue.abortJobOf

theorem Did.letGo {c : ChapterId} (hc : C c) : Did A C s (letGo c t) := letGo_eq c t ▸ h.offRenderPath.releaseOutput hc

theorem Did.modJob {l : Lane} {f : Job → Job} (hf : ∀ j, (f j).blocks = j.blocks) : Did A C s (modJob l f t) :=
  h.deed (.job l f hf)

/-! ### The capture slots -/

theorem Did.modLevel {p : Port} {f : LevelEntry → LevelEntry} (hA : A) : Did A C s (modLevel p f t) :=
  h.deed (.level p f hA)

theorem Did.modStream {p : Port} {f : Stream → Stream} (hA : A) : Did A C s (modStream p f t) :=
  h.deed (.slot p (t.captures[p].map f) hA fun ho => .inl (Option.map_eq_none_iff.mp ho))

theorem Did.openSlot {p : Port} {st : Stream} (hA : A) : Did A C s (setStream p (some st) t) :=
  h.deed (.slot p (some st) hA fun ho => (Option.some_ne_none st ho).elim)

theorem Did.closeSlot {p : Port} (hA : A) (hs : inStore (.stream p) t.store = false) : Did A C s (setStream p none t) :=
  h.deed (.slot p none hA fun _ => .inr hs)

end

end Sys2Proof.Machine

/-! What each update of a command keeps: the profiles' ranges, the array's form, the frames of a request, the law of
pages, the places of the blocks, and the locked record of a PUBLISHED chapter. -/

namespace Sys2Proof.Machine

open View

variable {A : Prop} {C : ChapterId → Prop} {s t u : State}

/-! ### Streams detached -/

theorem detach_mem (src : StreamSource) (s : State) : (detach src s).store.mem = s.store.mem := by
  rw [(detaches_detach src s).2]

theorem detach_buffers (src : StreamSource) (s : State) : (detach src s).store.buffers = s.store.buffers := by
  rw [(detaches_detach src s).2]

theorem detach_array (src : StreamSource) (s : State) : (detach src s).store.array = s.store.array ∨
    ∃ who gone slot, s.store.array = .reading who gone slot ∧ (detach src s).store.array = .reading who true slot := by
  unfold detach
  refine List.foldlRecOn (motive := fun t : State => t.store.array = s.store.array ∨ ∃ who gone slot,
    s.store.array = .reading who gone slot ∧ t.store.array = .reading who true slot)
      allPorts _ (.inl rfl) fun t ht p _ => ?_
  split
  · have dropped : (dropStream p .detached t).store.array = (orphanRead (.port p) t.store).array := rfl
    rw [dropped]
    unfold orphanRead
    split
    · rename_i w slot hw
      split
      · rcases ht with ht | ⟨who, gone, slot', hs, ht⟩
        · exact .inr ⟨w, false, slot, ht ▸ hw, rfl⟩
        · rw [ht] at hw
          cases hw
      · exact ht
    · exact ht
  · exact ht

theorem erasesFor_detach (src : StreamSource) (w : Source) (s : State) :
    erasesFor w (detach src s).store.array ↔ erasesFor w s.store.array := by
  rcases detach_array src s with h | ⟨who, gone, slot, hs, ht⟩
  · rw [h]
  · rw [hs, ht]
    simp [erasesFor]

theorem PageLaw.detach (h : PageLaw s) (src : StreamSource) : PageLaw (detach src s) := by
  rw [pageLaw_iff] at *
  rw [detach_buffers]
  refine (h.of_present fun i w _ hw => ?_).of_op fun w => erasesFor_detach src w s
  exact (sourcePresent_congr (fun p => by rw [detach_captures]) (fun l => by rw [detach_lanes]) w).mpr hw

theorem poolCount_detach (src : StreamSource) (s : State) (b : Nat) :
    poolCount (detach src s).store b = poolCount s.store b := by
  have block : erasingBlock (Machine.detach src s).store.array = erasingBlock s.store.array := by
    rcases detach_array src s with h | ⟨who, gone, slot, hs, ht⟩
    · rw [h]
    · rw [hs, ht]
      rfl
  unfold poolCount
  rw [detach_erased, detach_dirty, block]

theorem sameBlocks_detach (src : StreamSource) (s : State) : SameBlocks s (detach src s) :=
  sameBlocks_of_eq (poolCount_detach src s) (detach_takes src s) (ownedChain_congr (detach_chapters src s))
    (detach_lanes src s)

theorem steady_dropStream (p q : Port) (status : PortStream) (s : State) :
    steady (dropStream p status s).ports[q] = steady s.ports[q] := by
  have kept : (dropStream p status s).ports[q] =
      (modPort p (fun ps => { ps with stream := status, xfer := unlink ps.xfer }) s).ports[q] := rfl
  rw [kept]
  by_cases hq : q = p
  · subst hq
    have self : (modPort q (fun ps => { ps with stream := status, xfer := unlink ps.xfer }) s).ports[q] =
        { s.ports[q] with stream := status, xfer := unlink s.ports[q].xfer } := modPort_ports_self ..
    rw [self]
    rfl
  · exact congrArg steady (modPort_ports_ne s p q _ hq)

theorem steady_detach (src : StreamSource) (q : Port) (s : State) :
    steady (detach src s).ports[q] = steady s.ports[q] := by
  unfold detach
  refine List.foldlRecOn (motive := fun t : State => steady t.ports[q] = steady s.ports[q]) allPorts _ rfl
    fun t ht p _ => ?_
  split
  · exact (steady_dropStream p q .detached t).trans ht
  · exact ht

/-! ### A record's output and a take's chain let go -/

theorem releaseOutput_cases (c : ChapterId) (s : State) :
    (s.chapters[c].bind ownedOutput = none ∧ releaseOutput c s = s) ∨
    ∃ r o, s.chapters[c] = some r ∧ ownedOutput r = some o ∧
      releaseOutput c s = detach (.output c) (release o.chain (setChapter c (some (withoutOutput r)) s)) := by
  cases hr : s.chapters[c] with
  | none => exact .inl ⟨rfl, by simp only [releaseOutput, hr, Option.bind_none]⟩
  | some r =>
    cases ho : ownedOutput r with
    | none => exact .inl ⟨ho, releaseOutput_of_none hr ho⟩
    | some o => exact .inr ⟨r, o, rfl, ho, releaseOutput_eq hr ho⟩

theorem releaseOutput_chapters_self (c : ChapterId) (s : State) :
    (releaseOutput c s).chapters[c] = s.chapters[c].map withoutOutput := by
  have now : (view (releaseOutput c s)).chapter c = ((view s).chapter c).map withoutOutput := by simp
  exact now

theorem releaseOutput_chapters_ne {c d : ChapterId} (h : d ≠ c) (s : State) :
    (releaseOutput c s).chapters[d] = s.chapters[d] := by
  have now : (view (releaseOutput c s)).chapter d = (view s).chapter d := by simp [h]
  exact now

/-- After its release a chapter owns no output. -/
theorem no_output_releaseOutput {c : ChapterId} {r : Chapter} (h : (releaseOutput c s).chapters[c] = some r) :
    ownedOutput r = none := by
  rw [releaseOutput_chapters_self] at h
  obtain ⟨x, -, rfl⟩ := Option.map_eq_some_iff.mp h
  unfold ownedOutput withoutOutput
  cases x.result <;> rfl

theorem PageLaw.releaseOutput (h : PageLaw s) (c : ChapterId) : PageLaw (releaseOutput c s) := by
  rcases releaseOutput_cases c s with ⟨-, same⟩ | ⟨r, o, -, -, released⟩
  · rw [same]
    exact h
  · rw [released]
    have set : PageLaw (setChapter c (some (withoutOutput r)) s) := h.of_frame rfl rfl rfl
    exact (release_pageLaw set o.chain).detach _

theorem sameBlocks_releaseOutput (c : ChapterId) (s : State) : SameBlocks s (releaseOutput c s) := by
  rcases releaseOutput_cases c s with ⟨-, same⟩ | ⟨r, o, hr, ho, released⟩
  · rw [same]
    exact .refl s
  · rw [released]
    refine SameBlocks.trans (fun b => ?_) (sameBlocks_detach _ _)
    have owned : ownedChain s c = o.chain := by
      unfold ownedChain
      rw [hr, Option.bind_some, ho]
      rfl
    have emptied : ownedOutput (withoutOutput r) = none := by
      unfold ownedOutput withoutOutput
      cases r.result <;> rfl
    have outputs := outputCount_setChapter c (some (withoutOutput r)) s b
    rw [owned, Option.bind_some, emptied] at outputs
    have takes : takeCount (setChapter c (some (withoutOutput r)) s) b = takeCount s b := takeCount_congr rfl b
    have lanes : laneCount (setChapter c (some (withoutOutput r)) s) b = laneCount s b := laneCount_congr rfl b
    rw [poolCount_release, takeCount_release, outputCount_release, laneCount_release, takes, lanes, setChapter_store]
    simp only [Option.map_none, Option.getD_none, List.count_nil] at outputs
    omega

theorem freeTake_cases (k : TakeId) (s : State) : (s.takes[k] = none ∧ freeTake k s = s) ∨
    ∃ r w, s.takes[k] = some r ∧ w = modTitle r.title (fun x => { x with takeCount := x.takeCount - 1 }) s ∧
      freeTake k s = setTake k none (detach (.take k) (release r.chain w)) := by
  cases hr : s.takes[k] with
  | none => exact .inl ⟨rfl, by simp only [freeTake, hr]⟩
  | some r =>
    refine .inr ⟨r, modTitle r.title (fun x => { x with takeCount := x.takeCount - 1 }) s, rfl, rfl, ?_⟩
    rw [freeTake_eq hr]

theorem PageLaw.freeTake (h : PageLaw s) (k : TakeId) : PageLaw (freeTake k s) := by
  rcases freeTake_cases k s with ⟨-, same⟩ | ⟨r, w, -, rfl, freed⟩
  · rw [same]
    exact h
  · rw [freed]
    have uncounted : PageLaw (modTitle r.title (fun x => { x with takeCount := x.takeCount - 1 }) s) :=
      h.of_frame rfl rfl rfl
    have detached := (release_pageLaw uncounted r.chain).detach (.take k)
    exact detached.of_frame (setTake_store ..) (setTake_captures ..) (setTake_lanes ..)

theorem sameBlocks_freeTake (k : TakeId) (s : State) : SameBlocks s (freeTake k s) := by
  rcases freeTake_cases k s with ⟨-, same⟩ | ⟨r, w, hr, rfl, freed⟩
  · rw [same]
    exact .refl s
  · rw [freed]
    intro b
    generalize hw : modTitle r.title (fun x => { x with takeCount := x.takeCount - 1 }) s = w
    generalize hd : detach (.take k) (release r.chain w) = d
    have chain : takeChain d k = r.chain := by
      have takes : d.takes = s.takes := by rw [← hd, detach_takes, release_takes, ← hw, modTitle_takes]
      unfold takeChain
      rw [takes, hr]
    have cut := takeCount_setTake k none d b
    rw [chain] at cut
    simp only [Option.map_none, Option.getD_none, List.count_nil] at cut
    have outputs : outputCount (setTake k none d) b = outputCount d b := outputCount_congr (ownedChain_congr rfl) b
    have lanes : laneCount (setTake k none d) b = laneCount d b := laneCount_congr rfl b
    have detached := sameBlocks_detach (.take k) (release r.chain w) b
    have uncounted : SameBlocks s w := hw ▸ sameBlocks_of_frame rfl rfl rfl rfl
    have kept := uncounted b
    rw [hd, poolCount_release, takeCount_release, outputCount_release, laneCount_release] at detached
    rw [setTake_store, outputs, lanes]
    omega

/-! ### The profiles and the array's form (R63, R149) -/

theorem Deed.profilesLaw (h : Deed A C s t) (hs : ProfilesLaw s) : ProfilesLaw t := by
  cases h with
  | profile n pr hp =>
    intro m
    by_cases hm : m = n
    · subst hm
      have self : (setProfile m pr s).profiles[m] = pr := by simp [setProfile]
      rw [self]
      exact hp
    · have kept : (setProfile n pr s).profiles[m] = s.profiles[m] := by
        have hv : n.val ≠ m.val := fun e => hm (Fin.ext e.symm)
        simp [setProfile, hv]
      rw [kept]
      exact hs m
  | retire k => exact (freeTake_frame k s) ▸ hs
  | output c => rw [ProfilesLaw, releaseOutput_profiles]; exact hs
  | vacate l => rw [ProfilesLaw, clearLane_eq]; exact hs
  | _ => exact hs

theorem Deed.memoryLaw (h : Deed A C s t) (hs : MemoryLaw s) : MemoryLaw t := by
  cases h with
  | program i src gone page slot bytes => exact Memory.wf_programPage hs slot bytes
  | erased b who gone => exact Memory.wf_eraseBlock hs b
  | retire k =>
    rcases freeTake_cases k s with ⟨-, same⟩ | ⟨r, w, -, rfl, freed⟩
    · rw [same]
      exact hs
    · rw [MemoryLaw, freed, setTake_store, detach_mem, release_mem]
      exact hs
  | output c =>
    rcases releaseOutput_cases c s with ⟨-, same⟩ | ⟨r, o, -, -, released⟩
    · rw [same]
      exact hs
    · rw [MemoryLaw, released, detach_mem, release_mem]
      exact hs
  | vacate l => rw [MemoryLaw, clearLane_mem]; exact hs
  | abandon p => rw [MemoryLaw, modStore_store, abandonSource_mem]; exact hs
  | orphan p => rw [MemoryLaw, modStore_store, orphanRead_mem]; exact hs
  | _ => exact hs

theorem Did.profilesLaw (h : Did A C s t) (hs : ProfilesLaw s) : ProfilesLaw t :=
    h.keep (fun _ _ hd => hd.profilesLaw) hs

theorem Did.memoryLaw (h : Did A C s t) (hs : MemoryLaw s) : MemoryLaw t := h.keep (fun _ _ hd => hd.memoryLaw) hs

/-! ### The law of pages and the places of the blocks (R64, R76) -/

theorem Deed.pageLaw (h : Deed A C s t) (hs : PageLaw s) : PageLaw t := by
  have fit := pageLaw_iff.mp hs
  cases h with
  | retire k => exact hs.freeTake k
  | output c => exact hs.releaseOutput c
  | vacate l => exact hs.clearLane l
  | job l f hf => exact hs.modJob l f
  | orphan p =>
    refine pageLaw_iff.mpr ?_
    have buffers : (modStore (orphanRead (.port p)) s).store.buffers = s.store.buffers := (orphanRead_leaves _ _).1
    rw [buffers]
    exact fit.of_op fun w => erasesFor_orphanRead (.port p) w s.store
  | abandon p => exact pageLaw_of_abandon hs (src := .stream p) (fun _ => Iff.rfl) rfl fun w _ hw => hw
  | slot p o hA ho =>
    refine pageLaw_iff.mpr (fit.of_present fun i w hi hw => ?_)
    cases w with
    | lane l => exact hw
    | stream q =>
      by_cases hq : q = p
      · subst hq
        have self : (setStream q o s).captures[q] = o := setStream_captures_self s q o
        rw [SourcePresent, self]
        rintro rfl
        rcases ho rfl with h | h
        · exact hw h
        · exact inStore_eq_false.mp h i hi
      · have kept : (setStream p o s).captures[q] = s.captures[q] := setStream_captures_ne s p q o hq
        rw [SourcePresent, kept]
        exact hw
  | program i src gone page slot bytes hA ha hb =>
    rw [ha] at fit
    have left : PagesFit (SourcePresent s) (.programming i) fun k => (endProgram i slot bytes s).store.buffers[k] := by
      refine fit.leave (i := i) (b := .free) (fun w => ?_) (fun w hw => (Option.some_ne_none w hw.symm).elim)
        (fun w => by simp [targetOf]) fun k => ?_
      · exact fit.no_erase (fun w => by simp [erasesFor]) i w
      · split
        · rename_i hk
          subst hk
          exact modBuffer_buffers_self k (fun _ => .free) s.store
        · exact modBuffer_buffers_ne (by assumption) (fun _ => .free) s.store
    exact pageLaw_iff.mpr (left.of_op fun w => by simp [erasesFor, endProgram])
  | erased b who gone hA ha hw =>
    rw [ha] at fit
    refine pageLaw_iff.mpr (fit.of_op fun w => ?_)
    have ended : ¬ erasesFor w (.erasing b who gone) := by
      rintro ⟨x, hx⟩
      cases hx
      rcases hw with hw | hw
      · cases hw
      · cases hw
    exact iff_of_false (not_erasesFor_idle w) ended
  | read who gone slot ha =>
    rw [ha] at fit
    exact pageLaw_iff.mpr (fit.of_op fun w => by simp [erasesFor, freeArray])
  | _ => exact hs.of_frame rfl rfl rfl

theorem Deed.sameBlocks (h : Deed A C s t) : SameBlocks s t := by
  cases h with
  | take k o ho =>
    intro b
    have cut := takeCount_setTake k o s b
    rw [ho] at cut
    have outputs : outputCount (setTake k o s) b = outputCount s b := outputCount_congr (ownedChain_congr rfl) b
    have lanes : laneCount (setTake k o s) b = laneCount s b := laneCount_congr rfl b
    rw [setTake_store, outputs, lanes]
    omega
  | retire k => exact sameBlocks_freeTake k s
  | chapter c o ho hk =>
    refine sameBlocks_of_eq (fun _ => rfl) rfl (fun d => ?_) rfl
    by_cases hd : d = c
    · subst hd
      rw [ownedChain_setChapter_self, ho]
      rfl
    · exact ownedChain_setChapter_ne hd o s
  | output c => exact sameBlocks_releaseOutput c s
  | vacate l => exact sameBlocks_clearLane l s
  | job l f hf => exact sameBlocks_modJob hf
  | abandon p => exact sameBlocks_modStore fun b => poolCount_abandonSource _ _ b
  | orphan p => exact sameBlocks_modStore fun b => poolCount_orphanRead _ _ b
  | program i src gone page slot bytes hA ha hb =>
    refine sameBlocks_modStore fun b => ?_
    unfold poolCount
    rw [ha]
    rfl
  | erased b who gone hA ha hw =>
    refine sameBlocks_of_eq (fun x => ?_) rfl (fun _ => rfl) rfl
    simp only [joinErased, endErase, modStore_store, poolCount, ha, erasingBlock, List.count_append, List.count_nil]
    omega
  | read who gone slot ha =>
    refine sameBlocks_modStore fun b => ?_
    unfold poolCount
    rw [ha]
    rfl
  | _ => exact sameBlocks_of_frame rfl rfl rfl rfl

theorem Did.pageLaw (h : Did A C s t) (hs : PageLaw s) : PageLaw t := h.keep (fun _ _ hd => hd.pageLaw) hs

theorem Did.sameBlocks (h : Did A C s t) : SameBlocks s t := h.keep (fun _ _ hd hs => hs.trans hd.sameBlocks) (.refl s)

/-! ### A locked record (R164) -/

theorem Locked.trans {r r' r'' : Chapter} (h : Locked r r') (k : Locked r' r'') : Locked r r'' := by
  obtain ⟨state, assembled, result, title⟩ := h
  obtain ⟨state', assembled', result', title'⟩ := k
  exact ⟨state'.trans state, assembled'.trans assembled, result'.trans result, title'.trans title⟩

theorem Locked.refl (r : Chapter) : Locked r r := ⟨rfl, rfl, rfl, rfl⟩

theorem Deed.locked (h : Deed A C s t) {c : ChapterId} (hc : ¬ C c) {r : Chapter} (hr : s.chapters[c] = some r) :
    ∃ r', t.chapters[c] = some r' ∧ Locked r r' := by
  cases h with
  | chapter d o ho hk =>
    by_cases hd : c = d
    · subst hd
      have self : (setChapter c o s).chapters[c] = o := setChapter_chapters_self s c o
      rw [self]
      exact hk.resolve_left hc r hr
    · have kept : (setChapter d o s).chapters[c] = s.chapters[c] := setChapter_chapters_ne s d c o hd
      exact ⟨r, kept.trans hr, .refl r⟩
  | output d hd =>
    have hne : c ≠ d := fun e => hc (e.symm ▸ hd)
    exact ⟨r, (releaseOutput_chapters_ne hne s).trans hr, .refl r⟩
  | retire k =>
    rw [freeTake_frame]
    exact ⟨r, hr, .refl r⟩
  | vacate l =>
    rw [clearLane_eq]
    exact ⟨r, hr, .refl r⟩
  | _ => exact ⟨r, hr, .refl r⟩

/-- A chapter that a command may not change freely keeps its locked parts. -/
theorem Did.locked (h : Did A C s t) {c : ChapterId} (hc : ¬ C c) {r : Chapter} (hr : s.chapters[c] = some r) :
    ∃ r', t.chapters[c] = some r' ∧ Locked r r' := by
  refine h.keep (P := fun u => ∃ r', u.chapters[c] = some r' ∧ Locked r r') (fun u v hd hu => ?_) ⟨r, hr, .refl r⟩
  obtain ⟨x, hx, hl⟩ := hu
  obtain ⟨y, hy, hl'⟩ := hd.locked hc hx
  exact ⟨y, hy, hl.trans hl'⟩

/-! ### The frames of a request -/

/-- What a request but the five named ones leaves (O43). -/
structure RequestFrame (s t : State) : Prop where
  levels : t.levels = s.levels
  mem : t.store.mem = s.store.mem
  captures : ∀ p : Port, t.captures[p].map streamRest = s.captures[p].map streamRest
  ports : ∀ p : Port, steady t.ports[p] = steady s.ports[p]

theorem RequestFrame.refl (s : State) : RequestFrame s s := ⟨rfl, rfl, fun _ => rfl, fun _ => rfl⟩

theorem RequestFrame.trans (h : RequestFrame s t) (k : RequestFrame t u) : RequestFrame s u :=
  ⟨k.levels.trans h.levels, k.mem.trans h.mem, fun p => (k.captures p).trans (h.captures p),
    fun p => (k.ports p).trans (h.ports p)⟩

theorem Deed.frame (h : Deed False C s t) : RequestFrame s t := by
  cases h with
  | port p f hf =>
    refine ⟨rfl, rfl, fun _ => rfl, fun q => ?_⟩
    by_cases hq : q = p
    · subst hq
      have self : (modPort q f s).ports[q] = f s.ports[q] := modPort_ports_self s q f
      rw [self, hf]
    · have kept : (modPort p f s).ports[q] = s.ports[q] := modPort_ports_ne s p q f hq
      rw [kept]
  | setting p f hA => exact hA.elim
  | slot p o hA => exact hA.elim
  | level p f hA => exact hA.elim
  | program i src gone page slot bytes hA => exact hA.elim
  | erased b who gone hA => exact hA.elim
  | retire k =>
    rcases freeTake_cases k s with ⟨-, same⟩ | ⟨r, w, -, rfl, freed⟩
    · rw [same]
      exact .refl s
    · rw [freed]
      refine ⟨?_, ?_, fun p => ?_, fun p => ?_⟩
      · rw [setTake_levels, detach_levels]
        rfl
      · rw [setTake_store, detach_mem, release_mem]
        rfl
      · rw [setTake_captures, detach_captures]
        rfl
      · rw [setTake_ports]
        exact steady_detach _ p _
  | output c =>
    rcases releaseOutput_cases c s with ⟨-, same⟩ | ⟨r, o, -, -, released⟩
    · rw [same]
      exact .refl s
    · rw [released]
      refine ⟨?_, ?_, fun p => ?_, fun p => ?_⟩
      · rw [detach_levels]
        rfl
      · rw [detach_mem, release_mem]
        rfl
      · rw [detach_captures]
        rfl
      · exact steady_detach _ p _
  | vacate l =>
    refine ⟨?_, clearLane_mem l s, fun p => ?_, fun p => ?_⟩ <;> rw [clearLane_eq]
  | abandon p => exact ⟨rfl, abandonSource_mem _ _, fun _ => rfl, fun _ => rfl⟩
  | orphan p => exact ⟨rfl, orphanRead_mem _ _, fun _ => rfl, fun _ => rfl⟩
  | _ => exact ⟨rfl, rfl, fun _ => rfl, fun _ => rfl⟩

theorem Did.frame (h : Did False C s t) : RequestFrame s t := h.keep (fun _ _ hd hs => hs.trans hd.frame) (.refl s)

end Sys2Proof.Machine

/-! The stages of a command: its own updates, what follows from them (turns), a job restarted, a job's end, a block
given by an erase. A command runs from state to state through stages, and each law is carried from stage to stage. -/

namespace Sys2Proof.Machine

open View

variable {H A : Prop} {C T : ChapterId → Prop} {s t u : State}

/-! ### A job's end (R102) -/

/-- The state after a job has left its lane with its output, before lanes take the next entries. -/
def jobLeft (l : Lane) (j : Job) (f : Finish) (s : State) : State :=
  if f.reasons = [] then
    enterState j.chapter .rendered .passed
      (writeResult j.chapter (fullResult j f (some ⟨outputLength j, jobFrames j, f.digest, j.blocks⟩))
        (setLane l none s))
  else
    enterState j.chapter .rejected .failed
      (writeResult j.chapter (fullResult j f (some ⟨outputLength j, jobFrames j, f.digest, j.blocks⟩))
        (setLane l none s))

theorem jobEnd_eq {l : Lane} {j : Job} {f : Finish} (hj : s.lanes[l] = some j) (hf : j.finishing = some f) :
    jobEnd l s = lanesTake (jobLeft l j f s) := by
  unfold jobEnd
  simp only [hj, hf]
  rfl

/-- Both outcomes leave the same record but for its state. -/
theorem jobLeft_cases (l : Lane) (j : Job) (f : Finish) (s : State) :
    ∃ st cause, jobLeft l j f s = enterState j.chapter st cause
    (writeResult j.chapter (fullResult j f (some ⟨outputLength j, jobFrames j, f.digest, j.blocks⟩))
      (setLane l none s)) := by
  unfold jobLeft
  split
  · exact ⟨.rendered, .passed, rfl⟩
  · exact ⟨.rejected, .failed, rfl⟩

theorem path_jobLeft {l : Lane} {j : Job} (f : Finish) (hj : s.lanes[l] = some j) :
    Path H (view s) (view (jobLeft l j f s)) := by
  have left (g : ResultGroup) (st : ChapterState) (cause : Cause)
      (hl : ∀ r : Chapter, Leaves r { r with result := some g, state := st }) :
      Path H (view s) (view (enterState j.chapter st cause (writeResult j.chapter g (setLane l none s)))) := by
    refine (path_leave (f := fun r => { r with result := some g, state := st }) (view_lane_of_some hj) hl).trans
      (path_of_eq ?_)
    rw [view_enterState, view_writeResult, view_setLane]
    refine View.ext rfl rfl rfl ?_ rfl rfl
    simp [Function.comp_def]
  unfold jobLeft
  split
  · exact left _ _ _ fun r => .rendered _ (by simp [fullResult])
  · exact left _ _ _ fun r => .rejected _

/-! ### Stages -/

/-- One stage of a command. -/
inductive Stage (H A : Prop) (C : ChapterId → Prop) (s : State) : State → Prop where
  | own (t : State) (C' : ChapterId → Prop)
      (hC : ∀ c, C' c → C c ∨ (H → ∀ r, s.chapters[c] = some r → r.state ≠ .published)) (did : Did A C' s t)
      (path : Path H (view s) (view t)) : Stage H A C s t
  | turns (t : State) (h : Turns s t) : Stage H A C s t
  | restart (p : Port) (c : ChapterId) (l : Lane) (r : Chapter) (hc : s.chapters[c] = some r)
      (hl : laneOf s c = some l) :
      Stage H A C s (beginJob l c p (clearLane l s))
  | finish (l : Lane) (j : Job) (f : Finish) (i : Fin 2) (slot : Nat) (bytes : List Byte) (hA : A)
      (ha : s.store.array = .programming i) (hb : s.store.buffers[i] = .programming (.lane l) false 0 slot bytes)
      (hl : s.lanes[l] = some j) : Stage H A C s (jobLeft l j f (endProgram i slot bytes s))
  | grant (src : Source) (b : Nat) (hA : A) (ha : s.store.array = .erasing b (.builtIn src) false) :
      Stage H A C s (appendBlock src b (endErase b s))

/-- A chain of stages. -/
structure Stages (H A : Prop) (C : ChapterId → Prop) (s t : State) : Prop where
  chain : Relation.ReflTransGen (Stage H A C) s t

theorem Stages.refl (s : State) : Stages H A C s s := ⟨.refl⟩

theorem Stage.all (h : Stage H A C s t) : Stages H A C s t := ⟨.single h⟩

theorem Stages.trans (h : Stages H A C s t) (k : Stages H A C t u) : Stages H A C s u := ⟨h.chain.trans k.chain⟩

/-- What every stage keeps holds at the end of a chain. -/
theorem Stages.keep {P : State → Prop} (h : Stages H A C s t) (hP : ∀ u v, Stage H A C u v → P u → P v) (hs : P s) :
    P t := by
  obtain ⟨chain⟩ := h
  induction chain with
  | refl => exact hs
  | tail _ hd ih => exact hP _ _ hd ih

theorem Stages.turns (h : Stages H A C s t) (k : Turns t u) : Stages H A C s u := h.trans (Stage.turns u k).all

theorem Stages.settle (h : Stages H A C s t) : Stages H A C s (settle t) := h.turns (turns_settle t)

theorem Stages.lanesTake (h : Stages H A C s t) : Stages H A C s (lanesTake t) := h.turns (turns_lanesTake t)

/-- Updates that change no chapter freely. -/
theorem stages_own (did : Did A (fun _ => False) s t) (path : Path H (view s) (view t)) : Stages H A C s t :=
  (Stage.own t _ (fun _ h => h.elim) did path).all

/-- Updates that change one chapter freely. -/
theorem stages_chapter {c : ChapterId} (hc : C c ∨ (H → ∀ r, s.chapters[c] = some r → r.state ≠ .published))
    (did : Did A (· = c) s t) (path : Path H (view s) (view t)) : Stages H A C s t :=
  (Stage.own t _ (fun d hd => by rw [hd]; exact hc) did path).all

/-- A chapter whose record says so is not PUBLISHED. -/
theorem not_published_of_state {c : ChapterId} {r : Chapter} (hr : s.chapters[c] = some r) (hs : r.state ≠ .published) :
    C c ∨ (H → ∀ x, s.chapters[c] = some x → x.state ≠ .published) :=
  .inr fun _ x hx => by
    rw [hr] at hx
    cases hx
    exact hs

/-! ### Every stage in the catalogue -/

theorem Stage.path (h : Stage H A C s t) : Path H (view s) (view t) := by
  cases h with
  | own _ _ _ _ path => exact path
  | turns _ h => exact h.consequences.path
  | restart p c l r hc hl => exact path_restart hc hl
  | finish l j f i slot bytes hA ha hb hl => exact path_jobLeft (s := endProgram i slot bytes s) f hl
  | grant src b hA ha => exact (consequences_appendBlock src b (endErase b s)).path

/-! ### What a stage but the command's own reaches -/

theorem Turn.work (h : Turn s t) (hw : Within T s) : Work T s t := by
  cases h with
  | mark | retarget | load | program | builtIn | background | read => exact work_modStore _ hw
  | give src b rest => exact (work_modStore _ hw).andThen fun h => work_appendBlock src b h
  | fetch p f hf =>
    refine work_modPort p f (fun ps => ?_) hw
    obtain ⟨st, hst, hless⟩ := hf ps
    rw [hst]
    simp only [portRest, hless]
  | fifo p n => exact work_modStream p _ (fun _ => rfl) hw
  | job l f hf => exact work_modJob l f (fun j => (hf j).1) hw
  | post n => exact work_broadcast n hw
  | start l e rest hl hq =>
    have hc : T e.chapter := hw.queue e (by rw [hq]; exact List.mem_cons_self ..)
    refine ((work_setQueue rest (fun x hx => ?_) hw).andThen fun h =>
      work_enterState e.chapter .rendering .started hc h).andThen
      fun h => work_beginJob l e.chapter e.origin hc h
    rw [hq]
    exact List.mem_cons_of_mem _ hx
  | abort l j hl =>
    have hc : T j.chapter := hw.lanes l j hl
    exact (work_clearLane l hw).andThen fun h => work_enterState j.chapter .ready .storeFull hc h
  | reject l j g cause hl hg =>
    have hc : T j.chapter := hw.lanes l j hl
    exact ((work_clearLane l hw).andThen fun h => work_writeResult j.chapter g hc h).andThen
      fun h => work_enterState j.chapter .rejected cause hc h

theorem Turns.work (h : Turns s t) (hw : Within T s) : Work T s t := by
  induction h with
  | refl => exact .refl hw
  | tail _ ht ih => exact ih.andThen fun h => ht.work h

theorem work_restart {p : Port} {c : ChapterId} {l : Lane} (hl : laneOf s c = some l) (hw : Within T s) :
    Work T s (beginJob l c p (clearLane l s)) := by
  obtain ⟨j, hj, hc⟩ := Option.map_eq_some_iff.mp (view_lane_of_laneOf hl)
  have hj : s.lanes[l] = some j := hj
  have hT : T c := hc ▸ hw.lanes l j hj
  exact (work_clearLane l hw).andThen fun h => work_beginJob l c p hT h

theorem work_jobLeft {l : Lane} {j : Job} (f : Finish) (hj : s.lanes[l] = some j) (hw : Within T s) :
    Work T s (jobLeft l j f s) := by
  have hc : T j.chapter := hw.lanes l j hj
  obtain ⟨st, cause, left⟩ := jobLeft_cases l j f s
  rw [left]
  exact ((work_setLane l none (by simp) hw).andThen fun h => work_writeResult j.chapter _ hc h).andThen
    fun h => work_enterState j.chapter st cause hc h

/-- A stage is the command's own, or work on the chapters of the queue and the lanes. -/
theorem Stage.own_or_work (h : Stage H A C s t) : (∃ C' : ChapterId → Prop,
    (∀ c, C' c → C c ∨ (H → ∀ r, s.chapters[c] = some r → r.state ≠ .published)) ∧ Did A C' s t) ∨
      ∀ T : ChapterId → Prop, Within T s → Work T s t := by
  cases h with
  | own _ C' hC did _ => exact .inl ⟨C', hC, did⟩
  | turns _ h => exact .inr fun T => h.work
  | restart p c l r hc hl => exact .inr fun T => work_restart hl
  | finish l j f i slot bytes hA ha hb hl =>
    refine .inr fun T hw => (work_modStore (fun st =>
      { modBuffer i (fun _ => .free) st with array := .idle, mem := programPage st.mem slot bytes }) hw).andThen
        fun h => ?_
    exact work_jobLeft (s := endProgram i slot bytes s) f hl h
  | grant src b hA ha =>
    exact .inr fun T hw => (work_modStore _ hw).andThen fun h => work_appendBlock src b h

/-! ### The profiles, the array's form and the frames -/

theorem Stage.profilesLaw (h : Stage H A C s t) (hs : ProfilesLaw s) : ProfilesLaw t := by
  rcases h.own_or_work with ⟨C', -, did⟩ | work
  · exact did.profilesLaw hs
  · rw [ProfilesLaw, (work _ (within_true s)).profiles]
    exact hs

theorem mem_jobLeft (l : Lane) (j : Job) (f : Finish) (s : State) : (jobLeft l j f s).store.mem = s.store.mem := by
  obtain ⟨st, cause, left⟩ := jobLeft_cases l j f s
  rw [left, enterState_store]
  rfl

theorem Stage.memoryLaw (h : Stage H A C s t) (hs : MemoryLaw s) : MemoryLaw t := by
  cases h with
  | own _ C' _ did _ => exact did.memoryLaw hs
  | turns _ h => rw [MemoryLaw, h.mem]; exact hs
  | restart p c l r hc hl => rw [MemoryLaw, beginJob_store, clearLane_mem]; exact hs
  | finish l j f i slot bytes => rw [MemoryLaw, mem_jobLeft]; exact Memory.wf_programPage hs slot bytes
  | grant src b => rw [MemoryLaw, appendBlock_store]; exact Memory.wf_eraseBlock hs b

theorem Work.requestFrame (h : Work T s t) (hm : t.store.mem = s.store.mem) : RequestFrame s t where
  levels := h.levels
  mem := hm
  captures := h.captures
  ports p := by
    have rest : portRest t.ports[p] = portRest s.ports[p] := h.ports p
    have same := congrArg steady rest
    exact same

theorem Stage.frame (h : Stage H False C s t) : RequestFrame s t := by
  cases h with
  | own _ C' _ did _ => exact did.frame
  | turns _ h => exact (h.work (within_true s)).requestFrame h.mem
  | restart p c l r hc hl =>
    exact (work_restart hl (within_true s)).requestFrame (by rw [beginJob_store, clearLane_mem])
  | finish l j f i slot bytes hA => exact hA.elim
  | grant src b hA => exact hA.elim

theorem Stages.profilesLaw (h : Stages H A C s t) (hs : ProfilesLaw s) : ProfilesLaw t :=
  h.keep (fun _ _ hd => hd.profilesLaw) hs

theorem Stages.memoryLaw (h : Stages H A C s t) (hs : MemoryLaw s) : MemoryLaw t :=
    h.keep (fun _ _ hd => hd.memoryLaw) hs

theorem Stages.frame (h : Stages H False C s t) : RequestFrame s t :=
  h.keep (fun _ _ hd hs => hs.trans hd.frame) (.refl s)

/-! ### A PUBLISHED record (R164) -/

/-- The queue and the lanes are in order, and the chapter's PUBLISHED record has the locked parts it had. -/
structure PublishedAs (c : ChapterId) (r : Chapter) (s : State) : Prop where
  held : (view s).HeldLaw
  record : ∃ r', s.chapters[c] = some r' ∧ Locked r r'

theorem Stage.publishedAs (h : Stage True A C s t) {c : ChapterId} {r : Chapter} (hc : ¬ C c)
    (hr : r.state = .published)
    (hs : PublishedAs c r s) : PublishedAs c r t := by
  obtain ⟨held, x, hx, locked⟩ := hs
  have state : x.state = .published := locked.1.trans hr
  refine ⟨h.path.heldLaw trivial held, ?_⟩
  rcases h.own_or_work with ⟨C', hC, did⟩ | work
  · obtain ⟨y, hy, hl⟩ := did.locked (fun h => (hC c h).elim hc fun hp => hp trivial x hx state) hx
    exact ⟨y, hy, locked.trans hl⟩
  · have off : NotHeld s c := notHeld_iff.mp (held.notHeld hx (by simp [state]) (by simp [state]))
    have kept : t.chapters[c] = s.chapters[c] := (work (· ≠ c) (within_of_notHeld off)).chapters c fun hne => hne rfl
    exact ⟨x, kept.trans hx, locked⟩

theorem Stages.publishedAs (h : Stages True A C s t) {c : ChapterId} {r : Chapter} (hc : ¬ C c)
    (hr : r.state = .published) (hs : PublishedAs c r s) : PublishedAs c r t :=
  h.keep (fun _ _ hd => hd.publishedAs hc hr) hs

/-! ### The places of the blocks (R64) -/

theorem takeCount_setChapter (c : ChapterId) (o : Option Chapter) (s : State) (b : Nat) :
    takeCount (setChapter c o s) b = takeCount s b := takeCount_congr rfl b

theorem laneCount_setChapter (c : ChapterId) (o : Option Chapter) (s : State) (b : Nat) :
    laneCount (setChapter c o s) b = laneCount s b := laneCount_congr rfl b

/-- Blocks that leave a lane for the output of a chapter that owned none (R102). -/
theorem sameBlocks_output {l : Lane} {j : Job} (hj : s.lanes[l] = some j) {c : ChapterId} {r r' : Chapter}
    (hr : s.chapters[c] = some r) (ho : ownedOutput r = none) {o : Output} (hr' : ownedOutput r' = some o)
    (hb : o.chain = j.blocks) : SameBlocks s (setChapter c (some r') (setLane l none s)) := fun b => by
  have blocks : laneChain s l = j.blocks := by
    unfold laneChain
    rw [hj]
    rfl
  have emptied := laneCount_setLane l none s b
  rw [blocks] at emptied
  have empty : ownedChain (setLane l none s) c = [] := by
    have hx : (setLane l none s).chapters[c] = some r := hr
    unfold ownedChain
    rw [hx, Option.bind_some, ho]
    rfl
  have filled := outputCount_setChapter c (some r') (setLane l none s) b
  rw [empty, Option.bind_some, hr', outputCount_setLane] at filled
  simp only [Option.map_some, Option.map_none, Option.getD_some, Option.getD_none, List.count_nil, hb] at filled emptied
  rw [takeCount_setChapter, takeCount_setLane, laneCount_setChapter, setChapter_store, setLane_store]
  omega

theorem sameBlocks_jobLeft {l : Lane} {j : Job} (f : Finish) (hj : s.lanes[l] = some j) {r : Chapter}
    (hr : s.chapters[j.chapter] = some r) (ho : ownedOutput r = none) : SameBlocks s (jobLeft l j f s) := by
  obtain ⟨st, cause, left⟩ := jobLeft_cases l j f s
  have hx : (setLane l none s).chapters[j.chapter] = some r := hr
  rw [left]
  refine SameBlocks.enterState ?_
  rw [writeResult, modChapter_of_some hx]
  exact sameBlocks_output hj hr ho (o := ⟨outputLength j, jobFrames j, f.digest, j.blocks⟩) rfl rfl

/-- The header page's program has ended, so its lane has no page left in the store (R78). -/
theorem pageLaw_jobLeft {l : Lane} {j : Job} (f : Finish) {i : Fin 2} {slot : Nat} {bytes : List Byte} (h : PageLaw s)
    (ha : s.store.array = .programming i) (hb : s.store.buffers[i] = .programming (.lane l) false 0 slot bytes) :
    PageLaw (jobLeft l j f (endProgram i slot bytes s)) := by
  have ended := (Deed.program (A := True) (C := fun _ => False) i (.lane l) false 0 slot bytes trivial ha hb).pageLaw h
  have gone (k : Fin 2) : pageSource (endProgram i slot bytes s).store.buffers[k] ≠ some (.lane l) := by
    have fit := pageLaw_iff.mp h
    by_cases hk : k = i
    · have free : (endProgram i slot bytes s).store.buffers[i] = .free :=
        modBuffer_buffers_self i (fun _ => .free) s.store
      rw [hk, free]
      exact (Option.some_ne_none _).symm
    · have kept : (endProgram i slot bytes s).store.buffers[k] = s.store.buffers[k] :=
        modBuffer_buffers_ne hk (fun _ => .free) s.store
      rw [kept]
      exact fun hs => hk (fit.single k i (.lane l) hs (by simp only [hb]; rfl))
  obtain ⟨st, cause, left⟩ := jobLeft_cases l j f (endProgram i slot bytes s)
  rw [left]
  generalize endProgram i slot bytes s = w at ended gone
  have idle : PageLaw (setLane l none w) := by
    refine pageLaw_iff.mpr ((pageLaw_iff.mp ended).of_present fun k src hk hsrc => ?_)
    cases src with
    | stream p => exact hsrc
    | lane m =>
      have hm : m ≠ l := fun e => gone k (e ▸ hk)
      have kept : (setLane l none w).lanes[m] = w.lanes[m] := setLane_lanes_ne w l m none hm
      rw [SourcePresent, kept]
      exact hsrc
  have written : PageLaw (writeResult j.chapter
      (fullResult j f (some ⟨outputLength j, jobFrames j, f.digest, j.blocks⟩)) (setLane l none w)) :=
        idle.of_frame rfl rfl rfl
  exact written.enterState _ _ _

/-- The built-in erase has ended, and its page has its block (R72). -/
theorem pageLaw_grant {src : Source} {b : Nat} (h : PageLaw s) (ha : s.store.array = .erasing b (.builtIn src) false) :
    PageLaw (appendBlock src b (endErase b s)) := by
  have fit := pageLaw_iff.mp h
  rw [ha] at fit
  have given := fit.endErase (target := .placed) (op := .idle) (by simp) not_erasesFor_idle
  refine pageLaw_iff.mpr ?_
  rw [appendBlock_store]
  simp only [setTarget_buffers, setTarget_array]
  exact given.of_present fun i w _ hw => (appendBlock_present src b (endErase b s) w).mpr hw

/-- Every stage keeps a sound state sound. -/
theorem Stage.sound (h : Stage True A C s t) (hs : Sound s) : Sound t := by
  have path := h.path
  cases h with
  | own _ C' _ did _ => exact hs.of_path path (did.pageLaw hs.pages) (did.sameBlocks.blockLaw hs.blocks)
  | turns _ h => exact h.sound hs
  | restart p c l r hc hl =>
    have lane := view_lane_of_laneOf hl
    have idle : (clearLane l s).lanes[l] = none := clearLane_lanes_self l s
    refine hs.of_path path ((hs.pages.clearLane l).beginJob idle c p) (SameBlocks.blockLaw ?_ hs.blocks)
    refine (sameBlocks_clearLane l s).trans (sameBlocks_beginJob p idle fun x hx => ?_)
    rw [clearLane_eq] at hx
    obtain ⟨y, hy, hrender⟩ := hs.held.rendering l c lane
    have hy : s.chapters[c] = some y := hy
    obtain rfl : x = y := Option.some.inj (hx.symm.trans hy)
    exact hs.no_output hy (.inr hrender)
  | finish l j f i slot bytes hA ha hb hl =>
    obtain ⟨r, hr, -, ho⟩ := hs.rendering hl
    have ended := (Deed.program (A := True) (C := fun _ => False) i
      (.lane l) false 0 slot bytes trivial ha hb).sameBlocks
    have left := sameBlocks_jobLeft (s := endProgram i slot bytes s) f hl hr ho
    exact hs.of_path path (pageLaw_jobLeft f hs.pages ha hb) ((ended.trans left).blockLaw hs.blocks)
  | grant src b hA ha =>
    have fit := pageLaw_iff.mp hs.pages
    obtain ⟨i, hi⟩ := (fit.erase src).mp ⟨b, ha⟩
    have owned : Owned (endErase b s) src := hs.owned (fit.owner i src (pageSource_of_targetOf hi))
    have given : SameBlocks s (appendBlock src b (endErase b s)) :=
      sameBlocks_appendBlock owned (fun x => by
        simp only [poolCount, ha, erasingBlock, endErase, modStore_store, List.count_nil]
        omega) rfl rfl rfl
    exact hs.of_path path (pageLaw_grant hs.pages ha) (given.blockLaw hs.blocks)

theorem Stages.sound (h : Stages True A C s t) (hs : Sound s) : Sound t := h.keep (fun _ _ hd => hd.sound) hs

end Sys2Proof.Machine

/-! Every request as a chain of stages. -/

namespace Sys2Proof.Machine

open View

variable {H A : Prop} {C : ChapterId → Prop} {s t : State}

/-! ### Titles, scripts and positions -/

theorem stages_defineTitle (params : List Byte) (s : State) : Stages H A C s (defineTitle params s).state := by
  refine stages_own ?_ (path_defineTitle params s)
  unfold defineTitle
  split
  · split
    · exact .refl s
    · split
      · exact .refl s
      · exact (Did.refl s).setTitle
  · exact .refl s

theorem stages_dropTitle (params : List Byte) (s : State) : Stages H A C s (dropTitle params s).state := by
  refine stages_own ?_ (path_dropTitle params s)
  unfold dropTitle
  split
  · exact .refl s
  · split
    · exact .refl s
    · split
      · exact .refl s
      · split
        · exact .refl s
        · exact (Did.refl s).setTitle

theorem stages_setTitleProfile (params : List Byte) (s : State) : Stages H A C s (setTitleProfile params s).state := by
  refine stages_own ?_ (path_setTitleProfile params s)
  unfold setTitleProfile
  split
  · split
    · exact .refl s
    · split
      · exact .refl s
      · exact (Did.refl s).setTitle
  · exact .refl s

theorem stages_createChapter (p : Port) (params : List Byte) (s : State) :
    Stages H A C s (createChapter p params s).state := by
  refine stages_own ?_ (path_createChapter p params s)
  unfold createChapter
  split
  · exact .refl s
  · split
    · exact .refl s
    · split
      · exact .refl s
      · split
        · exact .refl s
        · split
          · exact .refl s
          · rename_i c hc
            exact ((Did.refl s).newChapter (getElem_firstFree hc) rfl).reorder.chapterNotice

theorem stages_moveChapter (params : List Byte) (s : State) : Stages H A C s (moveChapter params s).state := by
  refine stages_own ?_ (path_moveChapter params s)
  unfold moveChapter
  split
  · exact .refl s
  · split
    · exact .refl s
    · split
      · exact .refl s
      · exact (Did.refl s).reorder

theorem stages_pointScript (p : Port) (params : List Byte) (s : State) :
    Stages H A C s (pointScript p params s).state := by
  refine stages_own ?_ (path_pointScript p params s)
  unfold pointScript
  split
  · exact .refl s
  · split
    · exact .refl s
    · split
      · exact .refl s
      · exact (Did.refl s).touchChapter fun _ => ⟨rfl, rfl, rfl, rfl⟩

theorem stages_writeScript (p : Port) (params : List Byte) (s : State) :
    Stages H A C s (writeScript p params s).state := by
  refine stages_own ?_ (path_writeScript p params s)
  unfold writeScript
  split
  · split
    · exact .refl s
    · split
      · exact .refl s
      · split
        · exact .refl s
        · exact (Did.refl s).touchChapter fun _ => ⟨rfl, rfl, rfl, rfl⟩
  · exact .refl s

theorem stages_readScript (p : Port) (params : List Byte) (s : State) :
    Stages H A C s (readScript p params s).state := by
  refine stages_own ?_ (path_readScript p params s)
  unfold readScript
  split
  · exact .refl s
  · split
    · exact .refl s
    · split
      · exact .refl s
      · split
        · exact (Did.refl s).touchChapter fun _ => ⟨rfl, rfl, rfl, rfl⟩
        · exact .refl s

/-! ### A chapter opened and discarded (R15, R16, R19) -/

theorem path_reopened {p : Port} {c : ChapterId} {r : Chapter} (hH : H → (view s).HeldLaw)
    (hc : s.chapters[c] = some r) (hs : r.state ≠ .assembling) (hp : r.state ≠ .published) :
    Path H (view s) (view (reopened p c s)) := by
  have off : (view (offRenderPath c s)).chapter c = some r := by
    rw [chapter_offRenderPath]
    exact hc
  have record : (view (letGo c s)).chapter c = some (withoutOutput r) := by simp [letGo_eq, off]
  have reopening := Change.reopen c r p off hs hp fun h => notHeld_offRenderPath (hH h) c
  refine (path_offRenderPath c s).trans (reopening.path.trans (path_of_eq ?_))
  rw [reopened, view_enterState, view_modChapter, view_releaseReferences _ record, letGo_eq, view_releaseOutput, off]
  refine View.ext rfl rfl rfl ?_ rfl rfl
  simp [withoutOutput]

theorem no_output_letGo {c : ChapterId} {r : Chapter} (h : (releaseReferences c (letGo c s)).chapters[c] = some r) :
    ownedOutput r = none := by
  rw [releaseReferences_chapters, letGo_eq] at h
  exact no_output_releaseOutput h

theorem did_reopened (p : Port) (c : ChapterId) (s : State) : Did A (· = c) s (reopened p c s) := by
  have let_go := ((Did.refl (A := A) (C := (· = c)) s).letGo (c := c) rfl).releaseReferences (c := c)
  refine (let_go.modChapter rfl fun r hr => ?_).enterState rfl
  exact (no_output_letGo hr).symm

theorem stages_openChapter (p : Port) (params : List Byte) (hH : H → (view s).HeldLaw) :
    Stages H A C s (openChapter p params s).state := by
  unfold openChapter
  split
  · exact .refl s
  · split
    · exact .refl s
    · split
      · exact .refl s
      · rename_i c _ _ _ r hc
        split
        · rename_i hs
          split
          · refine stages_own ((Did.refl s).touchChapter (f := fun r => { r with editor := some p })
              fun _ => ⟨rfl, rfl, rfl, rfl⟩) ?_
            rw [accept, view_modChapter]
            exact path_revise hc (.claim p hs)
          · exact .refl s
        · exact .refl s
        · rename_i hs hp
          rw [reopen_eq]
          exact (stages_chapter (not_published_of_state hc hp) (did_reopened p c s)
            (path_reopened hH hc hs hp)).lanesTake.settle

theorem path_discarded {c : ChapterId} (hH : H → (view s).HeldLaw) : Path H (view s) (view (discarded c s)) := by
  rw [discarded, view_chapterNotice, letGo_eq]
  exact (path_offRenderPath c s).trans (path_freed fun h => notHeld_offRenderPath (hH h) c)

theorem did_discarded (c : ChapterId) (s : State) : Did A (· = c) s (discarded c s) := by
  have let_go := ((Did.refl (A := A) (C := (· = c)) s).letGo (c := c) rfl).releaseReferences (c := c)
  exact (let_go.freeChapter rfl fun r hr => no_output_letGo hr).chapterNotice

theorem stages_discardChapter (p : Port) (params : List Byte) (hH : H → (view s).HeldLaw) :
    Stages H A C s (discardChapter p params s).state := by
  unfold discardChapter
  split
  · exact .refl s
  · split
    · exact .refl s
    · split
      · exact .refl s
      · rename_i c _ _ _ r hc
        split
        · exact .refl s
        · rename_i hp
          split
          · exact .refl s
          · rw [accept, discardRecord_eq]
            exact (stages_chapter (not_published_of_state hc hp) (did_discarded c s)
              (path_discarded hH)).lanesTake.settle

/-! ### A chapter closed (R17, R18) -/

/-- A chapter closed with its length and its references taken, before its new state (R18). -/
def closed (c : ChapterId) (r : Chapter) (total : Nat) (s : State) : State :=
  takeReferences (namedTakes r.slots) (modChapter c (fun r => { r with assembled := some total, editor := none }) s)

theorem closeValid_eq (p : Port) (c : ChapterId) (r : Chapter) (total : Nat) (s : State) : closeValid p c r total s =
    if autoTitle s r.title then
      if s.queue.length < Config.queuePlaces then
        settle (lanesTake (enterState c .queued .autoQueued (appendEntry ⟨c, p, .auto⟩ (closed c r total s))))
      else settle (enterState c .ready .autoSkipped (closed c r total s))
    else settle (enterState c .ready .closed (closed c r total s)) := rfl

theorem view_closed {c : ChapterId} {r : Chapter} {n : Nat} (hc : s.chapters[c] = some r) : view (closed c r n s) =
    ((view s).setChapter c (some { r with assembled := some n, editor := none })).addRefs (namedTakes r.slots) := by
  have hc : (view s).chapter c = some r := hc
  rw [closed, view_takeReferences _ (nodup_namedTakes _), view_modChapter, hc, Option.map_some]

theorem path_closedReady {c : ChapterId} {r : Chapter} {n : Nat} (cause : Cause) (hc : s.chapters[c] = some r)
    (hs : r.state = .assembling) (hn : validate s r.title r.slots = .ok n) :
    Path H (view s) (view (enterState c .ready cause (closed c r n s))) := by
  refine (path_closeRecord hc hs hn).trans (path_of_eq ?_)
  rw [view_enterState, view_closed hc]
  refine View.ext rfl rfl rfl ?_ rfl rfl
  simp

theorem path_closedQueued {p : Port} {c : ChapterId} {r : Chapter} {n : Nat} (hc : s.chapters[c] = some r)
    (hs : r.state = .assembling) (hn : validate s r.title r.slots = .ok n) :
    Path H (view s) (view (enterState c .queued .autoQueued (appendEntry ⟨c, p, .auto⟩ (closed c r n s)))) := by
  have joined := Change.enqueue (H := H) (v := ((view s).setChapter c (some { r with
    assembled := some n, editor := none, state := .ready })).addRefs (namedTakes r.slots)) c
      { r with assembled := some n, editor := none, state := .ready } _ (by simp) (.auto rfl)
  have queue : (closed c r n s).queue.map (·.chapter) = (view s).queue := congrArg View.queue (view_closed hc)
  refine ((path_closeRecord hc hs hn).trans joined.path).trans (path_of_eq ?_)
  rw [view_enterState, appendEntry, view_setQueue, view_closed hc, List.map_append, queue]
  refine View.ext rfl rfl rfl ?_ rfl rfl
  simp

theorem did_closed (c : ChapterId) (r : Chapter) (n : Nat) (s : State) : Did A (· = c) s (closed c r n s) :=
  ((Did.refl (A := A) (C := (· = c)) s).modChapter (c := c)
    (f := fun r => { r with assembled := some n, editor := none }) rfl fun _ _ => rfl).takeReferences

theorem stages_closeValid {p : Port} {c : ChapterId} {r : Chapter} {n : Nat} (hc : s.chapters[c] = some r)
    (hs : r.state = .assembling) (hn : validate s r.title r.slots = .ok n) :
    Stages H A C s (closeValid p c r n s) := by
  have free : C c ∨ (H → ∀ x, s.chapters[c] = some x → x.state ≠ .published) :=
    not_published_of_state hc (by simp [hs])
  have did := did_closed (A := A) c r n s
  rw [closeValid_eq]
  split
  · split
    · exact (stages_chapter free (did.appendEntry.enterState rfl) (path_closedQueued hc hs hn)).lanesTake.settle
    · exact (stages_chapter free (did.enterState rfl) (path_closedReady .autoSkipped hc hs hn)).settle
  · exact (stages_chapter free (did.enterState rfl) (path_closedReady .closed hc hs hn)).settle

theorem stages_closeChapter (p : Port) (params : List Byte) (s : State) :
    Stages H A C s (closeChapter p params s).state := by
  unfold closeChapter
  split
  · exact .refl s
  · split
    · exact .refl s
    · split
      · exact .refl s
      · rename_i hc
        split
        · exact .refl s
        · rename_i hs
          split
          · exact .refl s
          · split
            · exact .refl s
            · rename_i hn
              exact stages_closeValid hc (not_not.mp hs) hn

/-! ### The capture unit -/

section

variable (hA : A)
include hA

theorem Did.openTake {p : Port} {title : TitleNo} {k : TakeId} {g : Gate} {a b inc : Word32} (h : Did A C s t)
    (hk : t.takes[k] = none) : Did A C s (openTake p title k g a b inc t) :=
  ((h.modTitle.newTake hk rfl).openSlot hA).modLevel hA

theorem stages_startTake (p : Port) (params : List Byte) (s : State) : Stages H A C s (startTake p params s).state := by
  refine stages_own ?_ (path_startTake p params s)
  unfold startTake
  split
  · exact .refl s
  · split
    · exact .refl s
    · split
      · exact .refl s
      · split
        · exact .refl s
        · split
          · exact .refl s
          · rename_i k hk
            exact (Did.refl s).openTake hA (getElem_firstFree hk)

theorem Did.setGate {p : Port} {g : Gate} (h : Did A C s t) : Did A C s (setGate p g t) := by
  have set := (h.modStream (p := p) (f := fun st => { st with gate := g }) hA).modLevel (p := p)
    (f := fun e => { e with gate := g }) hA
  unfold Machine.setGate
  split
  · exact h
  · dsimp only
    split
    · exact set
    · exact set.modTake fun r => by
        unfold gateMark appendMark
        split <;> rfl

theorem Did.setPunch {p : Port} {a b inc : Word32} {write : Nat} (h : Did A C s t) :
    Did A C s (setPunch p a b inc write t) := by
  have replaced := h.modStream (p := p) (f := fun st => { st with a := a, b := b, inc := inc }) hA
  unfold Machine.setPunch
  dsimp only
  split
  · exact replaced
  · exact replaced.setGate hA

theorem stages_setGateValues (p : Port) (params : List Byte) (s : State) :
    Stages H A C s (setGateValues p params s).state := by
  refine stages_own ?_ (path_setGateValues p params s)
  unfold setGateValues
  dsimp only
  split
  · exact .refl s
  · split
    · exact .refl s
    · exact (Did.refl s).setPunch hA

theorem Did.endRun {p : Port} {detail : Nat} (h : Did A C s t) : Did A C s (endRun p detail t) := by
  unfold Machine.endRun
  split
  · exact h
  · split
    · exact h
    · refine Did.notify ((h.modStream hA).modTake fun r => ?_)
      unfold appendMark
      split <;> rfl

/-- A drained take has no page in the store, so its slot may go (R38). -/
theorem Did.takeClosedDue {p : Port} (h : Did A C s t) : Did A C s (takeClosedDue p t) := by
  unfold Machine.takeClosedDue
  split
  · exact h
  · rename_i st hst
    split
    · rename_i hd
      have clear : inStore (.stream p) t.store = false := by
        unfold drained at hd
        simp only [hst, Bool.and_eq_true, Bool.not_eq_true'] at hd
        exact hd.2
      refine Did.notify (Did.modLevel ?_ hA)
      exact (h.modTake (f := fun t => { t with state := .closed, port := none }) fun _ => rfl).closeSlot hA clear
    · exact h

theorem Did.stopStream {p : Port} {reason : StopReason} (h : Did A C s t) : Did A C s (stopStream p reason t) := by
  unfold Machine.stopStream
  split
  · exact h
  · rename_i st hst
    have shut := (h.modStream (p := p) (f := fun st => { st with gate := .shut }) hA).modLevel (p := p)
      (f := fun e => { e with gate := .shut }) hA
    have ended := shut.endRun (p := p) (detail := 1) hA
    have closing := ended.modTake (k := st.take) (f := fun t => { t with state := .closing, stopReason := some reason })
      fun _ => rfl
    exact (closing.modStream hA).takeClosedDue hA

theorem stages_stopTake (p : Port) (params : List Byte) (s : State) : Stages H A C s (stopTake p params s).state := by
  unfold stopTake
  split
  · exact .refl s
  · split
    · exact .refl s
    · rename_i hst
      exact (stages_own ((Did.refl s).stopStream hA) (path_stop .requested (view_stream_of_capturing hst))).settle

end

theorem stages_retireTake (params : List Byte) (s : State) : Stages H A C s (retireTake params s).state := by
  unfold retireTake
  split
  · exact .refl s
  · split
    · exact .refl s
    · split
      · exact .refl s
      · rename_i k _ _ _ r hk
        split
        · exact .refl s
        · rename_i hs
          split
          · exact .refl s
          · rename_i hr
            refine (stages_own (Did.refl s).freeTake ?_).settle
            rw [view_freeTake]
            have fact : (view s).take k = some r.facts := Option.map_eq_some_iff.mpr ⟨r, hk, rfl⟩
            exact (Change.retire k r.facts fact (not_not.mp hs) (Nat.eq_zero_of_not_pos hr)).path

/-! ### The render unit -/

theorem did_queueChapter (p : Port) (c : ChapterId) (kind : OriginKind) (s : State) :
    Did A (· = c) s (queueChapter c p kind s) := by
  have let_go := (Did.refl (A := A) (C := (· = c)) s).releaseOutput (c := c) rfl
  refine ((let_go.modChapter rfl fun r hr => ?_).appendEntry).enterState rfl
  exact (no_output_releaseOutput hr).symm

theorem stages_renderChapter (p : Port) (params : List Byte) (s : State) :
    Stages H A C s (renderChapter p params s).state := by
  unfold renderChapter
  split
  · exact .refl s
  · split
    · exact .refl s
    · split
      · exact .refl s
      · rename_i c _ _ _ r hc
        split
        · exact .refl s
        · exact .refl s
        · exact .refl s
        · split
          · exact .refl s
          · rename_i l hl
            exact (Stage.restart p c l r hc hl).all.lanesTake.settle
        · rename_i h1 h2 h3 h4
          split
          · exact .refl s
          · have free : r.state = .ready ∨ r.state = .rendered ∨ r.state = .rejected := by
              cases hs : r.state <;> simp_all
            exact (stages_chapter (not_published_of_state hc h1) (did_queueChapter p c .render s)
              (path_queueChapter hc fun _ => free)).lanesTake.settle

/-- The chapters of a set queued in order (R91). -/
theorem stages_queueSet {p : Port} {cs : List ChapterId} (hn : cs.Nodup) (hex : ∀ c ∈ cs, (view s).chapter c ≠ none)
    (hs : H → ∀ c ∈ cs, (view s).NotHeld c ∧ ∃ r, (view s).chapter c = some r ∧
      (r.state = .ready ∨ r.state = .rendered ∨ r.state = .rejected)) : Stages H A C s (queueSet p s cs) := by
  induction cs generalizing s with
  | nil => exact .refl s
  | cons c rest ih =>
    obtain ⟨hc, hrest⟩ := List.nodup_cons.mp hn
    obtain ⟨r, hr⟩ := Option.ne_none_iff_exists'.mp (hex c (List.mem_cons_self ..))
    have ready (h : H) : r.state = .ready ∨ r.state = .rendered ∨ r.state = .rejected := by
      obtain ⟨-, x, hx, hxs⟩ := hs h c (List.mem_cons_self ..)
      rw [hr] at hx
      cases hx
      exact hxs
    have free : C c ∨ (H → ∀ x, s.chapters[c] = some x → x.state ≠ .published) := .inr fun h x hx => by
      have hx : (view s).chapter c = some x := hx
      rw [hr] at hx
      cases hx
      rcases ready h with e | e | e <;> simp [e]
    have first : Stages H A C s (queueChapter c p .set s) :=
      stages_chapter free (did_queueChapter p c .set s) (path_queueChapter hr ready)
    have queued (d : ChapterId) (hd : d ∈ rest) :
        (view (queueChapter c p .set s)).chapter d = (view s).chapter d ∧
          ((view s).NotHeld d → (view (queueChapter c p .set s)).NotHeld d) := by
      have other : d ≠ c := fun e => hc (e ▸ hd)
      rw [view_queueChapter]
      exact ⟨by simp [other], fun h => ⟨by simp [h.1, other], h.2⟩⟩
    refine first.lanesTake.trans (ih hrest (fun d hd => ?_) fun h d hd => ?_)
    · have kept := (work_lanesTake (within_true (queueChapter c p .set s))).records d
      have here : (queueChapter c p .set s).chapters[d.val] ≠ none := by
        have := hex d (List.mem_cons_of_mem _ hd)
        rw [← (queued d hd).1] at this
        exact this
      intro hnone
      have hnone : (lanesTake (queueChapter c p .set s)).chapters[d.val] = none := hnone
      rw [hnone, Option.map_none] at kept
      exact here (Option.map_eq_none_iff.mp kept.symm)
    · obtain ⟨hheld, hstate⟩ := hs h d (List.mem_cons_of_mem _ hd)
      obtain ⟨same, still⟩ := lanesTake_notHeld ((queued d hd).2 hheld)
      rw [same, (queued d hd).1]
      exact ⟨still, hstate⟩

theorem stages_renderSet (p : Port) (params : List Byte) (hH : H → (view s).HeldLaw) :
    Stages H A C s (renderSet p params s).state := by
  unfold renderSet
  split
  · exact .refl s
  · split
    · exact .refl s
    · split
      · exact .refl s
      · rename_i hf
        obtain ⟨hn, -, hr⟩ := setFault_none hf
        split
        · exact .refl s
        · refine (stages_queueSet hn (fun c hc => ?_) fun h c hc => ?_).settle
          · obtain ⟨r, hr, -⟩ := hr c hc
            simp [hr]
          · obtain ⟨r, hr, hs⟩ := hr c hc
            exact ⟨(hH h).notHeld hr (by rcases hs with h | h | h <;> simp [h])
              (by rcases hs with h | h | h <;> simp [h]),
              r, hr, hs⟩

theorem path_offReady {c : ChapterId} {r : Chapter} (hH : H → (view s).HeldLaw) (hc : (view s).chapter c = some r)
    (hs : r.state = .queued ∨ r.state = .rendering) : Path H (view s) (view (offReady c s)) := by
  have off : (view (offRenderPath c s)).chapter c = some r := by rw [chapter_offRenderPath]; exact hc
  refine (path_offRenderPath c s).trans ?_
  rw [offReady, view_enterState]
  exact path_revise off (.cancel hs fun h => notHeld_offRenderPath (hH h) c)

theorem stages_cancelRender (params : List Byte) (hH : H → (view s).HeldLaw) :
    Stages H A C s (cancelRender params s).state := by
  unfold cancelRender
  split
  · exact .refl s
  · split
    · exact .refl s
    · split
      · exact .refl s
      · rename_i c _ _ _ r hc
        split
        · rename_i hs
          have free : r.state ≠ .published := by rcases hs with h | h <;> simp [h]
          have did : Did A (· = c) s (offReady c s) := (Did.refl s).offRenderPath.enterState rfl
          rw [accept, cancelled_eq]
          exact (stages_chapter (not_published_of_state hc free) did (path_offReady hH hc hs)).lanesTake.settle
        · exact .refl s

theorem stages_publish (params : List Byte) (s : State) : Stages H A C s (publish params s).state := by
  unfold publish
  split
  · exact .refl s
  · split
    · exact .refl s
    · split
      · exact .refl s
      · rename_i c _ _ _ r hc
        split
        · rename_i hs
          refine stages_chapter (not_published_of_state hc (by simp [hs])) ((Did.refl s).enterState rfl) ?_
          rw [accept, view_enterState]
          exact path_revise hc (.publish hs)
        · exact .refl s

theorem path_collectedRecord {c : ChapterId} {r : Chapter} (hc : (view s).chapter c = some r)
    (hs : r.state = .published) :
    Path H (view s) (view (collectedRecord c r s)) := by
  have record : (view (releaseOutput c s)).chapter c = some (withoutOutput r) := by simp [hc]
  unfold collectedRecord
  split
  · rename_i hk
    rw [view_chapterNotice, view_freeChapter _ record, reorder_setChapter_none, view_releaseOutput, hc]
    refine (Change.dismiss c r hc hs hk).path.trans (path_of_eq ?_)
    congr 1
    exact View.ext rfl rfl rfl (by simp) rfl rfl
  · rename_i hk
    refine (Change.revise c r _ hc (.collect hs (by simpa using hk))).path.trans (path_of_eq ?_)
    rw [view_enterState, view_modChapter, view_releaseOutput, hc]
    refine View.ext rfl rfl rfl ?_ rfl rfl
    simp [withoutOutput]

theorem did_collectedRecord (c : ChapterId) (r : Chapter) (s : State) : Did A (· = c) s (collectedRecord c r s) := by
  have let_go := (Did.refl (A := A) (C := (· = c)) s).releaseOutput (c := c) rfl
  unfold collectedRecord
  split
  · exact (let_go.freeChapter rfl fun x hx => no_output_releaseOutput hx).chapterNotice
  · exact (let_go.modChapter (f := fun r => { r with result := none }) rfl
      fun x hx => (no_output_releaseOutput hx).symm).enterState rfl

/-- The chapter collected is the one the parameters name (R95). -/
theorem stages_collect (params : List Byte) (hC : ∀ c, chapterAt params 0 = some c → C c) (s : State) :
    Stages H A C s (collect params s).state := by
  unfold collect
  split
  · exact .refl s
  · rename_i c hparam
    split
    · exact .refl s
    · split
      · exact .refl s
      · rename_i r hc
        split
        · rename_i hs
          dsimp only [accept]
          rw [collected_eq]
          exact (stages_chapter (.inl (hC c hparam)) (did_collectedRecord c r s) (path_collectedRecord hc hs)).settle
        · exact .refl s

/-! ### The ports' own requests -/

theorem stages_openReply (p : Port) (src : StreamSource) (length offset : Nat) (title : TitleNo) (s : State) :
    Stages H A C s (openReply p src length offset title s).state :=
  (stages_own (Did.refl s).dropStream (path_of_eq rfl)).settle

theorem stages_openOutput (p : Port) (c : ChapterId) (offset : Nat) (s : State) :
    Stages H A C s (openOutput p c offset s).state := by
  unfold openOutput
  split
  · exact .refl s
  · split
    · exact .refl s
    · exact stages_openReply ..

theorem stages_openTakeStream (p : Port) (k : TakeId) (offset : Nat) (s : State) :
    Stages H A C s (openTakeStream p k offset s).state := by
  unfold openTakeStream
  split
  · exact .refl s
  · split
    · exact stages_openReply ..
    · exact .refl s

theorem stages_streamOpen (p : Port) (params : List Byte) (s : State) :
    Stages H A C s (streamOpen p params s).state := by
  unfold streamOpen
  split
  · exact .refl s
  · split
    · split
      · exact .refl s
      · exact stages_openOutput ..
    · split
      · exact .refl s
      · exact stages_openTakeStream ..
    · exact .refl s

theorem stages_streamClose (p : Port) (params : List Byte) (s : State) :
    Stages H A C s (streamClose p params s).state := by
  refine stages_own ?_ (path_streamClose p params s)
  unfold streamClose
  split
  · exact .refl s
  · exact (Did.refl s).dropStream

theorem stages_subscribe (hA : A) (p : Port) (params : List Byte) (s : State) :
    Stages H A C s (subscribe p params s).state := by
  refine stages_own ?_ (path_subscribe p params s)
  unfold subscribe
  dsimp only
  split
  · exact .refl s
  · exact (Did.refl s).setting (p := p) (f := fun ps => { ps with subs := BitVec.ofNat 3 (paramAt params 0) }) hA

/-! ### The profile table -/

/-- A stored profile is within its ranges, its pairs of limits in order (R149, R151, R152). -/
theorem profileInRange_storedProfile (params : List Byte) : ProfileInRange (storedProfile params) := by
  unfold ProfileInRange storedProfile orderedProfile clampedProfile clampNat clampInt
  dsimp only
  refine ⟨?_, ?_, ?_, ?_, ?_, ?_, ?_, ?_, ?_, ?_, ?_, ?_, ?_, ?_, ?_, ?_, ?_, ?_, ?_, ?_, ?_, ?_, ?_, ?_, ?_, ?_⟩
    <;> omega

theorem stages_writeProfile (params : List Byte) (s : State) : Stages H A C s (writeProfile params s).state := by
  refine stages_own ?_ (path_writeProfile params s)
  unfold writeProfile
  split
  · exact .refl s
  · split
    · exact .refl s
    · exact (Did.refl s).deed (.profile _ _ (profileInRange_storedProfile params))

/-! ### The purge (R84, R85, R44) -/

/-- The chapter was not PUBLISHED in the state. -/
def Unpublished (s : State) (c : ChapterId) : Prop := ∀ r, s.chapters[c] = some r → r.state ≠ .published

/-- What is not PUBLISHED now was not PUBLISHED before updates that leave PUBLISHED chapters locked. -/
theorem Did.unpublished {c : ChapterId} {r : Chapter} (h : Did A (Unpublished s) s t) (hr : t.chapters[c] = some r)
    (hs : r.state ≠ .published) : Unpublished s c := by
  by_contra hc
  have hpub := hc
  unfold Unpublished at hpub
  push Not at hpub
  obtain ⟨x, hx, hxs⟩ := hpub
  obtain ⟨y, hy, hstate, -⟩ := h.locked hc hx
  rw [hr] at hy
  cases hy
  exact hs (hstate.trans hxs)

theorem Did.purgeChapter {c : ChapterId} (h : Did A (Unpublished s) s t) :
    Did A (Unpublished s) s (purgeChapter t c) := by
  unfold Machine.purgeChapter
  split
  · exact h
  · rename_i r hr
    split
    · exact h.clearScript
    · rename_i hs
      have free := h.unpublished hr hs
      refine ((h.abortJobOf.releaseOutput free).releaseReferences).freeChapter free fun x hx => ?_
      rw [releaseReferences_chapters] at hx
      exact no_output_releaseOutput hx

/-- An abandoned source has no page left in the store. -/
theorem inStore_abandonSource (src : Source) (st : Store) : inStore src (abandonSource src st) = false := by
  refine inStore_eq_false.mpr fun i => ?_
  rw [abandonSource_buffers_eq, pageSource_abandonPage]
  split
  · exact (Option.some_ne_none src).symm
  · assumption

theorem Did.purgeStream {p : Port} (hA : A) (h : Did A C s t) : Did A C s (purgeStream t p) := by
  unfold Machine.purgeStream
  split
  · exact h
  · exact ((h.deed (.abandon p)).closeSlot hA (inStore_abandonSource ..)).modLevel hA

theorem did_purgeRecords (hA : A) (s : State) : Did A (Unpublished s) s (purgeRecords s) := by
  have chapters (cs : List ChapterId) {u : State} (h : Did A (Unpublished s) s u) :
      Did A (Unpublished s) s (cs.foldl purgeChapter u) :=
    List.foldlRecOn cs purgeChapter h fun _ hu _ _ => hu.purgeChapter
  unfold purgeRecords
  dsimp only
  have purged := (chapters (List.finRange 64) ((Did.refl s).setQueue (q := []))).foldl (as := allLanes)
    fun u l => (Did.refl u).clearLane (l := l)
  have stopped := purged.foldl (as := allPorts) fun u p => (Did.refl u).purgeStream (p := p) hA
  have freed := stopped.foldl (as := List.finRange 128) fun u k => (Did.refl u).freeTake (k := k)
  exact freed.foldl fun u k => (Did.refl u).setTitle

theorem Did.purgeNotices {was : State} (h : Did A C s t) : Did A C s (purgeNotices was t) := by
  refine (h.foldl fun u p => ?_).foldl fun u c => (Did.refl u).chapterNotice
  unfold purgedTake
  split
  · exact .refl u
  · exact (Did.refl u).notify

theorem stages_purge (hA : A) (params : List Byte) (hH : H → (view s).HeldLaw) :
    Stages H A C s (purge params s).state := by
  unfold purge
  split
  · exact .refl s
  · refine (Stage.own _ (Unpublished s) (fun c hc => .inr fun _ => hc)
      (did_purgeRecords hA s).purgeNotices ?_).all.settle
    rw [view_purgeNotices]
    exact path_purgeRecords hH

end Sys2Proof.Machine

/-! Every command but DEVICE_RESET as a chain of stages. -/

namespace Sys2Proof.Machine

open View

variable {H A : Prop} {C : ChapterId → Prop} {s t : State}

/-! ### Requests that report -/

theorem stages_same (h : t = s) : Stages H A C s t := by
  rw [h]
  exact .refl s

theorem reportTitle_state (params : List Byte) (s : State) : (reportTitle params s).state = s := by
  unfold reportTitle
  split
  · rfl
  · split
    · rfl
    · split <;> rfl

theorem reportChapter_state (params : List Byte) (s : State) : (reportChapter params s).state = s := by
  unfold reportChapter
  split
  · rfl
  · split
    · rfl
    · split <;> rfl

theorem reportTake_state (params : List Byte) (s : State) : (reportTake params s).state = s := by
  unfold reportTake
  split
  · rfl
  · dsimp only
    split
    · rfl
    · split
      · rfl
      · split <;> rfl

theorem reportLevels_state (params : List Byte) (s : State) : (reportLevels params s).state = s := by
  unfold reportLevels
  split <;> rfl

theorem reportStore_state (params : List Byte) (s : State) : (reportStore params s).state = s := by
  unfold reportStore
  split <;> rfl

theorem reportQueue_state (params : List Byte) (s : State) : (reportQueue params s).state = s := by
  unfold reportQueue
  split <;> rfl

theorem readProfile_state (params : List Byte) (s : State) : (readProfile params s).state = s := by
  unfold readProfile
  split
  · rfl
  · split <;> rfl

theorem deviceInfo_state (p : Port) (params : List Byte) (s : State) : (deviceInfo p params s).state = s := by
  unfold deviceInfo
  split <;> rfl

/-! ### After an event -/

theorem Stages.attend {b : State} (h : Stages H A C s t) : Stages H A C s (attend b t) :=
  h.trans (stages_own (Did.refl t).attend (path_of_eq (view_attend t b)))

theorem Stages.commit {b : State} (h : Stages H A C s t) : Stages H A C s (commit b t) := h.settle.attend

/-- Updates of ports alone. -/
theorem stages_ports (did : Did A (fun _ => False) s t) (hv : view t = view s) : Stages H A C s t :=
  stages_own did (path_of_eq hv)

/-! ### Transactions -/

section

variable (hA : A)
include hA

theorem Did.fillSlot {p : Port} {r : Response} (h : Did A C s t) : Did A C s (fillSlot p r t) := h.setting hA

theorem Did.receive {p : Port} {bytes : List Byte} (h : Did A C s t) : Did A C s (receive p bytes t) := by
  unfold Machine.receive
  split
  · dsimp only
    split
    · exact h.notify
    · split
      · exact h.fillSlot hA
      · split
        · exact h.fillSlot hA
        · exact h.setting hA
  · exact h.notify

theorem Did.endTransaction {p : Port} (h : Did A C s t) : Did A C s (endTransaction p t) := by
  unfold Machine.endTransaction
  split
  · exact (h.receive hA).setTransfer
  · exact h.notify.setTransfer
  · exact h.setTransfer

theorem Did.ended {p : Port} (h : Did A C s t) : Did A C s (ended p t) := (h.endTransaction hA).attend

theorem Did.setSent {p : Port} {bytes : List Byte} (h : Did A C s t) : Did A C s (setSent p bytes t) := h.setting hA

theorem Did.opened {p : Port} {kept : State → Transfer} (h : Did A C s t) : Did A C s (opened p kept t) :=
  ((h.ended hA).setSent hA).setTransfer

theorem Did.endRequest {p : Port} {bytes : List Byte} (h : Did A C s t) : Did A C s (endRequest p bytes t) :=
  ((h.setSent hA).receive hA).setTransfer

theorem Did.wholeRequest {p : Port} {bytes : List Byte} (h : Did A C s t) : Did A C s (wholeRequest p bytes t) :=
  ((h.opened hA).endRequest hA).attend

theorem stages_wholeRequest (p : Port) (bytes : List Byte) (s : State) : Stages H A C s (wholeRequest p bytes s) :=
  stages_ports ((Did.refl s).wholeRequest hA) (view_wholeRequest p bytes s)

theorem stages_ended (p : Port) (s : State) : Stages H A C s (ended p s) :=
  stages_ports ((Did.refl s).ended hA) (view_ended p s)

theorem stages_opened (p : Port) (kept : State → Transfer) (s : State) : Stages H A C s (opened p kept s) :=
  stages_ports ((Did.refl s).opened hA) (view_opened p kept s)

/-- The answer of a request is the port's own business. -/
theorem Stages.answer {p : Port} {k : ReqKind} {discard : Bool} {r : Reply} (h : Stages H A C s r.state) :
    Stages H A C s (answer p k discard r) := by
  refine h.trans (stages_ports ?_ (view_answer p k discard r))
  unfold Machine.answer
  split
  · exact (Did.refl r.state).setting hA
  · exact (Did.refl r.state).fillSlot hA

end

/-- A command's answer, where it is a next state, is reached through stages. -/
def AnswerStages (H A : Prop) (C : ChapterId → Prop) (s : State) (a : Answer) : Prop :=
  ∀ t, a = .next t → Stages H A C s t

theorem answerStages_next (h : Stages H A C s t) : AnswerStages H A C s (.next t) := by
  rintro _ ⟨⟩
  exact h

theorem answerStages_same (s : State) : AnswerStages H A C s (.next s) := answerStages_next (.refl s)

theorem answerStages_commit {b : State} (h : Stages H A C s t) : AnswerStages H A C s (.next (commit b t)) :=
  answerStages_next h.commit

section

variable (hA : A)
include hA

/-- A request row is the work of its block, on this state or after a transaction (R185). -/
theorem answerStages_request {p : Port} {k : ReqKind} {params : List Byte} {act : State → Reply}
    (h : ∀ u, view u = view s → Stages H A C u (act u).state) : AnswerStages H A C s (request p k params act s) := by
  have whole : Stages H A C s (wholeRequest p (requestBytes k params) s) := stages_wholeRequest hA _ _ s
  unfold request
  split
  · split
    · exact answerStages_next ((h s rfl).answer hA).attend
    · exact answerStages_next whole
  · dsimp only
    split
    · exact answerStages_next (whole.trans ((h _ (view_wholeRequest ..)).answer hA)).attend
    · exact answerStages_next whole

theorem answerStages_transact {p : Port} {sent : State → List Byte} {act : State → State}
    (h : ∀ u, Stages H A C u (act u)) : AnswerStages H A C s (transact p sent act s) := by
  refine answerStages_next (Stages.attend ?_)
  exact (stages_ports (((Did.refl s).ended hA).setSent hA) (view_ended p s)).trans (h _)

omit hA in
theorem answerStages_later {α : Type} {p : Port} {kind : Byte} {kept : Transfer → Option α} {opening : State → State}
    {act : α → State → State} (ho : Stages H A C s (opening s)) (h : ∀ a u, Stages H A C u (act a u)) :
    AnswerStages H A C s (later p kind kept opening act s) := by
  unfold later
  split
  · exact answerStages_next (stages_ports (Did.refl s).setTransfer rfl)
  · split
    · exact answerStages_next (h _ s).attend
    · dsimp only
      split
      · exact answerStages_next (ho.trans (h _ _)).attend
      · exact answerStages_next ho

theorem answerStages_execRequest (p : Port) (m : Moment (List Byte)) (s : State) :
    AnswerStages H A C s (execRequest p m s) := by
  cases m with
  | opens => exact answerStages_next (stages_opened hA _ _ s)
  | acts bytes =>
    refine answerStages_later (stages_opened hA _ _ s) fun _ u => stages_ports ((Did.refl u).endRequest hA) ?_
    simp [endRequest]

theorem answerStages_execFetch (p : Port) (m : Moment Nat) (s : State) : AnswerStages H A C s (execFetch p m s) := by
  cases m with
  | opens => exact answerStages_next (stages_opened hA _ _ s)
  | acts n => exact answerStages_later (stages_opened hA _ _ s) fun _ u => stages_ports ((Did.refl u).setting hA) rfl

theorem answerStages_execCapture (p : Port) (m : Moment Byte) (s : State) :
    AnswerStages H A C s (execCapture p m s) := by
  cases m with
  | opens => exact answerStages_next (stages_opened hA _ _ s)
  | acts count =>
    exact answerStages_later (stages_opened hA _ _ s) fun _ u => stages_ports ((Did.refl u).setting hA).setTransfer rfl

theorem answerStages_attention (p : Port) (n : Nat) (effect : PortState → PortState) (s : State) :
    AnswerStages H A C s (attention p n effect s) :=
  answerStages_later (stages_opened hA _ _ s) fun _ u => stages_ports ((Did.refl u).setting hA) rfl

theorem answerStages_execAttentionRead (p : Port) (m : Moment Nat) (s : State) :
    AnswerStages H A C s (execAttentionRead p m s) := by
  cases m with
  | opens => exact answerStages_next (stages_opened hA _ _ s)
  | acts n => exact answerStages_attention hA p n _ s

theorem answerStages_execNotices (p : Port) (s : State) : AnswerStages H A C s (execNotices p s) := by
  unfold execNotices
  exact answerStages_transact hA fun u => stages_ports (Did.refl u).setTransfer rfl

theorem answerStages_execStreamData (p : Port) (s : State) : AnswerStages H A C s (execStreamData p s) := by
  unfold execStreamData
  exact answerStages_transact hA fun u => stages_ports (Did.refl u).setTransfer rfl

theorem answerStages_execNoticeRecordSent (p : Port) (s : State) : AnswerStages H A C s (execNoticeRecordSent p s) := by
  unfold execNoticeRecordSent
  split
  · exact answerStages_next (stages_ports ((Did.refl s).setting hA) rfl).attend
  · exact answerStages_same s

theorem answerStages_execDataByteDelivered (p : Port) (s : State) :
    AnswerStages H A C s (execDataByteDelivered p s) := by
  unfold execDataByteDelivered
  split
  · exact answerStages_commit (stages_ports ((Did.refl s).setting hA) rfl)
  · exact answerStages_same s

omit hA in
theorem answerStages_execStreamDataEnd (p : Port) (s : State) : AnswerStages H A C s (execStreamDataEnd p s) := by
  unfold execStreamDataEnd
  split
  · exact answerStages_next (stages_ports (Did.refl s).setTransfer rfl).attend
  · split
    · exact answerStages_next (stages_ports (Did.refl s).setTransfer rfl)
    · exact answerStages_same s

theorem answerStages_execIgnoredTransaction (p : Port) (tb : Byte) (n : Nat) (s : State) :
    AnswerStages H A C s (execIgnoredTransaction p tb n s) := by
  unfold execIgnoredTransaction
  exact answerStages_transact hA Stages.refl

theorem answerStages_execCaptureEnd (rise : CaptureRise) (s : State) :
    AnswerStages H A C s (execCaptureEnd rise s) := by
  unfold execCaptureEnd
  dsimp only
  split
  · exact answerStages_next (stages_ports ((Did.refl s).endTransaction hA) (view_endTransaction ..)).attend
  · refine answerStages_next (stages_ports (((Did.refl s).setting hA).endTransaction hA) ?_).attend
    rw [view_endTransaction, view_modPort]
  · split
    · exact answerStages_next (stages_ports (Did.refl s).setTransfer rfl)
    · exact answerStages_same s

/-! ### Capture streams -/

theorem Did.dropSample {p : Port} (h : Did A C s t) : Did A C s (dropSample p t) := by
  unfold Machine.dropSample
  split
  · exact h
  · exact (h.modStream hA).modTake fun _ => rfl

theorem Did.keepSample {p : Port} {x : Sample} (h : Did A C s t) : Did A C s (keepSample p x t) := by
  unfold Machine.keepSample
  dsimp only
  split
  · exact h.endRun hA
  · rename_i st _
    refine Did.modLevel (Did.modTake ((h.endRun hA).modStream hA) (k := st.take) (f := fun t =>
      { t with length := t.length + 1, peak := amplitudeCode (max st.largest x.natAbs) }) fun _ => rfl) hA

theorem Did.advancePosition {p : Port} (h : Did A C s t) : Did A C s (advancePosition p t) := by
  unfold Machine.advancePosition
  split
  · exact h
  · exact (h.modStream hA).modLevel hA

theorem Did.passSample {p : Port} {x : Sample} (h : Did A C s t) : Did A C s (passSample p x t) := by
  unfold Machine.passSample
  split
  · exact h
  · rename_i st _
    have gated := (h.modStream (p := p)
      (f := fun st' => { st' with a := (compared st).2.1, b := (compared st).2.2 }) hA).setGate hA (p := p)
        (g := (compared st).1)
    dsimp only
    refine Did.advancePosition hA ?_
    split
    · exact gated
    · split
      · exact gated.keepSample hA
      · exact gated.dropSample hA

theorem Did.liveBlockDue {p : Port} (h : Did A C s t) : Did A C s (liveBlockDue p t) := by
  unfold Machine.liveBlockDue
  split
  · exact h
  · split
    · exact h
    · dsimp only
      split
      · exact (h.modStream hA).modLevel hA
      · exact h

theorem Did.limitStop {p : Port} {reason : StopReason} (h : Did A C s t) : Did A C s (limitStop p reason t) := by
  unfold Machine.limitStop
  split
  · exact h
  · exact (h.stopStream hA).notify

theorem Did.takeFullDue {p : Port} (h : Did A C s t) : Did A C s (takeFullDue p t) := by
  unfold Machine.takeFullDue
  split
  · exact h
  · split
    · exact h.limitStop hA
    · exact h

theorem Did.positionLimitDue {p : Port} (h : Did A C s t) : Did A C s (positionLimitDue p t) := by
  unfold Machine.positionLimitDue
  split
  · exact h
  · split
    · exact h.limitStop hA
    · exact h

theorem Did.sampleArrives {p : Port} {x : Sample} (h : Did A C s t) : Did A C s (sampleArrives p x t) := by
  unfold Machine.sampleArrives
  split
  · exact h
  · split
    · exact h
    · exact (((h.passSample hA).liveBlockDue hA).takeFullDue hA).positionLimitDue hA

theorem answerStages_execCaptureSample (p : Port) (x : Byte × Byte × Byte) (s : State) :
    AnswerStages H A C s (execCaptureSample p x s) := by
  unfold execCaptureSample
  split
  · dsimp only
    split
    · refine answerStages_commit (stages_own ((((Did.refl s).setting hA).setting hA).sampleArrives hA) ?_)
      exact path_sampleArrives p (sampleOf x)
        (countSample p (capturingStream s p).isNone (modPort p (clockCapture _ 3) s))
    · exact answerStages_next (stages_ports ((Did.refl s).setting hA) rfl)
  · exact answerStages_same s

/-! ### PORT_RESET (R199) -/

theorem stages_portServes (p : Port) (k : ReqKind) (params : List Byte) (s : State) :
    Stages H A C s (portServes p k params s) := by
  unfold portServes
  split
  · exact stages_subscribe hA p params s
  · exact stages_same (deviceInfo_state p params s)
  · exact stages_streamOpen p params s
  · exact stages_streamClose p params s
  · exact .refl s

theorem stages_takeOwnRequest (p : Port) (s : State) : Stages H A C s (takeOwnRequest p s) := by
  unfold takeOwnRequest
  split
  · split
    · exact (stages_portServes hA p _ _ s).trans (stages_ports ((Did.refl _).setting hA) rfl)
    · exact .refl s
  · exact .refl s

theorem Did.resetCapture {p : Port} (h : Did A C s t) : Did A C s (resetCapture p t) := by
  unfold Machine.resetCapture
  split
  · split
    · exact h
    · exact h.stopStream hA
  · exact h

theorem stages_resetWork (p : Port) (s : State) : Stages H A C s (resetWork p s) := by
  have dropped : view (dropStream p .idle (modPort p resetPort (takeOwnRequest p s))) = view (takeOwnRequest p s) := rfl
  refine (stages_takeOwnRequest hA p s).trans (stages_own ?_ ?_)
  · exact (((Did.refl _).setting hA).dropStream.resetCapture hA).releaseClaims
  · exact (path_of_eq dropped).trans ((path_resetCapture p _).trans (path_releaseClaims p _))

theorem answerStages_execPortReset (p : Port) (extra : Nat) (s : State) :
    AnswerStages H A C s (execPortReset p extra s) := by
  unfold execPortReset
  split
  · exact answerStages_commit ((stages_ended hA p s).trans (stages_resetWork hA p _))
  · exact answerStages_transact hA Stages.refl

/-! ### The array -/

omit hA in
theorem blocks_arriveAtLane (bytes : List Byte) (j : Job) : (arriveAtLane bytes j).blocks = j.blocks := by
  unfold arriveAtLane
  split <;> rfl

omit hA in
theorem chapter_arriveAtLane (bytes : List Byte) (j : Job) : (arriveAtLane bytes j).chapter = j.chapter := by
  unfold arriveAtLane
  split <;> rfl

theorem Did.deliverPage {who : Reader} {bytes : List Byte} (h : Did A C s t) : Did A C s (deliverPage who bytes t) := by
  cases who with
  | lane l => exact h.modJob (blocks_arriveAtLane bytes)
  | port p => exact h.setting hA

omit hA in
theorem view_deliverPage (who : Reader) (bytes : List Byte) (s : State) : view (deliverPage who bytes s) = view s := by
  cases who with
  | lane l => exact view_modJob_same s l (chapter_arriveAtLane bytes)
  | port p => rfl

theorem answerStages_execPageReadComplete (s : State) : AnswerStages H A C s (execPageReadComplete s) := by
  unfold execPageReadComplete
  split
  · rename_i who gone slot ha
    have free := (Did.refl (A := A) (C := fun _ => False) s).deed (.read who gone slot ha)
    refine answerStages_commit ?_
    split
    · exact stages_ports free rfl
    · exact stages_ports (free.deliverPage hA) (view_deliverPage who _ (freeArray s))
  · exact answerStages_same s

theorem answerStages_execCapturePageProgrammed (s : State) : AnswerStages H A C s (execCapturePageProgrammed s) := by
  unfold execCapturePageProgrammed
  split
  · rename_i i ha
    split
    · rename_i p gone page slot bytes hb
      have programmed := (Did.refl (A := A) (C := fun _ => False) s).deed (.program i _ gone page slot bytes hA ha hb)
      refine answerStages_commit ?_
      split
      · exact stages_ports programmed rfl
      · exact stages_own (programmed.takeClosedDue hA) (path_takeClosedDue p (endProgram i slot bytes s))
    · exact answerStages_same s
  · exact answerStages_same s

/-- The header page's program ends its lane's job (R78, R102). -/
theorem stages_headerProgrammed {l : Lane} {i : Fin 2} {slot : Nat} {bytes : List Byte}
    (ha : s.store.array = .programming i) (hb : s.store.buffers[i] = .programming (.lane l) false 0 slot bytes) :
    Stages H A C s (jobEnd l (endProgram i slot bytes s)) := by
  have programmed : Stages H A C s (endProgram i slot bytes s) :=
    stages_ports ((Did.refl s).deed (.program i _ false 0 slot bytes hA ha hb)) rfl
  cases hl : s.lanes[l] with
  | none =>
    have idle : jobEnd l (endProgram i slot bytes s) = endProgram i slot bytes s := by
      have hl : (endProgram i slot bytes s).lanes[l] = none := hl
      unfold jobEnd
      rw [hl]
    rw [idle]
    exact programmed
  | some j =>
    have hj : (endProgram i slot bytes s).lanes[l] = some j := hl
    cases hf : j.finishing with
    | none =>
      have going : jobEnd l (endProgram i slot bytes s) = endProgram i slot bytes s := by
        unfold jobEnd
        rw [hj]
        simp only [hf]
      rw [going]
      exact programmed
    | some f =>
      rw [jobEnd_eq hj hf]
      exact (Stage.finish l j f i slot bytes hA ha hb hl).all.lanesTake

theorem answerStages_execOutputPageProgrammed (s : State) : AnswerStages H A C s (execOutputPageProgrammed s) := by
  unfold execOutputPageProgrammed
  split
  · rename_i i ha
    split
    · rename_i l gone page slot bytes hb
      refine answerStages_commit ?_
      split
      · rename_i hlast
        obtain ⟨hgone, hpage⟩ : gone = false ∧ page = 0 := by simpa using hlast
        subst hgone hpage
        exact stages_headerProgrammed hA ha hb
      · exact stages_ports ((Did.refl s).deed (.program i _ gone page slot bytes hA ha hb)) rfl
    · exact answerStages_same s
  · exact answerStages_same s

omit hA in
theorem turns_started (s : State) : Turns s (started s) := by
  unfold started
  split
  · exact turns_settle s
  · exact .refl s

theorem answerStages_execBackgroundEraseComplete (s : State) :
    AnswerStages H A C s (execBackgroundEraseComplete s) := by
  unfold execBackgroundEraseComplete
  dsimp only
  split
  · rename_i b gone ha
    refine answerStages_commit (((Stages.refl s).turns (turns_started s)).trans (stages_ports ?_ rfl))
    exact (Did.refl _).deed (.erased b .background gone hA ha (.inl rfl))
  · exact answerStages_same s

theorem answerStages_execBuiltInEraseComplete (s : State) : AnswerStages H A C s (execBuiltInEraseComplete s) := by
  unfold execBuiltInEraseComplete
  split
  · rename_i b src gone ha
    refine answerStages_commit ?_
    split
    · rename_i hgone
      exact stages_ports ((Did.refl s).deed (.erased b _ gone hA ha (.inr hgone))) rfl
    · rename_i hgone
      obtain rfl : gone = false := by simpa using hgone
      exact (Stage.grant src b hA ha).all
  · exact answerStages_same s

end

theorem answerStages_execPageLoad (s : State) : AnswerStages H A C s (execPageLoad s) := by
  unfold execPageLoad
  split
  · exact answerStages_commit ((Stages.refl s).turns (turns_loadDue (by assumption)))
  · exact answerStages_same s

theorem answerStages_execWaitingAllocationServed (s : State) :
    AnswerStages H A C s (execWaitingAllocationServed s) := by
  unfold execWaitingAllocationServed
  split
  · exact answerStages_commit ((Stages.refl s).turns (turns_waitingDue (by assumption)))
  · exact answerStages_same s

/-! ### The lanes -/

/-- A step of a job that leaves its chapter and its blocks. -/
theorem stages_modJob {l : Lane} {f : Job → Job} (s : State) (hc : ∀ j, (f j).chapter = j.chapter)
    (hb : ∀ j, (f j).blocks = j.blocks) : Stages H A C s (modJob l f s) :=
  stages_own ((Did.refl s).modJob hb) (path_modJob s hc)

theorem answerStages_execMeasureSample (l : Lane) (s : State) : AnswerStages H A C s (execMeasureSample l s) := by
  unfold execMeasureSample
  split
  · exact answerStages_same s
  · split
    · split
      · exact answerStages_same s
      · refine answerStages_commit
          (Stages.turns (stages_modJob s ?_ ?_) (turns_measureEndDue l _)) <;> exact fun _ => rfl
    · exact answerStages_same s

theorem answerStages_execMeterBlock (l : Lane) (s : State) : AnswerStages H A C s (execMeterBlock l s) := by
  refine answerStages_commit (stages_modJob s (fun j => ?_) fun j => ?_)
  · unfold blockMeasured
    split <;> rfl
  · unfold blockMeasured
    split <;> rfl

theorem answerStages_execEncodeFrame (l : Lane) (s : State) : AnswerStages H A C s (execEncodeFrame l s) := by
  unfold execEncodeFrame
  split
  · exact answerStages_same s
  · split
    · refine answerStages_commit (Stages.turns (stages_modJob s ?_ ?_) (turns_encodeEndDue l _)) <;> exact fun _ => rfl
    · exact answerStages_same s

/-! ### Every command -/

/-- Every command but DEVICE_RESET runs through stages; only a COLLECT changes a PUBLISHED chapter freely. -/
theorem answerStages_exec (i : Instr) (hA : A) (hH : H → (view s).HeldLaw)
    (hC : ∀ p ps c, i = .collect p ps → chapterAt ps 0 = some c → C c) (hi : i ≠ .deviceReset) :
    AnswerStages H A C s (exec i s) := by
  have held {u : State} (hu : view u = view s) : H → (view u).HeldLaw := hu ▸ hH
  cases i with
  | titleDefine p ps => exact answerStages_request hA fun u _ => stages_defineTitle ps u
  | titleDrop p ps => exact answerStages_request hA fun u _ => stages_dropTitle ps u
  | titleProfile p ps => exact answerStages_request hA fun u _ => stages_setTitleProfile ps u
  | titleInfo p ps => exact answerStages_request hA fun u _ => stages_same (reportTitle_state ps u)
  | chapterCreate p ps => exact answerStages_request hA fun u _ => stages_createChapter p ps u
  | chapterOpen p ps => exact answerStages_request hA fun u hu => stages_openChapter p ps (held hu)
  | chapterClose p ps => exact answerStages_request hA fun u _ => stages_closeChapter p ps u
  | chapterDiscard p ps => exact answerStages_request hA fun u hu => stages_discardChapter p ps (held hu)
  | chapterMove p ps => exact answerStages_request hA fun u _ => stages_moveChapter ps u
  | chapterInfo p ps => exact answerStages_request hA fun u _ => stages_same (reportChapter_state ps u)
  | takeStart p ps => exact answerStages_request hA fun u _ => stages_startTake hA p ps u
  | gateSet p ps => exact answerStages_request hA fun u _ => stages_setGateValues hA p ps u
  | takeStop p ps => exact answerStages_request hA fun u _ => stages_stopTake hA p ps u
  | takeRetire p ps => exact answerStages_request hA fun u _ => stages_retireTake ps u
  | takeInfo p ps => exact answerStages_request hA fun u _ => stages_same (reportTake_state ps u)
  | levels p ps => exact answerStages_request hA fun u _ => stages_same (reportLevels_state ps u)
  | scriptPoint p ps => exact answerStages_request hA fun u _ => stages_pointScript p ps u
  | scriptWrite p ps => exact answerStages_request hA fun u _ => stages_writeScript p ps u
  | scriptRead p ps => exact answerStages_request hA fun u _ => stages_readScript p ps u
  | storeInfo p ps => exact answerStages_request hA fun u _ => stages_same (reportStore_state ps u)
  | purge p ps => exact answerStages_request hA fun u hu => stages_purge hA ps (held hu)
  | render p ps => exact answerStages_request hA fun u _ => stages_renderChapter p ps u
  | renderSet p ps => exact answerStages_request hA fun u hu => stages_renderSet p ps (held hu)
  | renderCancel p ps => exact answerStages_request hA fun u hu => stages_cancelRender ps (held hu)
  | queueInfo p ps => exact answerStages_request hA fun u _ => stages_same (reportQueue_state ps u)
  | publish p ps => exact answerStages_request hA fun u _ => stages_publish ps u
  | collect p ps => exact answerStages_request hA fun u _ => stages_collect ps (fun c => hC p ps c rfl) u
  | profileSet p ps => exact answerStages_request hA fun u _ => stages_writeProfile ps u
  | profileGet p ps => exact answerStages_request hA fun u _ => stages_same (readProfile_state ps u)
  | streamOpen p ps => exact answerStages_request hA fun u _ => stages_streamOpen p ps u
  | streamClose p ps => exact answerStages_request hA fun u _ => stages_streamClose p ps u
  | subscribe p ps => exact answerStages_request hA fun u _ => stages_subscribe hA p ps u
  | deviceInfo p ps => exact answerStages_request hA fun u _ => stages_same (deviceInfo_state p ps u)
  | request p m => exact answerStages_execRequest hA p m s
  | fetch p m => exact answerStages_execFetch hA p m s
  | notices p => exact answerStages_execNotices hA p s
  | noticeRecordSent p => exact answerStages_execNoticeRecordSent hA p s
  | capture p m => exact answerStages_execCapture hA p m s
  | captureSample p x => exact answerStages_execCaptureSample hA p x s
  | captureEnd rise => exact answerStages_execCaptureEnd hA rise s
  | takeFull p => exact answerStages_commit (stages_own ((Did.refl s).takeFullDue hA) (path_takeFullDue p s))
  | positionLimit p =>
    exact answerStages_commit (stages_own ((Did.refl s).positionLimitDue hA) (path_positionLimitDue p s))
  | takeClosed p => exact answerStages_commit (stages_own ((Did.refl s).takeClosedDue hA) (path_takeClosedDue p s))
  | liveBlock p =>
    exact answerStages_commit (stages_own ((Did.refl s).liveBlockDue hA) (path_of_eq (view_liveBlockDue p s)))
  | streamData p => exact answerStages_execStreamData hA p s
  | dataByteDelivered p => exact answerStages_execDataByteDelivered hA p s
  | streamDataEnd p => exact answerStages_execStreamDataEnd p s
  | attentionRead p m => exact answerStages_execAttentionRead hA p m s
  | attentionClear p value n => exact answerStages_attention hA p n _ s
  | attentionMask p value n => exact answerStages_attention hA p n _ s
  | attentionMode p value n => exact answerStages_attention hA p n _ s
  | portReset p extra => exact answerStages_execPortReset hA p extra s
  | ignoredTransaction p tb n => exact answerStages_execIgnoredTransaction hA p tb n s
  | deviceReset => exact absurd rfl hi
  | pageReadComplete => exact answerStages_execPageReadComplete hA s
  | capturePageProgrammed => exact answerStages_execCapturePageProgrammed hA s
  | outputPageProgrammed => exact answerStages_execOutputPageProgrammed hA s
  | backgroundEraseComplete => exact answerStages_execBackgroundEraseComplete hA s
  | builtInEraseComplete => exact answerStages_execBuiltInEraseComplete hA s
  | pageLoad => exact answerStages_execPageLoad s
  | waitingAllocationServed => exact answerStages_execWaitingAllocationServed s
  | measureSample l => exact answerStages_execMeasureSample l s
  | meterBlock l => exact answerStages_execMeterBlock l s
  | measureEnd l => exact answerStages_commit ((Stages.refl s).turns (turns_measureEndDue l s))
  | encodeFrame l => exact answerStages_execEncodeFrame l s
  | encodeEnd l => exact answerStages_commit ((Stages.refl s).turns (turns_encodeEndDue l s))

end Sys2Proof.Machine

/-! The step lemmas of the laws: the profiles' ranges and the array's form (O48), the law of blocks and the law of pages
(O52), and the lock on a PUBLISHED chapter (O54). -/

namespace Sys2Proof.Machine

open View

variable {H A : Prop} {C : ChapterId → Prop} {s t : State}

/-! ### DEVICE_RESET -/

theorem profilesLaw_deviceReset (h : exec .deviceReset s = .next t) : ProfilesLaw t := by
  obtain ⟨u, hu, -, -, -, -, -, -, -, profiles, -⟩ := deviceResetInitialState s
  obtain rfl : u = t := Host.Outcome.next.inj (hu.symm.trans h)
  intro n
  rw [profiles n]
  unfold ProfileInRange
  decide

theorem memoryLaw_deviceReset (h : exec .deviceReset s = .next t) : MemoryLaw t := by
  have blocks := storeBlocks_eq
  generalize (List.range 16383).map (· + 1) = rest at blocks
  obtain rfl := Host.Outcome.next.inj ((execDeviceReset_eq s blocks).symm.trans h)
  rw [MemoryLaw, modStore_store, resetState]
  exact Memory.wf_reset

theorem laws_deviceReset (h : exec .deviceReset s = .next t) : BlockLaw t ∧ PageLaw t := by
  obtain ⟨u, hu, -, takes, chapters, -, -, -, lanes, -, -, erased, dirty, array, -, -, buffers, -⟩ :=
    deviceResetInitialState s
  obtain rfl : u = t := Host.Outcome.next.inj (hu.symm.trans h)
  constructor
  · have noTake : (List.finRange 128).flatMap (takeChain u) = [] := List.flatMap_eq_nil_iff.mpr fun k _ => by
      unfold takeChain
      rw [takes k]
    have noOutput : (List.finRange 64).flatMap (ownedChain u) = [] := List.flatMap_eq_nil_iff.mpr fun c _ => by
      unfold ownedChain
      rw [chapters c]
      rfl
    have noJob : (List.finRange 2).flatMap (laneChain u) = [] := List.flatMap_eq_nil_iff.mpr fun l _ => by
      unfold laneChain
      rw [lanes l]
      rfl
    have blocks : List.range 16384 = 0 :: (List.range 16383).map (· + 1) := storeBlocks_eq
    have erasing : erasingBlock u.store.array = [0] := by rw [array]; rfl
    rw [BlockLaw, placedBlocks, noTake, noOutput, noJob, erased, dirty, erasing, blocks]
    generalize (List.range 16383).map (· + 1) = rest
    simp only [List.nil_append, List.append_nil]
    exact List.perm_append_singleton 0 rest
  · have free (i : Fin 2) (src : Source) : pageSource u.store.buffers[i] ≠ some src := by
      rw [buffers i]
      exact (Option.some_ne_none src).symm
    refine pageLaw_iff.mpr ⟨fun i src hi => absurd hi (free i src), fun i k src hi _ => absurd hi (free i src),
      fun src => ?_⟩
    rw [array]
    refine iff_of_false (by simp [erasesFor]) ?_
    rintro ⟨i, hi⟩
    exact free i src (pageSource_of_targetOf hi)

/-! ### The step -/

/-- A step idles, resets the part, or runs the front command through stages. -/
theorem step_cases (hH : H → (view s).HeldLaw) (h : step s = .next t) : t = s ∨
    ∃ i rest, s.pending = i :: rest ∧ exec i { s with pending := rest } = .next t ∧
      (i = .deviceReset ∨ Stages H True (fun _ => True) { s with pending := rest } t) := by
  unfold step at h
  split at h
  · exact .inl (Host.Outcome.next.inj h).symm
  · rename_i i rest hp
    refine .inr ⟨i, rest, hp, h, ?_⟩
    by_cases hi : i = .deviceReset
    · exact .inl hi
    · exact .inr (answerStages_exec (s := { s with pending := rest }) i trivial hH (fun _ _ _ _ _ => trivial) hi t h)

/-- Settles O48, by the stages of a command: only a stored profile and an ended operation of the array reach the two. -/
theorem stepKeepsProfilesAndMemoryLaws : Obligations.StepKeepsProfilesAndMemoryLaws := by
  unfold Obligations.StepKeepsProfilesAndMemoryLaws
  refine ⟨fun s t hs hstep => ?_, fun s t hs hstep => ?_⟩
  · obtain rfl | ⟨i, rest, -, hexec, rfl | stages⟩ := step_cases (H := False) (fun h => h.elim) hstep
    · exact hs
    · exact profilesLaw_deviceReset hexec
    · exact stages.profilesLaw hs
  · obtain rfl | ⟨i, rest, -, hexec, rfl | stages⟩ := step_cases (H := False) (fun h => h.elim) hstep
    · exact hs
    · exact memoryLaw_deviceReset hexec
    · exact stages.memoryLaw hs

theorem sound_of_laws (hq : QueueLaw s) (hstream : StreamLaw s) (hpres : PresenceLaw s) (hp : PageLaw s)
    (hb : BlockLaw s) : Sound s :=
  ⟨heldLaw_of_queueLaw hq, presenceLaw_iff.mp hpres, streamLaw_iff.mp hstream, hp, hb⟩

/-- The commands that wait are outside the part. -/
theorem Sound.of_pending {q : List Instr} (h : Sound s) : Sound { s with pending := q } :=
  ⟨h.held, h.present, h.streams, h.pages, h.blocks⟩

/-- Settles O52, by the stages of a command: each keeps the queue, presence, streams, pages and blocks together in
order. -/
theorem stepKeepsBlockAndPageLaws : Obligations.StepKeepsBlockAndPageLaws := by
  unfold Obligations.StepKeepsBlockAndPageLaws
  intro s t hq hstream hpres hp hb hstep
  have sound := sound_of_laws hq hstream hpres hp hb
  obtain rfl | ⟨i, rest, -, hexec, rfl | stages⟩ := step_cases (H := True) (fun _ => sound.held) hstep
  · exact ⟨hb, hp⟩
  · exact laws_deviceReset hexec
  · have after := stages.sound sound.of_pending
    exact ⟨after.blocks, after.pages⟩

/-- The chapters that a command collects (R95). -/
def Collects (i : Instr) (c : ChapterId) : Prop := ∃ p ps, i = .collect p ps ∧ chapterAt ps 0 = some c

/-- Settles O54, by the stages of a command: none changes the locked parts of a chapter that is PUBLISHED, not collected
and off the render path. -/
theorem publishedChapterIsLocked : Obligations.PublishedChapterIsLocked := by
  unfold Obligations.PublishedChapterIsLocked
  intro i s t c r hq hr hpub hexec hcollect hreset
  have held := heldLaw_of_queueLaw hq
  have stages : Stages True True (Collects i) s t :=
    answerStages_exec i trivial (fun _ => held) (fun p ps c hi hc => ⟨p, ps, hi, hc⟩) hreset t hexec
  have kept := stages.publishedAs (fun ⟨p, ps, hi, hc⟩ => hcollect p ps hi hc) hpub ⟨held, r, hr, .refl r⟩
  obtain ⟨r', hr', hstate, hassembled, hresult, htitle⟩ := kept.record
  exact ⟨r', hr', hstate.trans hpub, hassembled, hresult, htitle⟩

end Sys2Proof.Machine

/-! The frames of events and of requests (R68, R87, R185): O43. -/

namespace Sys2Proof.Machine

variable {s t u : State} {p : Port} {K : Prop}

/-! ### The consequences of an event -/

theorem reach_commit (b s : State) : EventReach (fun _ => True) s (commit b s) :=
  (EventReach.refl (within_true s)).commit b

theorem commit_mem (b s : State) : (commit b s).store.mem = s.store.mem := by
  rw [commit, attend_store, settle_mem]

theorem commit_pending (b s : State) : (commit b s).pending = s.pending := by
  rw [commit, attend_pending, (settle_work (within_true s)).pending]

theorem commit_captures (b s : State) (q : Port) :
    (commit b s).captures[q].map streamRest = s.captures[q].map streamRest := by
  rw [commit, attend_captures]
  exact (settle_work (within_true s)).captures q

theorem commit_chapters (b : State) {c : ChapterId} (h : NotHeld s c) : (commit b s).chapters[c] = s.chapters[c] :=
  chapters_of_reach (fun _ hT => (EventReach.refl hT).commit b) h

/-! ### A request row -/

/-- What a request but the five named ones leaves, beside its own port's execution state and, unless `K`, the bytes that
port has sent. -/
structure ServedFrame (p : Port) (K : Prop) (s t : State) : Prop where
  levels : t.levels = s.levels
  mem : t.store.mem = s.store.mem
  captures : ∀ q : Port, t.captures[q].map streamRest = s.captures[q].map streamRest
  settings : ∀ q : Port, t.ports[q].subs = s.ports[q].subs ∧ t.ports[q].mask = s.ports[q].mask ∧
    t.ports[q].mode = s.ports[q].mode
  others : ∀ q : Port, q ≠ p → t.ports[q].exec = s.ports[q].exec ∧ t.ports[q].sent = s.ports[q].sent
  sent : K → t.ports[p].sent = s.ports[p].sent

theorem ServedFrame.refl (s : State) : ServedFrame p K s s :=
  ⟨rfl, rfl, fun _ => rfl, fun _ => ⟨rfl, rfl, rfl⟩, fun _ _ => ⟨rfl, rfl⟩, fun _ => rfl⟩

theorem ServedFrame.trans (h : ServedFrame p K s t) (k : ServedFrame p K t u) : ServedFrame p K s u where
  levels := k.levels.trans h.levels
  mem := k.mem.trans h.mem
  captures q := (k.captures q).trans (h.captures q)
  settings q := by
    obtain ⟨subs, mask, mode⟩ := h.settings q
    obtain ⟨subs', mask', mode'⟩ := k.settings q
    exact ⟨subs'.trans subs, mask'.trans mask, mode'.trans mode⟩
  others q hq := by
    obtain ⟨exec, sent⟩ := h.others q hq
    obtain ⟨exec', sent'⟩ := k.others q hq
    exact ⟨exec'.trans exec, sent'.trans sent⟩
  sent hK := (k.sent hK).trans (h.sent hK)

theorem RequestFrame.served (h : RequestFrame s t) : ServedFrame p K s t := by
  have port (q : Port) : t.ports[q].exec = s.ports[q].exec ∧ t.ports[q].subs = s.ports[q].subs ∧
      t.ports[q].mask = s.ports[q].mask ∧ t.ports[q].mode = s.ports[q].mode ∧ t.ports[q].sent = s.ports[q].sent := by
    simpa only [steady, Prod.mk.injEq] using h.ports q
  refine ⟨h.levels, h.mem, h.captures, fun q => ?_, fun q _ => ?_, fun _ => ?_⟩
  · obtain ⟨-, subs, mask, mode, -⟩ := port q
    exact ⟨subs, mask, mode⟩
  · obtain ⟨exec, -, -, -, sent⟩ := port q
    exact ⟨exec, sent⟩
  · obtain ⟨-, -, -, -, sent⟩ := port p
    exact sent

/-- The request's own port changes, but for its settings. -/
theorem ServedFrame.ownPort {f : PortState → PortState} (h : ServedFrame p K s t)
    (hf : ∀ ps, (f ps).subs = ps.subs ∧ (f ps).mask = ps.mask ∧ (f ps).mode = ps.mode)
    (hs : K → ∀ ps, (f ps).sent = ps.sent) : ServedFrame p K s (modPort p f t) := by
  have self : (modPort p f t).ports[p] = f t.ports[p] := modPort_ports_self t p f
  have kept (q : Port) (hq : q ≠ p) : (modPort p f t).ports[q] = t.ports[q] := modPort_ports_ne t p q f hq
  refine h.trans ⟨rfl, rfl, fun _ => rfl, fun q => ?_, fun q hq => ?_, fun hK => ?_⟩
  · by_cases hq : q = p
    · rw [hq, self]
      exact hf _
    · rw [kept q hq]
      exact ⟨rfl, rfl, rfl⟩
  · rw [kept q hq]
    exact ⟨rfl, rfl⟩
  · rw [self]
    exact hs hK _

/-- Attention changes the pending bits alone. -/
theorem ServedFrame.attend {b : State} (h : ServedFrame p K s t) : ServedFrame p K s (attend b t) := by
  have now (q : Port) : (Machine.attend b t).ports[q] = attendPort b.ports[q] t.ports[q] := attend_ports b t q
  refine h.trans ⟨rfl, rfl, fun _ => rfl, fun q => ?_, fun q _ => ?_, fun _ => ?_⟩
  all_goals rw [now]
  · exact ⟨rfl, rfl, rfl⟩
  · exact ⟨rfl, rfl⟩
  · rfl

theorem ServedFrame.answer {k : ReqKind} {discard : Bool} {r : Reply} (h : ServedFrame p K s r.state) :
    ServedFrame p K s (answer p k discard r) := by
  unfold Machine.answer
  split
  · exact h.ownPort (fun _ => ⟨rfl, rfl, rfl⟩) fun _ _ => rfl
  · exact h.ownPort (fun _ => ⟨rfl, rfl, rfl⟩) fun _ _ => rfl

/-! ### A transaction on the request's port -/

section

variable (h : ServedFrame p False s t)
include h

theorem ServedFrame.notify {n : Notice} : ServedFrame p False s (notify p n t) :=
  h.ownPort (fun ps => by unfold pushNotice; split <;> exact ⟨rfl, rfl, rfl⟩) False.elim

theorem ServedFrame.setTransfer {x : Transfer} : ServedFrame p False s (setTransfer p x t) :=
  h.ownPort (fun _ => ⟨rfl, rfl, rfl⟩) False.elim

theorem ServedFrame.setSent {bytes : List Byte} : ServedFrame p False s (setSent p bytes t) :=
  h.ownPort (fun _ => ⟨rfl, rfl, rfl⟩) False.elim

theorem ServedFrame.receive {bytes : List Byte} : ServedFrame p False s (receive p bytes t) := by
  have own (f : PortState → Exec) : ServedFrame p False s (modPort p (fun ps => { ps with exec := f ps }) t) :=
    h.ownPort (fun _ => ⟨rfl, rfl, rfl⟩) False.elim
  unfold Machine.receive
  split
  · dsimp only
    split
    · exact h.notify
    · split
      · exact own _
      · split
        · exact own _
        · exact own _
  · exact h.notify

theorem ServedFrame.endTransaction : ServedFrame p False s (endTransaction p t) := by
  unfold Machine.endTransaction
  split
  · exact h.receive.setTransfer
  · exact h.notify.setTransfer
  · exact h.setTransfer

theorem ServedFrame.wholeRequest {bytes : List Byte} : ServedFrame p False s (wholeRequest p bytes t) :=
  (h.endTransaction.attend.setSent.setTransfer).setSent.receive.setTransfer.attend

end

/-- A request row whose block keeps the frame keeps it but for its own port. -/
theorem served_request {k : ReqKind} {ps : List Byte} {act : State → Reply} (h : ∀ u, RequestFrame u (act u).state)
    (ht : request p k ps act s = .next t) : ServedFrame p (∃ d, s.ports[p].exec = .executing k ps d) s t := by
  by_cases hexec : ∃ d, s.ports[p].exec = .executing k ps d
  · obtain ⟨d, hd⟩ := hexec
    unfold request at ht
    simp only [hd, and_self, if_true] at ht
    rw [← Host.Outcome.next.inj ht]
    exact (h s).served.answer.attend
  · have whole := (ServedFrame.refl (p := p) s).wholeRequest (bytes := requestBytes k ps)
    rw [eq_false hexec]
    unfold request at ht
    split at ht
    · rename_i kind sent d hd
      split at ht
      · rename_i same
        obtain ⟨rfl, rfl⟩ := same
        exact absurd ⟨d, hd⟩ hexec
      · rw [← Host.Outcome.next.inj ht]
        exact whole
    · dsimp only at ht
      split at ht
      · rw [← Host.Outcome.next.inj ht]
        exact (whole.trans (h _).served).answer.attend
      · rw [← Host.Outcome.next.inj ht]
        exact whole

/-- Every block's own work but that of the five named requests keeps the frame. -/
theorem requestFrame_row {i : Instr} {k : ReqKind} {ps : List Byte} {act : State → Reply}
    (h : requestRow i = some (p, k, ps, act)) (hpurge : k ≠ .purge) (hstart : k ≠ .takeStart) (hgate : k ≠ .gateSet)
    (hstop : k ≠ .takeStop) (hsub : k ≠ .subscribe) (u : State) : RequestFrame u (act u).state := by
  suffices Stages False False (fun _ => True) u (act u).state from this.frame
  cases i <;> cases h
  case titleDefine => exact stages_defineTitle _ u
  case titleDrop => exact stages_dropTitle _ u
  case titleProfile => exact stages_setTitleProfile _ u
  case titleInfo => exact stages_same (reportTitle_state _ u)
  case chapterCreate => exact stages_createChapter _ _ u
  case chapterOpen => exact stages_openChapter _ _ False.elim
  case chapterClose => exact stages_closeChapter _ _ u
  case chapterDiscard => exact stages_discardChapter _ _ False.elim
  case chapterMove => exact stages_moveChapter _ u
  case chapterInfo => exact stages_same (reportChapter_state _ u)
  case takeStart => exact absurd rfl hstart
  case gateSet => exact absurd rfl hgate
  case takeStop => exact absurd rfl hstop
  case takeRetire => exact stages_retireTake _ u
  case takeInfo => exact stages_same (reportTake_state _ u)
  case levels => exact stages_same (reportLevels_state _ u)
  case scriptPoint => exact stages_pointScript _ _ u
  case scriptWrite => exact stages_writeScript _ _ u
  case scriptRead => exact stages_readScript _ _ u
  case storeInfo => exact stages_same (reportStore_state _ u)
  case purge => exact absurd rfl hpurge
  case render => exact stages_renderChapter _ _ u
  case renderSet => exact stages_renderSet _ _ False.elim
  case renderCancel => exact stages_cancelRender _ False.elim
  case queueInfo => exact stages_same (reportQueue_state _ u)
  case publish => exact stages_publish _ u
  case collect => exact stages_collect _ (fun _ _ => trivial) u
  case profileSet => exact stages_writeProfile _ u
  case profileGet => exact stages_same (readProfile_state _ u)
  case streamOpen => exact stages_streamOpen _ _ u
  case streamClose => exact stages_streamClose _ _ u
  case subscribe => exact absurd rfl hsub
  case deviceInfo => exact stages_same (deviceInfo_state _ _ u)

/-! ### The frames -/

/-- Settles O43: what follows from an event is work in the store; a completion or a lane's step adds a delivered page
and a job's own change; a request's block keeps the frame, and the row adds its own port's transaction. -/
theorem eventFrames : Obligations.EventFrames := by
  unfold Obligations.EventFrames
  refine ⟨?_, fun i s t hexec hi => ?_, fun i s t p k ps act hrow hexec hpurge hstart hgate hstop hsub => ?_⟩
  · rintro b s _ rfl
    have reach := reach_commit b s
    exact ⟨reach.titles, reach.profiles, reach.levels, commit_mem b s, commit_pending b s, reach.records_kept,
      fun c => commit_chapters b, reach.takes_chainless, commit_captures b s, reach.ports_kept⟩
  · have event : StoreEvent i ∨ LaneEvent i := by
      rcases hi with rfl | rfl | rfl | rfl | rfl | rfl | ⟨l, rfl⟩ | ⟨l, rfl⟩ | ⟨l, rfl⟩ | ⟨l, rfl⟩ | ⟨l, rfl⟩
      · exact .inl .read
      · exact .inl .output
      · exact .inl .background
      · exact .inl .builtIn
      · exact .inl .load
      · exact .inl .served
      · exact .inr (.sample l)
      · exact .inr (.meter l)
      · exact .inr (.measure l)
      · exact .inr (.frame l)
      · exact .inr (.encode l)
    have reaches (T : ChapterId → Prop) (hT : Within T s) : EventReach T s t := by
      rcases event with h | h
      · exact answerReach_storeEvent h hT t hexec
      · exact answerReach_laneEvent h hT t hexec
    have reach := reaches _ (within_true s)
    exact ⟨reach.titles, reach.profiles, reach.levels, reach.records_kept, fun c => chapters_of_reach reaches,
      reach.takes_chainless, reach.ports_kept⟩
  · rw [exec_requestRow hrow] at hexec
    have served := served_request (requestFrame_row hrow hpurge hstart hgate hstop hsub) hexec
    refine ⟨served.levels, served.mem, served.captures, fun q => ?_⟩
    obtain ⟨subs, mask, mode⟩ := served.settings q
    have own (hq : q ≠ p) := served.others q hq
    refine ⟨subs, mask, mode, fun hq => (own hq).1, fun hsent => ?_⟩
    by_cases hq : q = p
    · subst hq
      exact served.sent (hsent.resolve_left fun h => h rfl)
    · exact (own hq).2

end Sys2Proof.Machine

/-! The law of the queue (R87): that each QUEUED chapter has its entry and each RENDERING one its lane. With the law of what
is held (`View.HeldLaw`), this is the whole law. A command may take a chapter off the render path before it changes the
chapter's state, so the law is carried through such a moment for all chapters but that one. -/

namespace Sys2Proof.Machine

namespace View

variable {n m : Nat} {v w : View} {c : ChapterId}

/-- A chapter's state, none for a free record. -/
def state (v : View) (c : ChapterId) : Option ChapterState := (v.chapter c).map (·.state)

theorem state_setChapter (v : View) (c d : ChapterId) (o : Option Chapter) :
    (v.setChapter c o).state d = if d = c then o.map (·.state) else v.state d := by
  unfold state
  by_cases h : d = c
  · subst h; simp
  · simp [h]

/-- Positions are no part of a chapter's state. -/
theorem state_reorder (v : View) (t : TitleNo) (cs : List ChapterId) (d : ChapterId) :
    (v.reorder t cs).state d = v.state d := by
  obtain ⟨q, hq⟩ := v.reorder_chapter t cs d
  unfold state
  rw [hq]
  simp [Function.comp_def]

/-- A queue of at most `n` entries, an entry for each QUEUED chapter in `T`, and a lane for each RENDERING one. -/
structure Placed (T : ChapterId → Prop) (n : Nat) (v : View) : Prop where
  size : v.queue.length ≤ n
  queued : ∀ c, T c → v.state c = some .queued → c ∈ v.queue
  rendering : ∀ c, T c → v.state c = some .rendering → ∃ l, v.lane l = some c

/-- Every chapter is in its place. -/
abbrev AllPlaced (n : Nat) (v : View) : Prop := v.Placed (fun _ => True) n

/-- Every chapter but one is in its place. -/
abbrev OthersPlaced (c : ChapterId) (n : Nat) (v : View) : Prop := v.Placed (· ≠ c) n

variable {T : ChapterId → Prop}

theorem Placed.mono (h : v.Placed T n) (hn : n ≤ m) : v.Placed T m := ⟨h.size.trans hn, h.queued, h.rendering⟩

theorem AllPlaced.others (h : v.AllPlaced n) (c : ChapterId) : v.OthersPlaced c n :=
  ⟨h.size, fun d _ => h.queued d trivial, fun d _ => h.rendering d trivial⟩

/-- A chapter in no state of the render path needs no place. -/
theorem OthersPlaced.all (h : v.OthersPlaced c n) (hq : v.state c ≠ some .queued) (hr : v.state c ≠ some .rendering) :
    v.AllPlaced n := by
  refine ⟨h.size, fun d _ hd => h.queued d ?_ hd, fun d _ hd => h.rendering d ?_ hd⟩
  · rintro rfl; exact hq hd
  · rintro rfl; exact hr hd

/-- A QUEUED chapter with an entry. -/
theorem OthersPlaced.all_of_queued (h : v.OthersPlaced c n) (hs : v.state c = some .queued) (hq : c ∈ v.queue) :
    v.AllPlaced n := by
  refine ⟨h.size, fun d _ hd => ?_, fun d _ hd => h.rendering d ?_ hd⟩
  · by_cases hdc : d = c
    · exact hdc ▸ hq
    · exact h.queued d hdc hd
  · rintro rfl; simp [hs] at hd

/-- A RENDERING chapter in a lane. -/
theorem OthersPlaced.all_of_rendering {l : Lane} (h : v.OthersPlaced c n) (hs : v.state c = some .rendering)
    (hl : v.lane l = some c) : v.AllPlaced n := by
  refine ⟨h.size, fun d _ hd => h.queued d ?_ hd, fun d _ hd => ?_⟩
  · rintro rfl; simp [hs] at hd
  · by_cases hdc : d = c
    · exact ⟨l, hdc ▸ hl⟩
    · exact h.rendering d hdc hd

/-- Only states, the queue and the lanes are read. -/
theorem Placed.of_eq (h : v.Placed T n) (hs : ∀ c, T c → w.state c = v.state c) (hq : w.queue = v.queue)
    (hl : w.lane = v.lane) : w.Placed T n := by
  refine ⟨hq ▸ h.size, fun c hc hd => ?_, fun c hc hd => ?_⟩
  · rw [hq]; exact h.queued c hc (hs c hc ▸ hd)
  · rw [hl]; exact h.rendering c hc (hs c hc ▸ hd)

theorem Placed.reorder (h : v.Placed T n) (t : TitleNo) (cs : List ChapterId) : (v.reorder t cs).Placed T n :=
  h.of_eq (fun c _ => state_reorder v t cs c) (by simp) (by simp)

theorem OthersPlaced.setChapter (h : v.OthersPlaced c n) (o : Option Chapter) :
    (v.setChapter c o).OthersPlaced c n :=
  h.of_eq (fun d hd => by rw [state_setChapter, if_neg hd]) rfl rfl

/-- A chapter that keeps its state keeps its place. -/
theorem Placed.setChapter_same {o : Option Chapter} (h : v.Placed T n) (ho : o.map (·.state) = v.state c) :
    (v.setChapter c o).Placed T n :=
  h.of_eq (fun d _ => by rw [state_setChapter]; split <;> simp_all) rfl rfl

/-- A chapter put into a state off the render path. -/
theorem OthersPlaced.offPath {r : Chapter} (h : v.OthersPlaced c n) (hq : r.state ≠ .queued) (hr : r.state ≠ .rendering) :
    (v.setChapter c (some r)).AllPlaced n :=
  (h.setChapter _).all (by simpa [state_setChapter] using hq) (by simpa [state_setChapter] using hr)

/-- A free record is in its place. -/
theorem OthersPlaced.free (h : v.OthersPlaced c n) : (v.setChapter c none).AllPlaced n :=
  (h.setChapter none).all (by simp [state_setChapter]) (by simp [state_setChapter])

/-- The queue may lose entries of the one chapter. -/
theorem OthersPlaced.setQueue {q : List ChapterId} (h : v.OthersPlaced c n) (hn : q.length ≤ m)
    (hq : ∀ d ∈ v.queue, d ≠ c → d ∈ q) : (v.setQueue q).OthersPlaced c m :=
  ⟨hn, fun d hd hs => hq d (h.queued d hd hs) hd, h.rendering⟩

/-- A lane that holds nothing, or the one chapter, may be given or given up. -/
theorem OthersPlaced.setLane {l : Lane} (h : v.OthersPlaced c n) (hl : ∀ d, v.lane l = some d → d = c)
    (o : Option ChapterId) : (v.setLane l o).OthersPlaced c n := by
  refine ⟨h.size, h.queued, fun d hd hs => ?_⟩
  obtain ⟨m, hm⟩ := h.rendering d hd hs
  have hml : m ≠ l := by rintro rfl; exact hd (hl d hm)
  exact ⟨m, by simpa [hml] using hm⟩

/-- A chapter in use joins the queue (R87). -/
theorem OthersPlaced.enqueue (h : v.OthersPlaced c n) (hs : v.state c = none ∨ v.state c = some .queued) :
    (v.setQueue (v.queue ++ [c])).AllPlaced (n + 1) := by
  have size := h.size
  have longer : (v.setQueue (v.queue ++ [c])).OthersPlaced c (n + 1) :=
    h.setQueue (by simpa using size) fun d hd _ => List.mem_append_left _ hd
  rcases hs with hs | hs
  · have hs : (v.setQueue (v.queue ++ [c])).state c = none := hs
    exact longer.all (by simp [hs]) (by simp [hs])
  · exact longer.all_of_queued hs (by simp)

/-- The chapter of a lane leaves it for a state off the render path. -/
theorem AllPlaced.leave {l : Lane} {f : Chapter → Chapter} (h : v.AllPlaced n) (hl : v.lane l = some c)
    (hq : ∀ r, (f r).state ≠ .queued) (hr : ∀ r, (f r).state ≠ .rendering) :
    ((v.setLane l none).setChapter c ((v.chapter c).map f)).AllPlaced n := by
  have left := (h.others c).setLane (l := l) (fun d hd => by rw [hl] at hd; exact (Option.some.inj hd).symm) none
  cases v.chapter c with
  | none => exact left.free
  | some r => exact left.offPath (hq r) (hr r)

end View

open View

variable {s t u : State} {c : ChapterId} {n : Nat}

/-- The law of the queue is the law of what is held together with a place for each chapter on the render path (R87). -/
theorem queueLaw_iff : QueueLaw s ↔ (view s).HeldLaw ∧ (view s).AllPlaced Config.queuePlaces := by
  refine ⟨fun h => ⟨heldLaw_of_queueLaw h, ?_⟩, fun ⟨held, placed⟩ => ?_⟩
  · obtain ⟨size, -, queued, rendering, -⟩ := h
    exact ⟨by simpa [view] using size, fun c _ hc => (queued c).mp hc, fun c _ hc => (rendering c).mp hc⟩
  · have state {c : ChapterId} {st : ChapterState} (h : ∃ r, (view s).chapter c = some r ∧ r.state = st) :
        chapterState s c = some st := Option.map_eq_some_iff.mpr h
    refine ⟨by simpa [view] using placed.size, held.nodup,
      fun c => ⟨placed.queued c trivial, fun hc => state (held.queued c hc)⟩,
      fun c => ⟨placed.rendering c trivial, fun ⟨l, hl⟩ => state (held.rendering l c hl)⟩, fun c h0 h1 => ?_⟩
    exact absurd (held.lanes 0 1 c h0 h1) (by decide)

/-! ### Updates off the render path -/

section

variable {T : ChapterId → Prop}

theorem placed_of_view (h : (view s).Placed T n) (hv : view t = view s) : (view t).Placed T n := hv ▸ h

/-- The chapters, the queue and the lanes stay. -/
theorem placed_of_eq (h : (view s).Placed T n) (hc : t.chapters = s.chapters) (hq : t.queue = s.queue)
    (hl : t.lanes = s.lanes) : (view t).Placed T n := by
  refine h.of_eq (fun c _ => ?_) ?_ ?_
  · simp only [View.state, view, hc]
  · simp only [view, hq]
  · simp only [view, hl]

/-- A change of a record that keeps its state. -/
theorem placed_modChapter {f : Chapter → Chapter} (hf : ∀ r, (f r).state = r.state) (h : (view s).Placed T n) :
    (view (modChapter c f s)).Placed T n := by
  rw [view_modChapter]
  refine h.setChapter_same ?_
  simp [View.state, Function.comp_def, hf]

end

/-! ### What follows from an event -/

/-- A job that begins holds its chapter, or rejects it. -/
theorem allPlaced_beginJob {l : Lane} {origin : Port} (h : (view s).OthersPlaced c n)
    (hl : ∀ d, (view s).lane l = some d → d = c) (hs : (view s).state c ≠ some .queued) :
    (view (beginJob l c origin s)).AllPlaced n := by
  unfold beginJob
  split
  · rename_i hc
    have hc : (view s).chapter c = none := hc
    exact h.all hs (by simp [View.state, hc])
  · rename_i r hc
    have hc : (view s).chapter c = some r := hc
    dsimp only
    split
    · rw [view_enterState, view_writeResult, view_setLane]
      simp only [Option.map_none, View.setChapter_chapter, Function.update_self, View.setLane_chapter, hc, Option.map_some]
      exact ((h.setLane hl none).setChapter _).offPath (by simp) (by simp)
    · rw [view_setLane]
      have held := h.setLane hl (some c)
      by_cases hr : (view s).state c = some .rendering
      · exact held.all_of_rendering (l := l) hr (by simp [freshJob])
      · exact held.all hs hr

/-- The head entry's job starts (R88). -/
theorem allPlaced_start {l : Lane} {e : Entry} {rest : List Entry} (h : (view s).AllPlaced n)
    (hl : s.lanes[l] = none) (hq : s.queue = e :: rest) :
    (view (beginJob l e.chapter e.origin (enterState e.chapter .rendering .started (setQueue rest s)))).AllPlaced n := by
  have queue : (view s).queue = e.chapter :: rest.map (·.chapter) := by simp [view, hq]
  have size := h.size
  have dequeued : (view (setQueue rest s)).OthersPlaced e.chapter n := by
    rw [view_setQueue]
    refine (h.others e.chapter).setQueue ?_ fun d hd hne => ?_
    · rw [queue, List.length_cons] at size
      omega
    · rw [queue] at hd
      exact (List.mem_cons.mp hd).resolve_left hne
  refine allPlaced_beginJob ?_ (fun d hd => ?_) ?_
  · rw [view_enterState]
    exact dequeued.setChapter _
  · rw [view_enterState, View.setChapter_lane, view_setQueue, View.setQueue_lane, view_lane_of_none hl] at hd
    cases hd
  · rw [view_enterState, state_setChapter, if_pos rfl]
    cases (view (setQueue rest s)).chapter e.chapter <;> simp

theorem Consequence.allPlaced (h : Consequence s t) (hs : (view s).AllPlaced n) : (view t).AllPlaced n := by
  cases h with
  | store f => exact hs
  | fetch p f hf => exact hs
  | chain k b => exact placed_of_eq hs rfl rfl rfl
  | fifo p m => exact placed_of_eq hs rfl rfl rfl
  | job l f hf => exact placed_of_view hs (view_modJob_same s l hf)
  | post m => exact placed_of_view hs (view_broadcast s m)
  | start l e rest hl hq => exact allPlaced_start hs hl hq
  | abort l j hl =>
    rw [view_enterState, view_clearLane]
    exact hs.leave (f := fun r => { r with state := .ready }) (view_lane_of_some hl) (by simp) (by simp)
  | reject l j g cause hl =>
    rw [view_enterState, view_writeResult, view_clearLane, View.setChapter_chapter, Function.update_self,
      Option.map_map]
    have left := hs.leave (f := fun r => { r with result := some g, state := .rejected }) (view_lane_of_some hl)
      (by simp) (by simp)
    refine left.of_eq (fun d _ => ?_) rfl rfl
    simp only [state_setChapter]
    split <;> simp_all [Function.comp_def]

theorem Consequences.allPlaced (h : Consequences s t) (hs : (view s).AllPlaced n) : (view t).AllPlaced n :=
  h.keep (fun _ _ k => k.allPlaced) hs

theorem allPlaced_settle (h : (view s).AllPlaced n) : (view (settle s)).AllPlaced n := (consequences_settle s).allPlaced h

theorem allPlaced_settleTake (h : (view s).AllPlaced n) : (view (settle (lanesTake s))).AllPlaced n :=
  allPlaced_settle ((consequences_lanesTake s).allPlaced h)

/-! ### Chapters taken off the render path -/

theorem othersPlaced_offRenderPath (h : (view s).AllPlaced n) (c : ChapterId) :
    (view (offRenderPath c s)).OthersPlaced c n := by
  have dequeued : (view (setQueue (s.queue.filter fun e => e.chapter != c) s)).OthersPlaced c n := by
    rw [view_setQueue]
    refine (h.others c).setQueue ?_ fun d hd hne => ?_
    · have := h.size
      have := List.length_filter_le (fun e : Entry => e.chapter != c) s.queue
      simp only [view, List.length_map] at *
      omega
    · obtain ⟨e, he, rfl⟩ := List.mem_map.mp hd
      exact List.mem_map.mpr ⟨e, List.mem_filter.mpr ⟨he, by simpa using hne⟩, rfl⟩
  unfold offRenderPath
  rw [view_abortJobOf]
  cases hl : laneOf (setQueue (s.queue.filter fun e => e.chapter != c) s) c with
  | none => exact dequeued
  | some l =>
    refine dequeued.setLane (fun d hd => ?_) none
    rw [view_lane_of_laneOf hl] at hd
    exact (Option.some.inj hd).symm

theorem othersPlaced_modChapter {f : Chapter → Chapter} (h : (view s).OthersPlaced c n) :
    (view (modChapter c f s)).OthersPlaced c n := by
  rw [view_modChapter]
  exact h.setChapter _

theorem othersPlaced_releaseOutput (h : (view s).OthersPlaced c n) : (view (releaseOutput c s)).OthersPlaced c n := by
  rw [view_releaseOutput]
  exact h.setChapter _

theorem othersPlaced_letGo (h : (view s).AllPlaced n) (c : ChapterId) : (view (letGo c s)).OthersPlaced c n :=
  letGo_eq c s ▸ othersPlaced_releaseOutput (othersPlaced_offRenderPath h c)

theorem placed_releaseReferences {T : ChapterId → Prop} (h : (view s).Placed T n) (c : ChapterId) :
    (view (releaseReferences c s)).Placed T n :=
  placed_of_eq h releaseReferences_chapters releaseReferences_queue releaseReferences_lanes

/-- A record freed changes the state of no other. -/
theorem state_freeChapter {c d : ChapterId} (hd : d ≠ c) (s : State) :
    (view (freeChapter c s)).state d = (view s).state d := by
  unfold freeChapter
  split
  · rw [view_setChapter, view_reorder, state_setChapter, if_neg hd, state_reorder]
  · rfl

theorem state_freeChapter_self (c : ChapterId) (s : State) : (view (freeChapter c s)).state c = none := by
  have record : (view (freeChapter c s)).chapter c = none := freeChapter_record c s
  simp [View.state, record]

theorem allPlaced_freeChapter (h : (view s).OthersPlaced c n) : (view (freeChapter c s)).AllPlaced n := by
  have others : (view (freeChapter c s)).OthersPlaced c n :=
    h.of_eq (fun d hd => state_freeChapter hd s) (by simp [view]) (by simp [view])
  exact others.all (by simp [state_freeChapter_self]) (by simp [state_freeChapter_self])

/-- A chapter enters a state off the render path. -/
theorem allPlaced_enterState {st : ChapterState} {cause : Cause} (h : (view s).OthersPlaced c n) (hq : st ≠ .queued)
    (hr : st ≠ .rendering) : (view (enterState c st cause s)).AllPlaced n := by
  rw [view_enterState]
  cases (view s).chapter c with
  | none => exact h.free
  | some r => exact h.offPath hq hr

/-- A chapter joins the queue and becomes QUEUED (R87). -/
theorem allPlaced_enterQueue {p : Port} {kind : OriginKind} {cause : Cause} (h : (view s).OthersPlaced c n) :
    (view (enterState c .queued cause (appendEntry ⟨c, p, kind⟩ s))).AllPlaced (n + 1) := by
  have joined := (h.setChapter (((view s).chapter c).map fun r => { r with state := .queued })).enqueue (by
    rw [state_setChapter, if_pos rfl]
    cases (view s).chapter c <;> simp)
  rw [view_enterState, appendEntry, view_setQueue, List.map_append]
  exact joined

theorem allPlaced_queueChapter {p : Port} {kind : OriginKind} (h : (view s).AllPlaced n) (c : ChapterId) :
    (view (queueChapter c p kind s)).AllPlaced (n + 1) :=
  allPlaced_enterQueue (othersPlaced_modChapter (othersPlaced_releaseOutput (h.others c)))

end Sys2Proof.Machine

/-! The law of the queue under the requests that a block takes. -/

namespace Sys2Proof.Machine

open View

variable {s t u : State} {c : ChapterId} {n : Nat}

/-! ### Titles, scripts and positions -/

theorem allPlaced_defineTitle (params : List Byte) (h : (view s).AllPlaced n) :
    (view (defineTitle params s).state).AllPlaced n := by
  unfold defineTitle
  split
  · split
    · exact h
    · split
      · exact h
      · exact placed_of_eq h rfl rfl rfl
  · exact h

theorem allPlaced_dropTitle (params : List Byte) (h : (view s).AllPlaced n) :
    (view (dropTitle params s).state).AllPlaced n := by
  unfold dropTitle
  split
  · exact h
  · split
    · exact h
    · split
      · exact h
      · split
        · exact h
        · exact placed_of_eq h rfl rfl rfl

theorem allPlaced_setTitleProfile (params : List Byte) (h : (view s).AllPlaced n) :
    (view (setTitleProfile params s).state).AllPlaced n := by
  unfold setTitleProfile
  split
  · split
    · exact h
    · split
      · exact h
      · exact placed_of_eq h rfl rfl rfl
  · exact h

theorem allPlaced_createChapter (p : Port) (params : List Byte) (h : (view s).AllPlaced n) :
    (view (createChapter p params s).state).AllPlaced n := by
  unfold createChapter
  split
  · exact h
  · split
    · exact h
    · split
      · exact h
      · split
        · exact h
        · split
          · exact h
          · rename_i c _
            dsimp only [acceptOr]
            rw [view_chapterNotice, view_reorder, view_setChapter]
            exact ((h.others c).offPath (by simp [freshChapter]) (by simp [freshChapter])).reorder _ _

theorem allPlaced_moveChapter (params : List Byte) (h : (view s).AllPlaced n) :
    (view (moveChapter params s).state).AllPlaced n := by
  unfold moveChapter
  split
  · exact h
  · split
    · exact h
    · split
      · exact h
      · dsimp only [acceptOr]
        rw [view_reorder]
        exact h.reorder _ _

theorem allPlaced_pointScript (p : Port) (params : List Byte) (h : (view s).AllPlaced n) :
    (view (pointScript p params s).state).AllPlaced n := by
  unfold pointScript
  split
  · exact h
  · split
    · exact h
    · split
      · exact h
      · exact placed_modChapter (fun _ => rfl) h

theorem allPlaced_writeScript (p : Port) (params : List Byte) (h : (view s).AllPlaced n) :
    (view (writeScript p params s).state).AllPlaced n := by
  unfold writeScript
  split
  · split
    · exact h
    · split
      · exact h
      · split
        · exact h
        · exact placed_modChapter (fun _ => rfl) h
  · exact h

theorem allPlaced_readScript (p : Port) (params : List Byte) (h : (view s).AllPlaced n) :
    (view (readScript p params s).state).AllPlaced n := by
  unfold readScript
  split
  · exact h
  · split
    · exact h
    · split
      · exact h
      · split
        · exact placed_modChapter (fun _ => rfl) h
        · exact h

/-! ### A chapter opened, closed and discarded -/

theorem allPlaced_openChapter (p : Port) (params : List Byte) (h : (view s).AllPlaced n) :
    (view (openChapter p params s).state).AllPlaced n := by
  unfold openChapter
  split
  · exact h
  · split
    · exact h
    · split
      · exact h
      · rename_i c _ _ _ r _
        split
        · split
          · exact placed_modChapter (fun _ => rfl) h
          · exact h
        · exact h
        · have off := placed_releaseReferences (othersPlaced_letGo h c) c
          rw [reopen_eq]
          exact allPlaced_settleTake (allPlaced_enterState (othersPlaced_modChapter off) (by simp) (by simp))

theorem allPlaced_closeValid {p : Port} {r : Chapter} {total : Nat} (h : (view s).AllPlaced Config.queuePlaces) :
    (view (closeValid p c r total s)).AllPlaced Config.queuePlaces := by
  have closed {n : Nat} (h : (view s).AllPlaced n) : (view (takeReferences (namedTakes r.slots)
      (modChapter c (fun r => { r with assembled := some total, editor := none }) s))).OthersPlaced c n := by
    rw [view_takeReferences _ (nodup_namedTakes _)]
    have changed := othersPlaced_modChapter (c := c) (f := fun r => { r with assembled := some total, editor := none })
      (h.others c)
    exact changed.of_eq (fun _ _ => rfl) rfl rfl
  unfold closeValid
  dsimp only
  split
  · split
    · rename_i hroom
      have tight : (view s).AllPlaced s.queue.length := ⟨by simp [view], h.queued, h.rendering⟩
      exact allPlaced_settleTake ((allPlaced_enterQueue (closed tight)).mono hroom)
    · exact allPlaced_settle (allPlaced_enterState (closed h) (by simp) (by simp))
  · exact allPlaced_settle (allPlaced_enterState (closed h) (by simp) (by simp))

theorem allPlaced_closeChapter (p : Port) (params : List Byte) (h : (view s).AllPlaced Config.queuePlaces) :
    (view (closeChapter p params s).state).AllPlaced Config.queuePlaces := by
  unfold closeChapter
  split
  · exact h
  · split
    · exact h
    · split
      · exact h
      · split
        · exact h
        · split
          · exact h
          · split
            · exact h
            · exact allPlaced_closeValid h

theorem allPlaced_discardChapter (p : Port) (params : List Byte) (h : (view s).AllPlaced n) :
    (view (discardChapter p params s).state).AllPlaced n := by
  unfold discardChapter
  split
  · exact h
  · split
    · exact h
    · split
      · exact h
      · split
        · exact h
        · split
          · exact h
          · rename_i c _ _ _ _ _ _ _
            rw [discardRecord_eq]
            have freed := allPlaced_freeChapter (placed_releaseReferences (othersPlaced_letGo h c) c)
            exact allPlaced_settleTake (placed_of_view freed (view_chapterNotice ..))

/-! ### The render unit -/

theorem allPlaced_renderRestarted {p : Port} {l : Lane} {r : Chapter} (hc : s.chapters[c] = some r)
    (hs : r.state = .rendering) (hl : laneOf s c = some l) (h : (view s).AllPlaced n) :
    (view (renderRestarted p c l s)).AllPlaced n := by
  have state : (view s).state c = some .rendering := by
    have hc : (view s).chapter c = some r := hc
    simp [View.state, hc, hs]
  refine allPlaced_settleTake (allPlaced_beginJob ?_ ?_ ?_)
  · rw [view_clearLane]
    refine (h.others c).setLane (fun d hd => ?_) none
    rw [view_lane_of_laneOf hl] at hd
    exact (Option.some.inj hd).symm
  · intro d hd
    simp [view_clearLane] at hd
  · rw [view_clearLane]
    show (view s).state c ≠ _
    simp [state]

/-- A queue with room takes one entry more. -/
theorem allPlaced_renderQueued {p : Port} (hroom : s.queue.length < Config.queuePlaces)
    (h : (view s).AllPlaced Config.queuePlaces) : (view (renderQueued p c s)).AllPlaced Config.queuePlaces := by
  have tight : (view s).AllPlaced s.queue.length := ⟨by simp [view], h.queued, h.rendering⟩
  exact allPlaced_settleTake ((allPlaced_queueChapter tight c).mono hroom)

theorem allPlaced_renderChapter (p : Port) (params : List Byte) (h : (view s).AllPlaced Config.queuePlaces) :
    (view (renderChapter p params s).state).AllPlaced Config.queuePlaces := by
  unfold renderChapter
  split
  · exact h
  · split
    · exact h
    · split
      · exact h
      · rename_i hc
        split
        · exact h
        · exact h
        · exact h
        · split
          · exact h
          · exact allPlaced_renderRestarted hc (by assumption) (by assumption) h
        · split
          · exact h
          · exact allPlaced_renderQueued (not_le.mp (by assumption)) h

/-- A set adds at most one entry per chapter. -/
theorem allPlaced_queueSet {p : Port} (cs : List ChapterId) (h : (view s).AllPlaced n) :
    (view (queueSet p s cs)).AllPlaced (n + cs.length) := by
  induction cs generalizing s n with
  | nil => exact h
  | cons c rest ih =>
    have first := (consequences_lanesTake _).allPlaced (allPlaced_queueChapter (p := p) (kind := .set) h c)
    rw [List.length_cons, Nat.add_comm rest.length, ← Nat.add_assoc]
    exact ih first

theorem allPlaced_renderSet (p : Port) (params : List Byte) (h : (view s).AllPlaced Config.queuePlaces) :
    (view (renderSet p params s).state).AllPlaced Config.queuePlaces := by
  unfold renderSet
  split
  · exact h
  · split
    · exact h
    · split
      · exact h
      · split
        · exact h
        · have tight : (view s).AllPlaced s.queue.length := ⟨by simp [view], h.queued, h.rendering⟩
          exact allPlaced_settle ((allPlaced_queueSet _ tight).mono (not_lt.mp (by assumption)))

theorem allPlaced_cancelRender (params : List Byte) (h : (view s).AllPlaced n) :
    (view (cancelRender params s).state).AllPlaced n := by
  unfold cancelRender
  split
  · exact h
  · split
    · exact h
    · split
      · exact h
      · rename_i c _ _ _ _ _
        split
        · rw [cancelled_eq]
          exact allPlaced_settleTake (allPlaced_enterState (othersPlaced_offRenderPath h c) (by simp) (by simp))
        · exact h

theorem allPlaced_publish (params : List Byte) (h : (view s).AllPlaced n) :
    (view (publish params s).state).AllPlaced n := by
  unfold publish
  split
  · exact h
  · split
    · exact h
    · split
      · exact h
      · split
        · exact allPlaced_enterState (h.others _) (by simp) (by simp)
        · exact h

theorem allPlaced_collect (params : List Byte) (h : (view s).AllPlaced n) :
    (view (collect params s).state).AllPlaced n := by
  unfold collect
  split
  · exact h
  · split
    · exact h
    · split
      · exact h
      · rename_i c _ _ _ _ _
        split
        · have released := othersPlaced_releaseOutput (h.others c)
          refine allPlaced_settle ?_
          split
          · exact placed_of_view (allPlaced_freeChapter released) (view_chapterNotice ..)
          · exact allPlaced_enterState (othersPlaced_modChapter released) (by simp) (by simp)
        · exact h

/-! ### The capture unit and the ports -/

theorem allPlaced_takeClosedDue (p : Port) (h : (view s).AllPlaced n) : (view (takeClosedDue p s)).AllPlaced n := by
  unfold takeClosedDue
  split
  · exact h
  · split
    · exact placed_of_eq h rfl rfl rfl
    · exact h

theorem allPlaced_stopStream (p : Port) (reason : StopReason) (h : (view s).AllPlaced n) :
    (view (stopStream p reason s)).AllPlaced n := by
  unfold stopStream
  split
  · exact h
  · have shut : (view (modLevel p (fun e => { e with gate := .shut })
        (modStream p (fun st => { st with gate := .shut }) s))).AllPlaced n := placed_of_eq h rfl rfl rfl
    exact allPlaced_takeClosedDue p (placed_of_eq (placed_of_view shut (view_endRun p 1 _)) rfl rfl rfl)

theorem allPlaced_limitStop (p : Port) (reason : StopReason) (h : (view s).AllPlaced n) :
    (view (limitStop p reason s)).AllPlaced n := by
  unfold limitStop
  split
  · exact h
  · exact placed_of_eq (allPlaced_stopStream p reason h) rfl rfl rfl

theorem allPlaced_takeFullDue (p : Port) (h : (view s).AllPlaced n) : (view (takeFullDue p s)).AllPlaced n := by
  unfold takeFullDue
  split
  · exact h
  · split
    · exact allPlaced_limitStop p _ h
    · exact h

theorem allPlaced_positionLimitDue (p : Port) (h : (view s).AllPlaced n) :
    (view (positionLimitDue p s)).AllPlaced n := by
  unfold positionLimitDue
  split
  · exact h
  · split
    · exact allPlaced_limitStop p _ h
    · exact h

theorem allPlaced_sampleArrives (p : Port) (x : Sample) (h : (view s).AllPlaced n) :
    (view (sampleArrives p x s)).AllPlaced n := by
  unfold sampleArrives
  split
  · exact h
  · rename_i st hst
    split
    · exact h
    · have passed : (view (passSample p x s)).AllPlaced n := by
        rcases view_passSample (x := x) (view_stream_of_some hst) with hv | hv
        · exact placed_of_view h hv
        · rw [hv]
          exact h.of_eq (fun _ _ => rfl) rfl rfl
      exact allPlaced_positionLimitDue p (allPlaced_takeFullDue p (placed_of_view passed (view_liveBlockDue ..)))

theorem allPlaced_startTake (p : Port) (params : List Byte) (h : (view s).AllPlaced n) :
    (view (startTake p params s).state).AllPlaced n := by
  unfold startTake
  split
  · exact h
  · split
    · exact h
    · split
      · exact h
      · split
        · exact h
        · split
          · exact h
          · exact placed_of_eq h rfl rfl rfl

theorem allPlaced_setGateValues (p : Port) (params : List Byte) (h : (view s).AllPlaced n) :
    (view (setGateValues p params s).state).AllPlaced n := by
  unfold setGateValues
  dsimp only
  split
  · exact h
  · split
    · exact h
    · exact placed_of_view h (view_setPunch ..)

theorem allPlaced_stopTake (p : Port) (params : List Byte) (h : (view s).AllPlaced n) :
    (view (stopTake p params s).state).AllPlaced n := by
  unfold stopTake
  split
  · exact h
  · split
    · exact h
    · exact allPlaced_settle (allPlaced_stopStream p _ h)

theorem allPlaced_retireTake (params : List Byte) (h : (view s).AllPlaced n) :
    (view (retireTake params s).state).AllPlaced n := by
  unfold retireTake
  split
  · exact h
  · split
    · exact h
    · split
      · exact h
      · split
        · exact h
        · split
          · exact h
          · refine allPlaced_settle ?_
            rw [view_freeTake]
            exact h.of_eq (fun _ _ => rfl) rfl rfl

theorem allPlaced_streamOpen (p : Port) (params : List Byte) (h : (view s).AllPlaced n) :
    (view (streamOpen p params s).state).AllPlaced n := by
  have opens (src : StreamSource) (length offset : Nat) (title : TitleNo) :
      (view (openReply p src length offset title s).state).AllPlaced n :=
    allPlaced_settle (placed_of_view h (view_dropStream ..))
  unfold streamOpen
  split
  · exact h
  · split
    · split
      · exact h
      · unfold openOutput
        split
        · exact h
        · split
          · exact h
          · exact opens ..
    · split
      · exact h
      · unfold openTakeStream
        split
        · exact h
        · split
          · exact opens ..
          · exact h
    · exact h

theorem allPlaced_streamClose (p : Port) (params : List Byte) (h : (view s).AllPlaced n) :
    (view (streamClose p params s).state).AllPlaced n := by
  unfold streamClose
  split
  · exact h
  · exact placed_of_view h (view_dropStream ..)

theorem allPlaced_subscribe (p : Port) (params : List Byte) (h : (view s).AllPlaced n) :
    (view (subscribe p params s).state).AllPlaced n := by
  unfold subscribe
  dsimp only
  split <;> exact h

theorem allPlaced_writeProfile (params : List Byte) (h : (view s).AllPlaced n) :
    (view (writeProfile params s).state).AllPlaced n := by
  unfold writeProfile
  split
  · exact h
  · split <;> exact h

/-! ### The purge (R84) -/

/-- A chapter in use is PUBLISHED. -/
def PublishedOrFree (c : ChapterId) (s : State) : Prop := ∀ st, (view s).state c = some st → st = .published

theorem state_clearScript (c d : ChapterId) (s : State) : (view (clearScript c s)).state d = (view s).state d := by
  rw [clearScript, view_modChapter, state_setChapter]
  have kept (d : ChapterId) : (view (releaseReferences c s)).state d = (view s).state d := by
    simp [View.state, view]
  split
  · rename_i hd
    rw [hd, ← kept c]
    simp [View.state, Function.comp_def]
  · exact kept d

/-- A purge of one chapter leaves the others' states. -/
theorem state_purgeChapter {c d : ChapterId} (hd : d ≠ c) (s : State) :
    (view (purgeChapter s c)).state d = (view s).state d := by
  unfold purgeChapter
  split
  · rfl
  · split
    · exact state_clearScript c d s
    · rw [state_freeChapter hd]
      have kept (u : State) : (view (releaseReferences c u)).state d = (view u).state d := by
        simp [View.state, view]
      rw [kept, view_releaseOutput, state_setChapter, if_neg hd, View.state, chapter_abortJobOf]
      rfl

theorem publishedOrFree_purgeChapter (s : State) (c : ChapterId) : PublishedOrFree c (purgeChapter s c) := by
  intro st hst
  unfold purgeChapter at hst
  split at hst
  · rename_i hc
    have hc : (view s).chapter c = none := hc
    simp [View.state, hc] at hst
  · rename_i r hc
    have hc : (view s).chapter c = some r := hc
    split at hst
    · rename_i hs
      rw [state_clearScript, View.state, hc, Option.map_some, hs] at hst
      exact (Option.some.inj hst).symm
    · rw [state_freeChapter_self] at hst
      cases hst

/-- A purge leaves no chapter but PUBLISHED ones, and an empty queue (R84). -/
theorem purgeRecords_published (s : State) :
    (view (purgeRecords s)).queue = [] ∧ ∀ c, PublishedOrFree c (purgeRecords s) := by
  have queue : (view ((List.finRange 64).foldl purgeChapter (setQueue [] s))).queue = [] :=
    List.foldlRecOn (List.finRange 64) purgeChapter (motive := fun u => (view u).queue = []) rfl
      fun _ hu c _ => (path_purgeChapter (H := False) c (fun h => h.elim) hu).2
  have published := foldl_establishes (Q := PublishedOrFree) publishedOrFree_purgeChapter (fun u c d h => by
    by_cases hd : c = d
    · exact hd ▸ publishedOrFree_purgeChapter u c
    · intro st hst
      exact h st (state_purgeChapter hd u ▸ hst)) (List.finRange 64) (setQueue [] s)
  have records : (view (purgeRecords s)).queue = [] ∧ (view (purgeRecords s)).chapter =
      (view ((List.finRange 64).foldl purgeChapter (setQueue [] s))).chapter := by
    unfold purgeRecords
    generalize (List.finRange 64).foldl purgeChapter (setQueue [] s) = w at queue ⊢
    dsimp only
    rw [purgeTitles_frame]
    generalize hu : (List.finRange 128).foldl (fun s t => freeTake t s) _ = u
    have kept : ∀ v, (view { u with titles := v }).queue = (view u).queue ∧
        (view { u with titles := v }).chapter = (view u).chapter := fun _ => ⟨rfl, rfl⟩
    rw [(kept _).1, (kept _).2, ← hu, view_freeTakes, view_purgeStreams]
    simp only [allLanes, List.foldl_cons, List.foldl_nil, view_clearLane]
    exact ⟨queue, rfl⟩
  refine ⟨records.1, fun c st hst => published c (List.mem_finRange c) st ?_⟩
  rwa [View.state, records.2] at hst

theorem allPlaced_purge (params : List Byte) (h : (view s).AllPlaced n) :
    (view (purge params s).state).AllPlaced n := by
  unfold purge
  split
  · exact h
  · obtain ⟨queue, published⟩ := purgeRecords_published s
    refine allPlaced_settle ?_
    rw [view_purgeNotices]
    exact ⟨by simp [queue], fun c _ hc => absurd (published c _ hc) (by simp),
      fun c _ hc => absurd (published c _ hc) (by simp)⟩

end Sys2Proof.Machine

/-! The law of the queue under transactions, the steps of the lanes and the store, and the two resets. -/

namespace Sys2Proof.Machine

open View

variable {s t u : State} {n : Nat}

/-- A transaction row leaves the catalogue, the queue and the lanes as they are. -/
def SameView (s : State) (a : Answer) : Prop := ∀ t, a = .next t → view t = view s

theorem sameView_next (h : view t = view s) : SameView s (.next t) := by
  rintro _ ⟨⟩
  exact h

theorem sameView_transact {p : Port} {sent : State → List Byte} {act : State → State}
    (h : ∀ u, view (act u) = view u) : SameView s (transact p sent act s) :=
  sameView_next (by rw [view_attend, h, view_setSent, view_ended])

theorem sameView_later {α : Type} {p : Port} {kind : Byte} {kept : Transfer → Option α} {opening : State → State}
    {act : α → State → State} (ho : ∀ u, view (opening u) = view u) (h : ∀ a u, view (act a u) = view u) :
    SameView s (later p kind kept opening act s) := by
  unfold later
  split
  · exact sameView_next rfl
  · split
    · exact sameView_next (by rw [view_attend, h])
    · dsimp only
      split
      · exact sameView_next (by rw [view_attend, h, ho])
      · exact sameView_next (ho s)

theorem sameView_attention (p : Port) (m : Nat) (effect : PortState → PortState) (s : State) :
    SameView s (attention p m effect s) := sameView_later (fun u => view_opened _ _ u) fun _ _ => rfl

/-- The rows of the port's transactions. -/
inductive TransactionRow : Instr → Prop where
  | request (p : Port) (m : Moment (List Byte)) : TransactionRow (.request p m)
  | fetch (p : Port) (m : Moment Nat) : TransactionRow (.fetch p m)
  | notices (p : Port) : TransactionRow (.notices p)
  | noticeRecordSent (p : Port) : TransactionRow (.noticeRecordSent p)
  | capture (p : Port) (m : Moment Byte) : TransactionRow (.capture p m)
  | captureEnd (rise : CaptureRise) : TransactionRow (.captureEnd rise)
  | streamData (p : Port) : TransactionRow (.streamData p)
  | streamDataEnd (p : Port) : TransactionRow (.streamDataEnd p)
  | attentionRead (p : Port) (m : Moment Nat) : TransactionRow (.attentionRead p m)
  | attentionClear (p : Port) (value : Byte) (m : Nat) : TransactionRow (.attentionClear p value m)
  | attentionMask (p : Port) (value : Byte) (m : Nat) : TransactionRow (.attentionMask p value m)
  | attentionMode (p : Port) (value : Byte) (m : Nat) : TransactionRow (.attentionMode p value m)
  | ignored (p : Port) (tb : Byte) (m : Nat) : TransactionRow (.ignoredTransaction p tb m)

theorem TransactionRow.sameView {i : Instr} (h : TransactionRow i) (s : State) : SameView s (exec i s) := by
  cases h with
  | request p m =>
    cases m with
    | opens => exact sameView_next (view_opened ..)
    | acts bytes => exact sameView_later (fun u => view_opened _ _ u) fun _ u => by simp [endRequest]
  | fetch p m =>
    show SameView s (execFetch p m s)
    cases m with
    | opens => exact sameView_next (view_opened ..)
    | acts m => exact sameView_later (fun u => view_opened _ _ u) fun _ _ => rfl
  | notices p =>
    show SameView s (execNotices p s)
    unfold execNotices
    exact sameView_transact fun u => view_setTransfer p _ u
  | noticeRecordSent p =>
    show SameView s (execNoticeRecordSent p s)
    unfold execNoticeRecordSent
    split
    · exact sameView_next (by rw [view_attend, view_modPort])
    · exact sameView_next rfl
  | capture p m =>
    cases m with
    | opens => exact sameView_next (view_opened ..)
    | acts count => exact sameView_later (fun u => view_opened _ _ u) fun _ _ => rfl
  | captureEnd rise =>
    show SameView s (execCaptureEnd rise s)
    unfold execCaptureEnd
    dsimp only
    split
    · exact sameView_next (by rw [view_attend, view_endTransaction])
    · exact sameView_next (by rw [view_attend, view_endTransaction, view_modPort])
    · split <;> exact sameView_next rfl
  | streamData p =>
    show SameView s (execStreamData p s)
    unfold execStreamData
    exact sameView_transact fun u => view_setTransfer p _ u
  | streamDataEnd p =>
    show SameView s (execStreamDataEnd p s)
    unfold execStreamDataEnd
    split
    · exact sameView_next (by rw [view_attend, view_setTransfer])
    · split <;> exact sameView_next rfl
  | attentionRead p m =>
    cases m with
    | opens => exact sameView_next (view_opened ..)
    | acts m => exact sameView_attention p m _ s
  | attentionClear p value m => exact sameView_attention p m _ s
  | attentionMask p value m => exact sameView_attention p m _ s
  | attentionMode p value m => exact sameView_attention p m _ s
  | ignored p tb m =>
    show SameView s (execIgnoredTransaction p tb m s)
    unfold execIgnoredTransaction
    exact sameView_transact fun _ => rfl

/-! ### Requests -/

/-- Each block keeps every chapter in its place. -/
theorem allPlaced_block {i : Instr} {p : Port} {k : ReqKind} {ps : List Byte} {act : State → Reply}
    (hi : requestRow i = some (p, k, ps, act)) (h : (view s).AllPlaced Config.queuePlaces) :
    (view (act s).state).AllPlaced Config.queuePlaces := by
  cases i <;> cases hi
  case titleDefine => exact allPlaced_defineTitle _ h
  case titleDrop => exact allPlaced_dropTitle _ h
  case titleProfile => exact allPlaced_setTitleProfile _ h
  case titleInfo => rw [reportTitle_state]; exact h
  case chapterCreate => exact allPlaced_createChapter _ _ h
  case chapterOpen => exact allPlaced_openChapter _ _ h
  case chapterClose => exact allPlaced_closeChapter _ _ h
  case chapterDiscard => exact allPlaced_discardChapter _ _ h
  case chapterMove => exact allPlaced_moveChapter _ h
  case chapterInfo => rw [reportChapter_state]; exact h
  case takeStart => exact allPlaced_startTake _ _ h
  case gateSet => exact allPlaced_setGateValues _ _ h
  case takeStop => exact allPlaced_stopTake _ _ h
  case takeRetire => exact allPlaced_retireTake _ h
  case takeInfo => rw [reportTake_state]; exact h
  case levels => rw [reportLevels_state]; exact h
  case scriptPoint => exact allPlaced_pointScript _ _ h
  case scriptWrite => exact allPlaced_writeScript _ _ h
  case scriptRead => exact allPlaced_readScript _ _ h
  case storeInfo => rw [reportStore_state]; exact h
  case purge => exact allPlaced_purge _ h
  case render => exact allPlaced_renderChapter _ _ h
  case renderSet => exact allPlaced_renderSet _ _ h
  case renderCancel => exact allPlaced_cancelRender _ h
  case queueInfo => rw [reportQueue_state]; exact h
  case publish => exact allPlaced_publish _ h
  case collect => exact allPlaced_collect _ h
  case profileSet => exact allPlaced_writeProfile _ h
  case profileGet => rw [readProfile_state]; exact h
  case streamOpen => exact allPlaced_streamOpen _ _ h
  case streamClose => exact allPlaced_streamClose _ _ h
  case subscribe => exact allPlaced_subscribe _ _ h
  case deviceInfo => rw [deviceInfo_state]; exact h

end Sys2Proof.Machine

namespace Sys2Proof.Machine

open View

variable {s t u : State} {n : Nat}

/-- A command's answer, where it is a next state, has every chapter in its place. -/
def AnswerPlaced (a : Answer) : Prop := ∀ t, a = .next t → (view t).AllPlaced Config.queuePlaces

theorem answerPlaced_next (h : (view t).AllPlaced Config.queuePlaces) : AnswerPlaced (.next t) := by
  rintro _ ⟨⟩
  exact h

theorem answerPlaced_commit {b : State} (h : (view t).AllPlaced Config.queuePlaces) :
    AnswerPlaced (.next (commit b t)) :=
  answerPlaced_next (placed_of_view (allPlaced_settle h) (view_commit_eq b t))

theorem answerPlaced_sameView {a : Answer} (hs : SameView s a) (h : (view s).AllPlaced Config.queuePlaces) :
    AnswerPlaced a := fun t ht => placed_of_view h (hs t ht)

/-- A request row is the work of its block, on this state or on one with the same catalogue (R185). -/
theorem answerPlaced_request {i : Instr} {p : Port} {k : ReqKind} {ps : List Byte} {act : State → Reply}
    (hi : requestRow i = some (p, k, ps, act)) (h : (view s).AllPlaced Config.queuePlaces) :
    AnswerPlaced (exec i s) := by
  have served {u : State} {discard : Bool} (hu : view u = view s) :
      (view (attend u (answer p k discard (act u)))).AllPlaced Config.queuePlaces := by
    rw [view_attend, view_answer]
    exact allPlaced_block hi (placed_of_view h hu)
  have whole : view (wholeRequest p (requestBytes k ps) s) = view s := view_wholeRequest ..
  rw [exec_requestRow hi]
  unfold request
  split
  · split
    · exact answerPlaced_next (served rfl)
    · exact answerPlaced_next (placed_of_view h whole)
  · dsimp only
    split
    · exact answerPlaced_next (served whole)
    · exact answerPlaced_next (placed_of_view h whole)

/-! ### The lanes and the store -/

theorem answerPlaced_measureSample (l : Lane) (h : (view s).AllPlaced Config.queuePlaces) :
    AnswerPlaced (execMeasureSample l s) := by
  unfold execMeasureSample
  split
  · exact answerPlaced_next h
  · split
    · split
      · exact answerPlaced_next h
      · exact answerPlaced_commit ((consequences_measureEndDue l _).allPlaced
          (placed_of_view h (view_modJob_same s l fun _ => rfl)))
    · exact answerPlaced_next h

theorem answerPlaced_meterBlock (l : Lane) (h : (view s).AllPlaced Config.queuePlaces) :
    AnswerPlaced (execMeterBlock l s) :=
  answerPlaced_commit (placed_of_view h (view_modJob_same s l fun j => by
    unfold blockMeasured
    split <;> rfl))

theorem answerPlaced_encodeFrame (l : Lane) (h : (view s).AllPlaced Config.queuePlaces) :
    AnswerPlaced (execEncodeFrame l s) := by
  unfold execEncodeFrame
  split
  · exact answerPlaced_next h
  · split
    · exact answerPlaced_commit ((consequences_encodeEndDue l _).allPlaced
        (placed_of_view h (view_modJob_same s l fun _ => rfl)))
    · exact answerPlaced_next h

theorem answerPlaced_pageReadComplete (h : (view s).AllPlaced Config.queuePlaces) :
    AnswerPlaced (execPageReadComplete s) := by
  unfold execPageReadComplete
  split
  · refine answerPlaced_commit ?_
    split
    · exact h
    · exact placed_of_view h (view_deliverPage _ _ (freeArray s))
  · exact answerPlaced_next h

theorem answerPlaced_capturePageProgrammed (h : (view s).AllPlaced Config.queuePlaces) :
    AnswerPlaced (execCapturePageProgrammed s) := by
  unfold execCapturePageProgrammed
  split
  · split
    · rename_i i _ _ p gone _ slot bytes _
      have programmed : (view (endProgram i slot bytes s)).AllPlaced Config.queuePlaces := h
      refine answerPlaced_commit ?_
      split
      · exact programmed
      · exact allPlaced_takeClosedDue p programmed
    · exact answerPlaced_next h
  · exact answerPlaced_next h

/-- A job that ends leaves its lane, and its chapter is RENDERED or REJECTED (R102). -/
theorem allPlaced_jobEnd (l : Lane) (h : (view s).AllPlaced n) : (view (jobEnd l s)).AllPlaced n := by
  cases hj : s.lanes[l] with
  | none => simpa only [jobEnd, hj] using h
  | some j =>
    cases hf : j.finishing with
    | none => simpa only [jobEnd, hj, hf] using h
    | some f =>
      have left : (view (setLane l none s)).OthersPlaced j.chapter n := by
        rw [view_setLane]
        refine (h.others _).setLane (fun d hd => ?_) _
        rw [view_lane_of_some hj] at hd
        exact (Option.some.inj hd).symm
      have written (g : ResultGroup) : (view (writeResult j.chapter g (setLane l none s))).OthersPlaced j.chapter n :=
        othersPlaced_modChapter left
      rw [jobEnd_eq hj hf]
      refine (consequences_lanesTake _).allPlaced ?_
      unfold jobLeft
      split <;> exact allPlaced_enterState (written _) (by simp) (by simp)

theorem answerPlaced_outputPageProgrammed (h : (view s).AllPlaced Config.queuePlaces) :
    AnswerPlaced (execOutputPageProgrammed s) := by
  unfold execOutputPageProgrammed
  split
  · split
    · rename_i i _ _ l gone page slot bytes _
      have programmed : (view (endProgram i slot bytes s)).AllPlaced Config.queuePlaces := h
      refine answerPlaced_commit ?_
      split
      · exact allPlaced_jobEnd l programmed
      · exact programmed
    · exact answerPlaced_next h
  · exact answerPlaced_next h

theorem answerPlaced_backgroundEraseComplete (h : (view s).AllPlaced Config.queuePlaces) :
    AnswerPlaced (execBackgroundEraseComplete s) := by
  have begun : (view (started s)).AllPlaced Config.queuePlaces := (turns_started s).consequences.allPlaced h
  unfold execBackgroundEraseComplete
  dsimp only
  split
  · exact answerPlaced_commit begun
  · exact answerPlaced_next h

theorem answerPlaced_builtInEraseComplete (h : (view s).AllPlaced Config.queuePlaces) :
    AnswerPlaced (execBuiltInEraseComplete s) := by
  unfold execBuiltInEraseComplete
  split
  · rename_i b src gone _
    have erased : (view (endErase b s)).AllPlaced Config.queuePlaces := h
    refine answerPlaced_commit ?_
    split
    · exact erased
    · exact (consequences_appendBlock src b _).allPlaced erased
  · exact answerPlaced_next h

theorem answerPlaced_pageLoad (h : (view s).AllPlaced Config.queuePlaces) : AnswerPlaced (execPageLoad s) := by
  unfold execPageLoad
  split
  · exact answerPlaced_commit ((consequences_loadDue (by assumption)).allPlaced h)
  · exact answerPlaced_next h

theorem answerPlaced_waitingAllocationServed (h : (view s).AllPlaced Config.queuePlaces) :
    AnswerPlaced (execWaitingAllocationServed s) := by
  unfold execWaitingAllocationServed
  split
  · exact answerPlaced_commit ((consequences_waitingDue (by assumption)).allPlaced h)
  · exact answerPlaced_next h

/-! ### Samples, stream bytes and the resets -/

theorem answerPlaced_captureSample (p : Port) (x : Byte × Byte × Byte) (h : (view s).AllPlaced Config.queuePlaces) :
    AnswerPlaced (execCaptureSample p x s) := by
  unfold execCaptureSample
  split
  · rename_i free announced arrived _ _ _
    have counted : (view (countSample p (capturingStream s p).isNone (modPort p (clockCapture free 3) s))).AllPlaced
        Config.queuePlaces := h
    dsimp only
    split
    · exact answerPlaced_commit (allPlaced_sampleArrives p _ counted)
    · exact answerPlaced_next h
  · exact answerPlaced_next h

theorem answerPlaced_dataByteDelivered (p : Port) (h : (view s).AllPlaced Config.queuePlaces) :
    AnswerPlaced (execDataByteDelivered p s) := by
  unfold execDataByteDelivered
  split
  · exact answerPlaced_commit h
  · exact answerPlaced_next h

theorem allPlaced_takeOwnRequest (p : Port) (h : (view s).AllPlaced n) : (view (takeOwnRequest p s)).AllPlaced n := by
  unfold takeOwnRequest
  split
  · split
    · have served (k : ReqKind) (ps : List Byte) : (view (portServes p k ps s)).AllPlaced n := by
        unfold portServes
        split
        · exact allPlaced_subscribe p ps h
        · rw [deviceInfo_state]; exact h
        · exact allPlaced_streamOpen p ps h
        · exact allPlaced_streamClose p ps h
        · exact h
      exact served _ _
    · exact h
  · exact h

theorem allPlaced_resetCapture (p : Port) (h : (view s).AllPlaced n) : (view (resetCapture p s)).AllPlaced n := by
  unfold resetCapture
  split
  · split
    · exact h
    · exact allPlaced_stopStream p _ h
  · exact h

theorem allPlaced_releaseClaims (p : Port) (h : (view s).AllPlaced n) : (view (releaseClaims p s)).AllPlaced n :=
  List.foldlRecOn (List.finRange 64) _ (motive := fun u => (view u).AllPlaced n) h
    fun _ hu _ _ => placed_modChapter (fun r => by split <;> rfl) hu

theorem answerPlaced_portReset (p : Port) (extra : Nat) (h : (view s).AllPlaced Config.queuePlaces) :
    AnswerPlaced (execPortReset p extra s) := by
  unfold execPortReset
  split
  · refine answerPlaced_commit (allPlaced_releaseClaims p (allPlaced_resetCapture p ?_))
    have dropped (u : State) : view (dropStream p .idle (modPort p resetPort u)) = view u := rfl
    rw [dropped]
    exact allPlaced_takeOwnRequest p (placed_of_view h (view_ended p s))
  · exact answerPlaced_sameView (sameView_transact fun _ => rfl) h

theorem answerPlaced_deviceReset (s : State) : AnswerPlaced (execDeviceReset s) := by
  refine answerPlaced_next (allPlaced_settle ?_)
  rw [view_reset]
  exact ⟨Nat.zero_le _, fun _ _ hc => by simp [View.state, View.empty] at hc,
    fun _ _ hc => by simp [View.state, View.empty] at hc⟩

/-! ### Every command -/

/-- Every command keeps every chapter in its place. -/
theorem answerPlaced_exec (i : Instr) (h : (view s).AllPlaced Config.queuePlaces) : AnswerPlaced (exec i s) := by
  have transaction (hi : TransactionRow i) : AnswerPlaced (exec i s) := answerPlaced_sameView (hi.sameView s) h
  cases i with
  | request p m => exact transaction (.request p m)
  | fetch p m => exact transaction (.fetch p m)
  | notices p => exact transaction (.notices p)
  | noticeRecordSent p => exact transaction (.noticeRecordSent p)
  | capture p m => exact transaction (.capture p m)
  | captureSample p x => exact answerPlaced_captureSample p x h
  | captureEnd rise => exact transaction (.captureEnd rise)
  | takeFull p => exact answerPlaced_commit (allPlaced_takeFullDue p h)
  | positionLimit p => exact answerPlaced_commit (allPlaced_positionLimitDue p h)
  | takeClosed p => exact answerPlaced_commit (allPlaced_takeClosedDue p h)
  | liveBlock p => exact answerPlaced_commit (placed_of_view h (view_liveBlockDue p s))
  | streamData p => exact transaction (.streamData p)
  | dataByteDelivered p => exact answerPlaced_dataByteDelivered p h
  | streamDataEnd p => exact transaction (.streamDataEnd p)
  | attentionRead p m => exact transaction (.attentionRead p m)
  | attentionClear p value m => exact transaction (.attentionClear p value m)
  | attentionMask p value m => exact transaction (.attentionMask p value m)
  | attentionMode p value m => exact transaction (.attentionMode p value m)
  | portReset p extra => exact answerPlaced_portReset p extra h
  | ignoredTransaction p tb m => exact transaction (.ignored p tb m)
  | deviceReset => exact answerPlaced_deviceReset s
  | pageReadComplete => exact answerPlaced_pageReadComplete h
  | capturePageProgrammed => exact answerPlaced_capturePageProgrammed h
  | outputPageProgrammed => exact answerPlaced_outputPageProgrammed h
  | backgroundEraseComplete => exact answerPlaced_backgroundEraseComplete h
  | builtInEraseComplete => exact answerPlaced_builtInEraseComplete h
  | pageLoad => exact answerPlaced_pageLoad h
  | waitingAllocationServed => exact answerPlaced_waitingAllocationServed h
  | measureSample l => exact answerPlaced_measureSample l h
  | meterBlock l => exact answerPlaced_meterBlock l h
  | measureEnd l => exact answerPlaced_commit ((consequences_measureEndDue l s).allPlaced h)
  | encodeFrame l => exact answerPlaced_encodeFrame l h
  | encodeEnd l => exact answerPlaced_commit ((consequences_encodeEndDue l s).allPlaced h)
  | _ => exact answerPlaced_request rfl h

/-- Settles O44: the chain of changes keeps what is held in its state, and each command keeps every chapter of the render
path in its place. -/
theorem stepKeepsQueueLaw : Obligations.StepKeepsQueueLaw := by
  unfold Obligations.StepKeepsQueueLaw
  intro s t hs hstep
  obtain ⟨held, placed⟩ := queueLaw_iff.mp hs
  refine queueLaw_iff.mpr ⟨(path_step_of_queueLaw hs hstep).heldLaw trivial held, ?_⟩
  obtain rfl | ⟨i, rest, -, hexec, -⟩ := step_cases (H := True) (fun _ => held) hstep
  · exact placed
  · exact answerPlaced_exec (s := { s with pending := rest }) i placed t hexec

end Sys2Proof.Machine

/-! RENDER and RENDER_SET at the render unit (R90, R91). -/

namespace Sys2Proof.Machine

variable {s t : State} {p : Port} {c : ChapterId} {r : Chapter}

/-! ### RENDER -/

/-- RENDER on a chapter's record is decided by its state alone where the chapter may not be queued. -/
theorem renderChapter_refuses {e : Result} (h : s.chapters[c] = some r)
    (he : r.state = .published ∧ e = .locked ∨ r.state = .assembling ∧ e = .wrongState ∨
      r.state = .queued ∧ e = .alreadyQueued) : renderChapter p (u8 c.val) s = refuse e s := by
  obtain ⟨hs, rfl⟩ | ⟨hs, rfl⟩ | ⟨hs, rfl⟩ := he <;> simp [renderChapter, h, hs]

/-- RENDER on a chapter that may be queued: the queue's places decide. -/
theorem renderChapter_queues (h : s.chapters[c] = some r)
    (hs : r.state = .ready ∨ r.state = .rendered ∨ r.state = .rejected) :
    renderChapter p (u8 c.val) s =
      if Config.queuePlaces ≤ s.queue.length then refuse .queueFull s
      else accept (u8 (stateCode (renderQueued p c s) c) ++ u8 (queuePlace (renderQueued p c s) c))
        (renderQueued p c s) := by
  obtain hs | hs | hs := hs <;> simp [renderChapter, h, hs]

/-- RENDER on the chapter of a running job. -/
theorem renderChapter_restarts {l : Lane} (h : s.chapters[c] = some r) (hs : r.state = .rendering)
    (hl : laneOf s c = some l) : renderChapter p (u8 c.val) s =
      ⟨renderRestarted p c l s, .restarted, u8 (stateCode (renderRestarted p c l s) c) ++ u8 l.val⟩ := by
  simp [renderChapter, h, hs, hl]

/-- Settles O25: a row for each state of the chapter's record. -/
theorem renderRequest : Obligations.RenderRequest := by
  unfold Obligations.RenderRequest
  intro s p c htakes
  have refuses {r : Chapter} {e : Result} (h : s.chapters[c] = some r) he :
      exec (.render p (u8 c.val)) s = Refuses p .render e s :=
    request_refuses htakes (renderChapter_refuses (p := p) h he)
  refine ⟨fun h => request_refuses htakes (by simp [renderChapter, h]), fun r h =>
    ⟨fun hs => refuses h (.inl ⟨hs, rfl⟩), fun hs => refuses h (.inr (.inl ⟨hs, rfl⟩)),
      fun hs => refuses h (.inr (.inr ⟨hs, rfl⟩)), fun hs => ⟨fun full => ?_, fun room => ?_⟩, ?_⟩⟩
  · exact request_refuses htakes ((renderChapter_queues h hs).trans (if_pos full))
  · exact ⟨_, renderQueued p c s, rfl, rfl,
      request_accepts htakes ((renderChapter_queues h hs).trans (if_neg (Nat.not_le.mpr room)))⟩
  · rintro l _ hs hl rfl
    exact (request_takes htakes _).trans (by rw [renderChapter_restarts h hs hl]; rfl)

/-! ### RENDER_SET -/

/-- The index of the first id above 63 (R89). -/
theorem setIds_error {b : Byte} {ps : List Byte} {i : Nat} (n : Nat) (hb : ps[i]? = some b) (h : 63 < b.toNat)
    (below : ∀ j x, j < i → ps[j]? = some x → x.toNat ≤ 63) : setIds n ps = .error (n + i) := by
  induction ps generalizing i n with
  | nil => simp at hb
  | cons x ps ih =>
    cases i with
    | zero =>
      obtain rfl : x = b := by simpa using hb
      rw [setIds, inTable_eq_none.mpr (by omega)]
      rfl
    | succ i =>
      have hx : x.toNat < 64 := Nat.lt_succ_of_le (below 0 x (by omega) rfl)
      rw [setIds, inTable, dif_pos hx]
      dsimp only
      rw [ih (n + 1) hb fun j y hj hy => below (j + 1) y (by omega) hy]
      simp [Nat.add_right_comm, Nat.add_assoc]

/-- The ids of a set read as they were written. -/
theorem setIds_u8 (n : Nat) (cs : List ChapterId) : setIds n (cs.flatMap fun c => u8 c.val) = .ok cs := by
  induction cs generalizing n with
  | nil => rfl
  | cons c cs ih =>
    rw [List.flatMap_cons, u8, List.singleton_append, setIds, toNat_ofNat_byte (by omega), inTable_val]
    simp only [ih]

/-- The first chapter in list order that fails its check. -/
theorem setFault_fails {before cs : List ChapterId} {i : Nat} {e : Result} (hc : cs[i]? = some c)
    (he : setCheck s (before ++ cs.take i) c = some e)
    (below : ∀ j d, j < i → cs[j]? = some d → setCheck s (before ++ cs.take j) d = none) :
    setFault s before cs = some (before.length + i, e) := by
  induction cs generalizing before i with
  | nil => simp at hc
  | cons d cs ih =>
    cases i with
    | zero =>
      obtain rfl : d = c := by simpa using hc
      rw [List.take_zero, List.append_nil] at he
      simp [setFault, he]
    | succ i =>
      have passed : setCheck s before d = none := by simpa using below 0 d (by omega) rfl
      rw [setFault, passed]
      dsimp only
      rw [ih hc (by simpa using he) fun j x hj hx => by simpa using below (j + 1) x (by omega) hx]
      rw [List.length_append, List.length_singleton, Nat.add_assoc, Nat.add_comm 1]

/-- A set whose chapters all pass their checks has no fault. -/
theorem setFault_passes {before cs : List ChapterId}
    (all : ∀ j d, cs[j]? = some d → setCheck s (before ++ cs.take j) d = none) : setFault s before cs = none := by
  induction cs generalizing before with
  | nil => rfl
  | cons d cs ih =>
    have passed : setCheck s before d = none := by simpa using all 0 d rfl
    rw [setFault, passed]
    exact ih fun j x hx => by simpa using all (j + 1) x hx

theorem length_ids (cs : List ChapterId) : (cs.flatMap fun c => u8 c.val).length = cs.length := by
  simp [List.length_flatMap]

/-- A set with a fault is refused with its index. -/
theorem renderSet_fails {cs : List ChapterId} {i : Nat} {e : Result} (h1 : 1 ≤ cs.length) (h4 : cs.length ≤ 4)
    (h : setFault s [] cs = some (i, e)) : renderSet p (cs.flatMap fun c => u8 c.val) s = ⟨s, e, u8 i⟩ := by
  have length := length_ids cs
  rw [renderSet, if_neg (by omega), setIds_u8]
  simp only [h]

/-- A set without a fault: the queue's places decide. -/
theorem renderSet_queues {cs : List ChapterId} (h1 : 1 ≤ cs.length) (h4 : cs.length ≤ 4)
    (h : setFault s [] cs = none) : renderSet p (cs.flatMap fun c => u8 c.val) s =
      if Config.queuePlaces < s.queue.length + cs.length then
        ⟨s, .queueFull, u8 (Config.queuePlaces - s.queue.length)⟩
      else accept (u8 cs.length) (settle (queueSet p s cs)) := by
  have length := length_ids cs
  rw [renderSet, if_neg (by omega), setIds_u8]
  simp only [h]

theorem setCheck_named {before : List ChapterId} (h : c ∈ before) : setCheck s before c = some .badParam := by
  simp [setCheck, h]

theorem setCheck_free {before : List ChapterId} (hb : c ∉ before) (h : s.chapters[c] = none) :
    setCheck s before c = some .noRecord := by
  simp [setCheck, hb, h]

/-- Settles O26: the first id above 63 and the first chapter that fails are the ones the scans find. -/
theorem renderSetRequest : Obligations.RenderSetRequest := by
  refine ⟨fun s before c => ⟨setCheck_named, setCheck_free, fun r hb h => ⟨?_, ?_, ?_, ?_, ?_⟩⟩, ?_, ?_⟩
  · exact fun hs => by simp [setCheck, hb, h, hs]
  · exact fun hs => by simp [setCheck, hb, h, hs]
  · exact fun hs => by simp [setCheck, hb, h, hs]
  · exact fun hs => by simp [setCheck, hb, h, hs]
  · rintro (hs | hs | hs) <;> simp [setCheck, hb, h, hs]
  · intro s p ps i b htakes h1 h4 hb h63 below
    refine (request_takes htakes _).trans ?_
    rw [renderSet, if_neg (by omega), setIds_error 0 hb h63 below, Nat.zero_add]
  · rintro s p cs _ rfl h1 h4 htakes
    refine ⟨fun i c e hc he below => (request_takes htakes _).trans ?_, fun all =>
      ⟨fun full => (request_takes htakes _).trans ?_, fun room => request_accepts htakes ?_⟩⟩
    · rw [renderSet_fails h1 h4 (setFault_fails (before := []) hc he below), List.length_nil, Nat.zero_add]
    · rw [(renderSet_queues h1 h4 (setFault_passes (before := []) all)).trans (if_pos full)]
      rfl
    · exact (renderSet_queues h1 h4 (setFault_passes (before := []) all)).trans (if_neg (Nat.not_lt.mpr room))

end Sys2Proof.Machine

/-! A job's start, its abort and its end (R88, R97, R102, R104, R105, R168). -/

namespace Sys2Proof.Machine

variable {s t : State} {l : Lane} {c : ChapterId} {r : Chapter} {j : Job} {origin : Port}

/-! ### Idle lanes and the head entry (R88) -/

theorem idleLane_eq_some (h : s.lanes[l] = none) (below : ∀ k, k < l → s.lanes[k] ≠ none) : idleLane s = some l := by
  have idle : s.lanes[l].isNone = true := by rw [h]; rfl
  unfold idleLane allLanes
  obtain rfl | rfl := (by decide : ∀ l : Lane, l = 0 ∨ l = 1) l
  · rw [List.find?_cons, idle]
  · have busy : s.lanes[(0 : Lane)].isNone = false :=
      Option.isNone_eq_false_iff.mpr (Option.isSome_iff_ne_none.mpr (below 0 (by decide)))
    rw [List.find?_cons, busy, List.find?_cons, idle]

theorem idleLane_eq_none (h : ∀ l : Lane, s.lanes[l] ≠ none) : idleLane s = none := by
  simpa [idleLane, Option.isNone_iff_eq_none] using fun l _ => h l

theorem beginJob_queue (l : Lane) (c : ChapterId) (origin : Port) (s : State) :
    (beginJob l c origin s).queue = s.queue := by
  unfold beginJob
  split
  · rfl
  · dsimp only
    split <;> rfl

/-- The lowest idle lane takes the head entry, and lanes go on with the rest. -/
theorem lanesTake_cons {e : Entry} {rest : List Entry} (hl : idleLane s = some l) (hq : s.queue = e :: rest) :
    lanesTake s =
      lanesTake (beginJob l e.chapter e.origin (enterState e.chapter .rendering .started (setQueue rest s))) := by
  have queue : (beginJob l e.chapter e.origin
      (enterState e.chapter .rendering .started (setQueue rest s))).queue = rest := beginJob_queue ..
  rw [lanesTake, lanesTake, queue, hq, List.length_cons, takeEntries, hl, hq]

theorem lanesTake_idle (h : s.queue = [] ∨ idleLane s = none) : lanesTake s = s := by
  obtain h | h := h
  · rw [lanesTake, h, List.length_nil, takeEntries]
  · rw [lanesTake]
    cases s.queue.length with
    | zero => rfl
    | succ n => simp only [takeEntries, h]

/-! ### A job's start and its end -/

/-- A chapter that is rendered or rejected, with its result group and its notice. -/
theorem enterState_writeResult (h : s.chapters[c] = some r) (g : ResultGroup) (st : ChapterState) (cause : Cause) :
    enterState c st cause (writeResult c g s) = broadcast (notice .chapterState c.val (chapterCode st) (causeCode cause))
      (setChapter c (some { r with state := st, result := some g }) s) := by
  rw [enterState, chapterNotice, writeResult, modChapter_of_some h, modChapter_of_some (setChapter_chapters_self ..)]
  simp [setChapter]

/-- The job of a chapter's start, with the chapter's title at hand (R97). -/
theorem freshJob_title {ti : Title} {total : Nat} (ht : s.titles[r.title] = some ti) (ha : r.assembled = some total) :
    freshJob s c r (titleProfileNo s r.title) origin = {
      chapter := c, origin := origin, profileNo := ti.profile, profile := s.profiles[ti.profile], title := r.title
      rate := ti.rate, position := r.position, total := total, phase := .measure, done := 0, input := Meter.clear
      li := 0, inPeak := 0, gain := 0, chain := Chain.start, output := Meter.clear, header := [], assembly := []
      pageIndex := 1, waiting := [], inHand := [], finishing := none, blocks := [], pages := [], read := none } := by
  have number : titleProfileNo s r.title = ti.profile := by simp only [titleProfileNo, ht]
  have rate : titleRate s r.title = ti.rate := by simp only [titleRate, ht]
  rw [freshJob, number, rate, ha, Option.getD_some]

/-- A job begins MEASURE unless it is too long (R97, R104). -/
theorem beginJob_of_some (h : s.chapters[c] = some r) : beginJob l c origin s =
    if tooLong (freshJob s c r (titleProfileNo s r.title) origin) then
      enterState c .rejected .tooLong
        (writeResult c (partialResult (freshJob s c r (titleProfileNo s r.title) origin) [.tooLong]) (setLane l none s))
    else setLane l (some (freshJob s c r (titleProfileNo s r.title) origin)) s := by
  simp only [beginJob, h]

/-- A lane that is cleared is IDLE, and the catalogue and the queue stay (R105). -/
theorem clearLane_lets_go (l : Lane) (s : State) :
    (clearLane l s).lanes[l] = none ∧ (clearLane l s).chapters = s.chapters ∧ (clearLane l s).takes = s.takes ∧
      (clearLane l s).queue = s.queue := by
  refine ⟨clearLane_lanes_self l s, ?_, ?_, ?_⟩ <;> rw [clearLane_eq]

theorem headerBytes_length (j : Job) (f : Finish) : (headerBytes j f).length = 32 := rfl

/-- Settles O28: the start of a job by the length of the sequence, its abort by what goes with its lane, and its end by
its outcome. -/
theorem jobStartsAbortsAndEnds : Obligations.JobStartsAbortsAndEnds := by
  refine ⟨fun s => ⟨fun l e rest hl below hq => lanesTake_cons (idleLane_eq_some hl below) hq,
    fun h => lanesTake_idle (h.imp_right idleLane_eq_none)⟩, ?_, ?_, ?_, fun j f => ⟨headerBytes_length j f, rfl⟩⟩
  · rintro s _ l c origin r ti total h ht ha rfl
    have long : tooLong (freshJob s c r (titleProfileNo s r.title) origin) = true ↔
        s.profiles[ti.profile].maxLen * blockLength ti.rate < total := by
      rw [freshJob_title ht ha, tooLong, decide_eq_true_iff]
    refine ⟨fun fits => ?_, fun exceeds => ?_⟩
    · rw [beginJob_of_some h, if_neg (by rw [long]; omega), freshJob_title ht ha]
    · have record : (setLane l none s).chapters[c] = some r := h
      rw [beginJob_of_some h, if_pos (long.mpr exceeds), freshJob_title ht ha, enterState_writeResult record]
      rfl
  · rintro s _ l j hj rfl
    obtain ⟨lane, chapters, takes, queue⟩ := clearLane_lets_go l s
    have gone := releases_clearLane hj
    refine ⟨lane, gone.dirty, gone.erased, chapters, takes, queue, fun i page bytes target hb => ?_,
      fun i g page slot bytes hb => ?_, fun b g ha => ?_, fun g slot ha => ?_⟩
    · simpa [hb, BufferLosing] using gone.buffers i
    · simpa [hb, BufferLosing] using gone.buffers i
    · simp [gone.array, ha, arrayLosing]
    · simp [gone.array, ha, arrayLosing]
  · intro s l j f r hj hf h
    have record : (setLane l none s).chapters[j.chapter] = some r := h
    rw [jobEnd_eq hj hf, jobLeft]
    by_cases passed : f.reasons = []
    · rw [if_pos passed, enterState_writeResult record]
      simp only [if_pos passed]
      rfl
    · rw [if_neg passed, enterState_writeResult record]
      simp only [if_neg passed]
      rfl

end Sys2Proof.Machine

/-! METER_BLOCK, the frames of ENCODE and the end of the pass (R100, R101, R103, R114, R118, R119, R146, R157 to
R161). -/

namespace Sys2Proof.Machine

variable {s t : State} {l : Lane} {j : Job} {m : Meter} {n : Nat} {pr : Profile} {lo floor : Option Int}
  {clips head tail : Nat}

/-! ### The meter of a pass -/

/-- A full block of the input meter. -/
theorem meterBlockDue_input (h : n ≤ m.count) : meterBlockDue n none m =
    { m with hist := histAdd m.hist (m.energy / n), blocks := m.blocks + 1, energy := 0, count := 0 } := by
  rw [meterBlockDue, meterFull, if_pos (decide_eq_true h), meterBlock]

theorem meterEdges_eq (qs c : Int) (m : Meter) : meterEdges qs c m = { m with
    floor := some ((m.floor.map (min · c)).getD c)
    head := if decide (c < qs) = true ∧ m.headClosed = false then m.head + 1 else m.head
    headClosed := m.headClosed || !decide (c < qs)
    tail := if decide (c < qs) = true then m.tail + 1 else 0 } := by
  unfold meterEdges
  cases m.floor <;> cases m.headClosed <;> simp

/-- A full block of the output meter, with the edges of its code (R118, R119). -/
theorem meterBlockDue_output (h : n ≤ m.count) (qs : Int) : meterBlockDue n (some qs) m =
    { m with
      hist := histAdd m.hist (m.energy / n), blocks := m.blocks + 1, energy := 0, count := 0
      floor := some ((m.floor.map (min · (loudnessCode (m.energy / n)))).getD (loudnessCode (m.energy / n)))
      head := if decide (loudnessCode (m.energy / n) < qs) = true ∧ m.headClosed = false then m.head + 1 else m.head
      headClosed := m.headClosed || !decide (loudnessCode (m.energy / n) < qs)
      tail := if decide (loudnessCode (m.energy / n) < qs) = true then m.tail + 1 else 0 } := by
  rw [meterBlockDue, meterFull, if_pos (decide_eq_true h), meterBlock]
  simp only [meterEdges_eq]

/-- METER_BLOCK on the job of a lane. -/
theorem exec_meterBlock (hj : s.lanes[l] = some j) :
    exec (.meterBlock l) s = .next (commit s (setLane l (some (blockMeasured j)) s)) :=
  congrArg (fun u => Host.Outcome.next (commit s u)) (modJob_of_some hj blockMeasured)

theorem blockMeasured_measure (h : j.phase = .measure) :
    blockMeasured j = { j with input := meterBlockDue (blockLength j.rate) none j.input } := by
  simp only [blockMeasured, h]

theorem blockMeasured_encode (h : j.phase = .encode) :
    blockMeasured j = { j with output := meterBlockDue (blockLength j.rate) (some j.profile.qs) j.output } := by
  simp only [blockMeasured, h]

/-! ### The frames of ENCODE -/

theorem frameReady_iff : frameReady j = true ↔ j.phase = .encode ∧ j.finishing = none ∧ j.waiting = [] ∧
    j.assembly.length < 3072 ∧ j.chain.framesDone < frameCount j.total (frameLength j.rate) ∧
    j.inHand.length = frameSize j.total (frameLength j.rate) j.chain.framesDone := by
  simp only [frameReady, Bool.and_eq_true, beq_iff_eq, Option.isNone_iff_eq_none, List.isEmpty_iff, decide_eq_true_eq,
    and_assoc]
  exact Iff.rfl

theorem exec_encodeFrame (hj : s.lanes[l] = some j) (h : frameReady j = true) :
    exec (.encodeFrame l) s = .next (commit s (encodeEndDue l (setLane l (some (frameCoded j)) s))) := by
  show execEncodeFrame l s = _
  simp only [execEncodeFrame, hj, h, if_true, modJob_of_some hj]

/-! ### The verify (R157 to R161) -/

theorem verify_nodup : (verify pr lo clips floor head tail).Nodup := List.Nodup.filter _ (by decide)

theorem mem_loud : (.loudLow ∈ verify pr lo clips floor head tail ↔ ∃ v, lo = some v ∧ v < pr.target - pr.tolerance) ∧
    (.loudHigh ∈ verify pr lo clips floor head tail ↔ ∃ v, lo = some v ∧ pr.target + pr.tolerance < v) ∧
    (.silent ∈ verify pr lo clips floor head tail ↔ lo = none) := by
  simp [verify, allReasons, Option.any_eq_true]

theorem mem_limits : (.clips ∈ verify pr lo clips floor head tail ↔ pr.clips < clips) ∧
    (.floor ∈ verify pr lo clips floor head tail ↔ ∃ v, floor = some v ∧ pr.floorMax < v) ∧
    (.headShort ∈ verify pr lo clips floor head tail ↔ head < pr.hmin) ∧
    (.headLong ∈ verify pr lo clips floor head tail ↔ pr.hmax < head) ∧
    (.tailShort ∈ verify pr lo clips floor head tail ↔ tail < pr.tmin) ∧
    (.tailLong ∈ verify pr lo clips floor head tail ↔ pr.tmax < tail) ∧
    .tooLong ∉ verify pr lo clips floor head tail := by
  simp [verify, allReasons, Option.any_eq_true]

/-! ### The end of ENCODE (R101, R103) -/

theorem encodeOver_iff : encodeOver j = true ↔ j.phase = .encode ∧ j.finishing = none ∧ j.waiting = [] ∧
    frameCount j.total (frameLength j.rate) ≤ j.chain.framesDone := by
  simp only [encodeOver, Bool.and_eq_true, beq_iff_eq, Option.isNone_iff_eq_none, List.isEmpty_iff, decide_eq_true_eq,
    and_assoc]
  exact Iff.rfl

/-- An output that passes, or is kept, is finished. -/
theorem encodeEndDue_finishes (hj : s.lanes[l] = some j) (h : encodeOver j = true)
    (hf : (outcomeOf j).reasons = [] ∨ j.profile.keep = true) : encodeEndDue l s =
      setLane l (some { j with finishing := some (outcomeOf j), output := meterCompleted j.output }) s := by
  simp only [encodeEndDue, hj, h, if_true, if_pos hf, modJob_of_some hj]

/-- Any other rejects the chapter with its measurements. -/
theorem encodeEndDue_rejects (hj : s.lanes[l] = some j) (h : encodeOver j = true)
    (hf : ¬ ((outcomeOf j).reasons = [] ∨ j.profile.keep = true)) : encodeEndDue l s =
      lanesTake (enterState j.chapter .rejected .failed
        (writeResult j.chapter (fullResult j (outcomeOf j) none) (clearLane l s))) := by
  simp only [encodeEndDue, hj, h, if_true, if_neg hf]

/-- Settles O30: the meter and the frame of a lane's pass, the room in the two pages, the verify reason by reason, and
the two ends of the pass. -/
theorem meterBlockAndEncodePass : Obligations.MeterBlockAndEncodePass := by
  refine ⟨?_, ?_, ?_, ?_, ?_⟩
  · rintro s l j _ hj rfl
    refine ⟨fun hp hn => ?_, fun hp hn => ⟨_, _, rfl, rfl, ?_⟩⟩
    · rw [exec_meterBlock hj, blockMeasured_measure hp, meterBlockDue_input hn]
    · rw [exec_meterBlock hj, blockMeasured_encode hp, meterBlockDue_output hn]
  · rintro s l j _ ch rs bytes hj hphase hfin hwait hroom hleft hhand hcode rfl
    rw [exec_encodeFrame hj (frameReady_iff.mpr ⟨hphase, hfin, hwait, hroom, hleft, hhand⟩), frameCoded, hcode]
  · rintro bytes j _ _ rfl rfl
    simp only [placeBytes, List.drop_drop]
    rfl
  · rintro j _ rfl
    obtain ⟨low, high, silent⟩ := mem_loud (pr := j.profile) (clips := j.chain.clips) (floor := j.output.floor)
      (head := j.output.head) (tail := j.output.tail) (lo := gated j.profile.ga j.profile.roff j.output.hist)
    refine ⟨rfl, rfl, rfl, rfl, rfl, verify_nodup, fun lo hlo => ?_, fun hlo => ?_, mem_limits⟩
    · exact ⟨congrArg (·.getD (-900)) hlo, fun h => by simp [silent.mp h] at hlo, low.trans (by simp [hlo]),
        high.trans (by simp [hlo])⟩
    · exact ⟨congrArg (·.getD (-900)) hlo, silent.mpr hlo, mt low.mp (by simp [hlo]), mt high.mp (by simp [hlo])⟩
  · rintro s l j _ hj hphase hfin hwait hdone rfl
    have isOver := encodeOver_iff.mpr ⟨hphase, hfin, hwait, hdone⟩
    have ends : exec (.encodeEnd l) s = .next (commit s (encodeEndDue l s)) := rfl
    refine ⟨fun hf => ?_, fun hf hk => ?_⟩
    · rw [ends, encodeEndDue_finishes hj isOver hf, meterCompleted]
    · rw [ends, encodeEndDue_rejects hj isOver (by simp [hf, hk]), writeResult]

end Sys2Proof.Machine
